-- ==== Sys2Proof/Word.lean ====
section
/-! DEFINITION. The word types of the FS3200's interfaces and the plainest arithmetic on numbers.
Quantities that the manual gives a range (not a bit width) are natural numbers or integers. -/

namespace Sys2Proof

/-- One byte of a request-port frame (R176), or the eight data bits of a cabinet link character (R21). -/
abbrev Byte := BitVec 8

/-- A value clamped to `lo..hi`: replaced by the nearer end of its range (00_scope 5.4). -/
def clampNat (lo hi x : Nat) : Nat := max lo (min hi x)

/-- A signed value clamped to `lo..hi` (00_scope 5.4). -/
def clampInt (lo hi x : Int) : Int := max lo (min hi x)

end Sys2Proof
end

