-- ==== Sys2Proof/Config.lean ====
section
/-! DEFINITION. What the part fixes: the numbers of its slots and entries (00_scope 5.2), the limits of its
counts, and the one value the manual leaves open (a constant with no body). -/

namespace Sys2Proof.Config

/-- Cabinets are numbered 1..24. -/
def cabinetCount : Nat := 24
/-- Groups are numbered 1..4. -/
def groupCount : Nat := 4
/-- String slots are numbered 1..64. -/
def stringCount : Nat := 64
/-- Positions in a cabinet are numbered 1..4. -/
def positionCount : Nat := 4
/-- Profiles are numbered 1..4. -/
def profileCount : Nat := 4
/-- Permit slots are numbered 1..8. -/
def permitCount : Nat := 8
/-- Visit slots are numbered 1..4. -/
def visitCount : Nat := 4
/-- Work items are numbered 1..12 within a visit. -/
def itemCount : Nat := 12

/-- The life accumulator saturates here (R73). -/
def lifeLimit : Nat := 1500000000
/-- The last-report age saturates here (R14). -/
def ageLimit : Nat := 65535
/-- The minutes since the last resistance measurement saturate here (R70). -/
def sinceLimit : Nat := 999999
/-- The cumulative link error count saturates here (R31). -/
def errorLimit : Nat := 255
/-- The largest load that is taken as reported, in 0.1 kW (R13). -/
def loadLimit : Nat := 8000
/-- Event minutes, event charge and the idle bucket saturate here (R65, R67, R84). -/
def chargeLimit : Nat := 65535
/-- The autonomy is clamped here (R104). -/
def autonomyLimit : Nat := 9999
/-- The spare count saturates here (R100). -/
def spareLimit : Nat := 23
/-- The longest body a REQUEST frame may announce (R179). -/
def bodyLimit : Nat := 60
/-- The longest utility filter time, in ms (R8); the model's filter timer stops here (log entry 6). -/
def filterLimit : Nat := 50

/-- FREE VALUE (log entry 13): the store-wide write count after a start that finds no good image at all.
R162 resumes the count "from the largest write number found in a good image, plus 1" and states
nothing for a store without a good image. -/
opaque countWithNoGoodImage : BitVec 48

end Sys2Proof.Config
end

