-- ==== Sys2Proof/Syntax.lean ====
section
/-! DEFINITION. The commands of the FS3200: one constructor of `Instr` for each row of the table of operations
and events, with the row's operands. A REQUEST row carries the rest of its frame as received, so that the
port's judgement of length (R179) and the byte layouts (R192) are part of the model. -/

namespace Sys2Proof

/-- What follows the request code in a REQUEST frame (R179, R191): the length byte, absent when the frame
ends before it, and every byte after it. -/
structure RequestFrame where
  len  : Option Byte
  body : List Byte
  deriving DecidableEq, Repr

/-- The three samples the receiver takes of one bit (R22); `true` is mark level, `false` is space. -/
structure Sample where
  first  : Bool
  second : Bool
  third  : Bool
  deriving DecidableEq, Repr

/-- One character as it arrives on the cabinet link (R21): start bit, eight data bits, the mark, stop bit. -/
structure RawChar where
  start : Sample
  d0 : Sample
  d1 : Sample
  d2 : Sample
  d3 : Sample
  d4 : Sample
  d5 : Sample
  d6 : Sample
  d7 : Sample
  mark : Sample
  stop : Sample
  deriving DecidableEq, Repr

/-- What the read-back at the end of an image write finds (R164, R166): it matches, or it differs, and then
the cells hold either an image whose check still matches (the content written) or a bad one. -/
inductive WriteOutcome where
  | matched
  | differs (checkGood : Bool)
  deriving DecidableEq, Repr

/-- The commands, one for each row of the table. -/
inductive Instr where
  /-- FLOOR READ (R10). -/
  | floorRead (f : RequestFrame)
  /-- FLOOR CONFIG WRITE (R9). -/
  | floorConfigWrite (f : RequestFrame)
  /-- CLOCK SET (R2). -/
  | clockSet (f : RequestFrame)
  /-- ATTENTION READ (R188). -/
  | attentionRead (f : RequestFrame)
  /-- CABINET SET (R16, R17). -/
  | cabinetSet (f : RequestFrame)
  /-- CABINET DROP (R18). -/
  | cabinetDrop (f : RequestFrame)
  /-- CABINET READ (R19). -/
  | cabinetRead (f : RequestFrame)
  /-- PROFILE WRITE (R47, R48). -/
  | profileWrite (f : RequestFrame)
  /-- PROFILE READ (R49). -/
  | profileRead (f : RequestFrame)
  /-- STRING COMMISSION (R57, R58). -/
  | stringCommission (f : RequestFrame)
  /-- STRING READ (R59). -/
  | stringRead (f : RequestFrame)
  /-- STRING PULSE (R60). -/
  | stringPulse (f : RequestFrame)
  /-- STRING DROP (R61). -/
  | stringDrop (f : RequestFrame)
  /-- PERMIT ASK (R113, R114). -/
  | permitAsk (f : RequestFrame)
  /-- PERMIT READ (R130). -/
  | permitRead (f : RequestFrame)
  /-- PERMIT RECALL (R129). -/
  | permitRecall (f : RequestFrame)
  /-- PERMIT CANCEL (R128). -/
  | permitCancel (f : RequestFrame)
  /-- VISIT OPEN (R142). -/
  | visitOpen (f : RequestFrame)
  /-- VISIT ADD (R143, R144). -/
  | visitAdd (f : RequestFrame)
  /-- VISIT START (R145, R146). -/
  | visitStart (f : RequestFrame)
  /-- VISIT FINISH (R148 to R150). -/
  | visitFinish (f : RequestFrame)
  /-- VISIT ABANDON (R152). -/
  | visitAbandon (f : RequestFrame)
  /-- VISIT CLOSE (R156, R157). -/
  | visitClose (f : RequestFrame)
  /-- VISIT READ (R158). -/
  | visitRead (f : RequestFrame)
  /-- A REQUEST frame whose code names no request (R179). -/
  | unknownRequest (code : Byte) (f : RequestFrame)
  /-- A frame of one byte, whatever value it holds (R176). -/
  | statusPeek (first : Byte)
  /-- A frame of two bytes or more whose first byte names no frame type (R176). -/
  | disregardedFrame (first : Byte) (rest : List Byte)
  /-- A FETCH frame; `rest` are the bytes the host sends after the first, disregarded but counted (R181). -/
  | fetch (rest : List Byte)
  /-- An URGENT frame: the order byte and the disregarded bytes after it (R183, R191). -/
  | urgent (order : Byte) (rest : List Byte)
  /-- An URGENT CANCEL frame and the disregarded bytes after its first (R185, R191). -/
  | urgentCancel (rest : List Byte)
  /-- A PORT RESET frame and the disregarded bytes after its first (R189, R191). -/
  | portReset (rest : List Byte)
  /-- The start of a poll slot proper (R25, R28). `orderFirst` says which of the two happens first at this slot
  start, the taking of the urgent order or the forming of the poll, which R25 leaves open (log entry 4). -/
  | pollSlot (orderFirst : Bool)
  /-- The start of a break slot (R24, R25). -/
  | breakSlot
  /-- The start of an idle slot (R25, R26). -/
  | idleSlot
  /-- The decision point 2 ms after the window opens, with no character begun (R29). -/
  | noReply
  /-- The decision point 20 ms after the window opens, with a reply begun and not ended (R29). -/
  | noReplyInTime
  /-- The end of a reply in time, with its characters as sampled (R22, R29, R30). -/
  | replyEnd (chars : List RawChar)
  /-- The judgement of a waiting ask whose wait set is empty (R118). -/
  | askWaitEnd
  /-- The end of a waiting ask before its set is empty (R116). -/
  | askEarlyEnd
  /-- The minute tick (R3). -/
  | minuteTick
  /-- The minute tick reaching the record in `slot`, whose calendar window it completes (R76, R81). -/
  | calendarStep (slot : Nat)
  /-- The minute tick reaching the record in `slot`, whose pulse interval it completes (R70). -/
  | automaticPulse (slot : Nat)
  /-- The minute tick reaching the Granted permit in `slot`, whose grant timeout it ends (R122). -/
  | grantTimeout (slot : Nat)
  /-- The minute tick reaching the Active permit in `slot`, whose last minute it ends (R123). -/
  | permitOverdue (slot : Nat)
  /-- The minute tick reaching the open visit in `slot`, whose last minute it ends (R155). -/
  | visitOvertime (slot : Nat)
  /-- A change of the UTILITY SENSE level, to `high` (R4). -/
  | utilitySenseEdge (high : Bool)
  /-- The level of UTILITY SENSE comes to have held for the filter time, and the filter judges it (R4 to R6). -/
  | utilityChange
  /-- The idle store writer begins the write of the oldest queue entry (R164). -/
  | storeWriteBegin
  /-- The image write in flight ends, with what its read-back finds (R164 to R166). -/
  | storeWriteEnd (outcome : WriteOutcome)
  /-- The supply has risen: a POWER ON start (R169). -/
  | powerOn
  /-- Power is lost (R167). -/
  | powerLoss
  /-- RESET is asserted: a write in flight goes on to its end while the line is held (R168); `outcome` is how it ends when no
  STORE WRITE END comes before the release. -/
  | resetAssert (outcome : WriteOutcome)
  /-- RESET is released: a RESET LINE start (R169). -/
  | resetLine
  /-- The first utility filter time of the start has passed (R172 to R175). -/
  | firstUtilityJudgement
  /-- One second of the internal time base (R1). -/
  | floorClockSecond
  /-- The host asserts chip-select (R177). -/
  | chipSelectAssertion
  deriving DecidableEq, Repr

end Sys2Proof
end

