-- ==== Sys2Proof/Decode.lean ====
section
/-! DEFINITION. The opcode table gives no row any bits, so no word spells a command. What has an encoding is
the request port's frame: R176, R191 and R192 give its bytes, and `decodeFrame` and `encodeFrame` here read
and write them. -/

namespace Sys2Proof

/-- The command that a word spells by the bits of the opcode table: the table gives no row any bits. -/
def decodeTableWord (_nbits _w : Nat) : Option Instr := none

/-- The first byte of a REQUEST frame (R191). -/
def frameRequest : Byte := 0xA1
/-- The first byte of a FETCH frame (R191). -/
def frameFetch : Byte := 0xA2
/-- The first byte of an URGENT frame (R191). -/
def frameUrgent : Byte := 0xA3
/-- The first byte of an URGENT CANCEL frame (R191). -/
def frameUrgentCancel : Byte := 0xA4
/-- The first byte of a PORT RESET frame (R191). -/
def framePortReset : Byte := 0xA5

/-- The request codes of the catalogue (R192), each with the request it names. -/
def requestOfCode (c : Byte) (f : RequestFrame) : Option Instr :=
  if c = 0x01 then some (.floorRead f)
  else if c = 0x02 then some (.floorConfigWrite f)
  else if c = 0x03 then some (.clockSet f)
  else if c = 0x04 then some (.attentionRead f)
  else if c = 0x10 then some (.cabinetSet f)
  else if c = 0x11 then some (.cabinetDrop f)
  else if c = 0x12 then some (.cabinetRead f)
  else if c = 0x20 then some (.profileWrite f)
  else if c = 0x21 then some (.profileRead f)
  else if c = 0x22 then some (.stringCommission f)
  else if c = 0x23 then some (.stringRead f)
  else if c = 0x24 then some (.stringPulse f)
  else if c = 0x25 then some (.stringDrop f)
  else if c = 0x30 then some (.permitAsk f)
  else if c = 0x31 then some (.permitRead f)
  else if c = 0x32 then some (.permitRecall f)
  else if c = 0x33 then some (.permitCancel f)
  else if c = 0x40 then some (.visitOpen f)
  else if c = 0x41 then some (.visitAdd f)
  else if c = 0x42 then some (.visitStart f)
  else if c = 0x43 then some (.visitFinish f)
  else if c = 0x44 then some (.visitAbandon f)
  else if c = 0x45 then some (.visitClose f)
  else if c = 0x46 then some (.visitRead f)
  else none

/-- The request code and body length of the catalogue row a command belongs to (R192), for the commands that
are requests of the catalogue. -/
def requestRow : Instr → Option (Byte × Nat)
  | .floorRead _ => some (0x01, 0)
  | .floorConfigWrite _ => some (0x02, 17)
  | .clockSet _ => some (0x03, 4)
  | .attentionRead _ => some (0x04, 0)
  | .cabinetSet _ => some (0x10, 4)
  | .cabinetDrop _ => some (0x11, 1)
  | .cabinetRead _ => some (0x12, 2)
  | .profileWrite _ => some (0x20, 31)
  | .profileRead _ => some (0x21, 1)
  | .stringCommission _ => some (0x22, 9)
  | .stringRead _ => some (0x23, 1)
  | .stringPulse _ => some (0x24, 1)
  | .stringDrop _ => some (0x25, 1)
  | .permitAsk _ => some (0x30, 4)
  | .permitRead _ => some (0x31, 1)
  | .permitRecall _ => some (0x32, 1)
  | .permitCancel _ => some (0x33, 1)
  | .visitOpen _ => some (0x40, 4)
  | .visitAdd _ => some (0x41, 3)
  | .visitStart _ => some (0x42, 2)
  | .visitFinish _ => some (0x43, 7)
  | .visitAbandon _ => some (0x44, 2)
  | .visitClose _ => some (0x45, 1)
  | .visitRead _ => some (0x46, 1)
  | .unknownRequest _ _ => none
  | .statusPeek _ => none
  | .disregardedFrame _ _ => none
  | .fetch _ => none
  | .urgent _ _ => none
  | .urgentCancel _ => none
  | .portReset _ => none
  | .pollSlot _ => none
  | .breakSlot => none
  | .idleSlot => none
  | .noReply => none
  | .noReplyInTime => none
  | .replyEnd _ => none
  | .askWaitEnd => none
  | .askEarlyEnd => none
  | .minuteTick => none
  | .calendarStep _ => none
  | .automaticPulse _ => none
  | .grantTimeout _ => none
  | .permitOverdue _ => none
  | .visitOvertime _ => none
  | .utilitySenseEdge _ => none
  | .utilityChange => none
  | .storeWriteBegin => none
  | .storeWriteEnd _ => none
  | .powerOn => none
  | .powerLoss => none
  | .resetAssert _ => none
  | .resetLine => none
  | .firstUtilityJudgement => none
  | .floorClockSecond => none
  | .chipSelectAssertion => none

/-- The frame of a request: the length byte and the body behind the code (R191). -/
def requestFrame : Instr → Option RequestFrame
  | .floorRead f => some f
  | .floorConfigWrite f => some f
  | .clockSet f => some f
  | .attentionRead f => some f
  | .cabinetSet f => some f
  | .cabinetDrop f => some f
  | .cabinetRead f => some f
  | .profileWrite f => some f
  | .profileRead f => some f
  | .stringCommission f => some f
  | .stringRead f => some f
  | .stringPulse f => some f
  | .stringDrop f => some f
  | .permitAsk f => some f
  | .permitRead f => some f
  | .permitRecall f => some f
  | .permitCancel f => some f
  | .visitOpen f => some f
  | .visitAdd f => some f
  | .visitStart f => some f
  | .visitFinish f => some f
  | .visitAbandon f => some f
  | .visitClose f => some f
  | .visitRead f => some f
  | .unknownRequest _ f => some f
  | .statusPeek _ => none
  | .disregardedFrame _ _ => none
  | .fetch _ => none
  | .urgent _ _ => none
  | .urgentCancel _ => none
  | .portReset _ => none
  | .pollSlot _ => none
  | .breakSlot => none
  | .idleSlot => none
  | .noReply => none
  | .noReplyInTime => none
  | .replyEnd _ => none
  | .askWaitEnd => none
  | .askEarlyEnd => none
  | .minuteTick => none
  | .calendarStep _ => none
  | .automaticPulse _ => none
  | .grantTimeout _ => none
  | .permitOverdue _ => none
  | .visitOvertime _ => none
  | .utilitySenseEdge _ => none
  | .utilityChange => none
  | .storeWriteBegin => none
  | .storeWriteEnd _ => none
  | .powerOn => none
  | .powerLoss => none
  | .resetAssert _ => none
  | .resetLine => none
  | .firstUtilityJudgement => none
  | .floorClockSecond => none
  | .chipSelectAssertion => none

/-- The length byte and the body, as the bytes that stand for them: without a length byte there is no body. -/
def requestTail (f : RequestFrame) : List Byte :=
  match f.len with
  | none => []
  | some l => l :: f.body

/-- The length byte and the body read from the bytes behind a request code (R191). -/
def tailFrame : List Byte → RequestFrame
  | [] => { len := none, body := [] }
  | l :: body => { len := some l, body := body }

/-- The command a whole frame of the request port is (R176, R191, R192); `none` for a frame without a whole
byte. -/
def decodeFrame : List Byte → Option Instr
  | [] => none
  | [b] => some (.statusPeek b)
  | b :: x :: rest =>
    if b = frameRequest then
      match requestOfCode x (tailFrame rest) with
      | some i => some i
      | none => some (.unknownRequest x (tailFrame rest))
    else if b = frameFetch then some (.fetch (x :: rest))
    else if b = frameUrgent then some (.urgent x rest)
    else if b = frameUrgentCancel then some (.urgentCancel (x :: rest))
    else if b = framePortReset then some (.portReset (x :: rest))
    else some (.disregardedFrame b (x :: rest))

/-- The bytes of a frame, for the commands that are not requests of the catalogue (R176, R191). -/
def encodeOtherFrame : Instr → Option (List Byte)
  | .unknownRequest c f => some (frameRequest :: c :: requestTail f)
  | .statusPeek b => some [b]
  | .disregardedFrame b rest => some (b :: rest)
  | .fetch rest => some (frameFetch :: rest)
  | .urgent o rest => some (frameUrgent :: o :: rest)
  | .urgentCancel rest => some (frameUrgentCancel :: rest)
  | .portReset rest => some (framePortReset :: rest)
  | _ => none

/-- The bytes of the frame that a command is; `none` for the commands that are no frame. -/
def encodeFrame (i : Instr) : Option (List Byte) :=
  match requestRow i, requestFrame i with
  | some (c, _), some f => some (frameRequest :: c :: requestTail f)
  | _, _ => encodeOtherFrame i

end Sys2Proof
end

