-- ==== Sys2Proof/Machine/State.lean ====
section
/-! DEFINITION. The state of the FS3200 as plain data: the record tables each block owns, the link, the record
store and its images, the request port, the attention set, and the queue of waiting commands. -/

namespace Sys2Proof.Machine

/-! ## The enumerated values (R194 and the rules that name them) -/

/-- A cabinet's mode (R11). -/
inductive Mode where
  | unknown | inverter | battery | staticBypass | maintenanceBypass | off | faulted
  deriving DecidableEq, Repr

/-- A cabinet's link state (R33). -/
inductive LinkState where
  | unsynced | online | silent | lost
  deriving DecidableEq, Repr

/-- The interlock notices (R40). -/
inductive Notice where
  | grant | withdraw | recall
  deriving DecidableEq, Repr

/-- The judgement of the floor's feed (section 1.3). -/
inductive UtilityState where
  | unknown | present | lost
  deriving DecidableEq, Repr

/-- The states of a string record (R50). -/
inductive StringState where
  | good | watch | due | suspect | retiring | retired
  deriving DecidableEq, Repr

/-- The states of a standing permit (R110); Closed is the state of a free slot. -/
inductive PermitState where
  | granted | active | overdue | returning
  deriving DecidableEq, Repr

/-- The kinds of work item (R140). -/
inductive ItemKind where
  | inspectCabinet | replaceString | capacityTest | baseline
  deriving DecidableEq, Repr

/-- The states of a work item (R139). -/
inductive ItemState where
  | pending | inProgress | interrupted | done | abandoned
  deriving DecidableEq, Repr

/-- The two start causes (R169). -/
inductive StartCause where
  | powerOn | resetLine
  deriving DecidableEq, Repr

/-- The states of the request port (R178). -/
inductive PortState where
  | starting | idle | working | replyReady
  deriving DecidableEq, Repr

/-- The urgent orders (R183). -/
inductive Order where
  | hold | release | recallAll
  deriving DecidableEq, Repr

/-- A group's margin status (R105). -/
inductive MarginStatus where
  | met | short
  deriving DecidableEq, Repr

/-- Whether the part has its supply and whether RESET holds it (R167 to R169). -/
inductive Phase where
  | unpowered | inReset | running
  deriving DecidableEq, Repr

/-! ## Records -/

/-- The floor configuration (R8). -/
structure FloorConfig where
  spare1 : Nat
  spare2 : Nat
  spare3 : Nat
  spare4 : Nat
  headroom : Nat
  autonomyFloor : Nat
  efficiency : Nat
  maxPermit : Nat
  grantTimeout : Nat
  maxVisit : Nat
  filterTime : Nat
  /-- Bit n − 1 enables attention cause n (R192). -/
  mask : BitVec 12
  deriving DecidableEq, Repr

/-- The defaults of R8. -/
def FloorConfig.default : FloorConfig :=
  { spare1 := 1, spare2 := 1, spare3 := 1, spare4 := 1, headroom := 100, autonomyFloor := 10, efficiency := 920,
    maxPermit := 240, grantTimeout := 15, maxVisit := 480, filterTime := 10, mask := 0xFFF }

/-- One posting in a notice slot: postings are distinct even when they carry the same notice (R40). -/
structure Posting where
  notice : Notice
  serial : Nat
  deriving DecidableEq, Repr

/-- A Present entry of the Cabinet Table (R11). -/
structure Cabinet where
  group : Nat
  rated : Nat
  mode : Mode
  load : Nat
  age : Nat
  unauthorised : Bool
  link : LinkState
  expected : Bool
  ack : Bool
  notice : Option Posting
  /-- Bit p − 1 is the pulse bit of position p (R43). -/
  pulse : BitVec 4
  errors : Nat
  failures : Nat
  deriving DecidableEq, Repr

/-- The stored fields of a cabinet, the contents of its image (R11, R161). -/
structure CabinetImage where
  group : Nat
  rated : Nat
  deriving DecidableEq, Repr

/-- A Filled profile (R46). -/
structure Profile where
  capacity : Nat
  voltage : Nat
  life : Nat
  tref : Int
  step : Nat
  cycles : Nat
  w1 : Nat
  w2 : Nat
  w3 : Nat
  w4 : Nat
  reol : Nat
  watch : Nat
  replace : Nat
  assumed : Int
  interval : Nat
  deriving DecidableEq, Repr

/-- An open discharge event (R66). -/
structure DischargeEvent where
  minutes : Nat
  charge : Nat
  lowest : Nat
  deriving DecidableEq, Repr

/-- A record of the String Table (R50), with the indicators held beside SoH (R86, R87). -/
structure StringRecord where
  cabinet : Option Nat
  position : Nat
  profile : Nat
  day : Nat
  rb : Option Nat
  r : Nat
  voltage : Nat
  current : Int
  temperature : Int
  life : Nat
  m : Nat
  s : Int
  bucket : Nat
  event : Option DischargeEvent
  soh : Nat
  resistanceIndicator : Nat
  lifeIndicator : Nat
  suspect : Bool
  state : StringState
  sinceR : Nat
  owner : Option Nat
  deriving DecidableEq, Repr

/-- A Group Table entry (R94). -/
structure Group where
  required : Nat
  load : Nat
  creq : Nat
  capacity : Nat
  spare : Int
  energy : Nat
  autonomy : Nat
  status : MarginStatus
  deriving DecidableEq, Repr

/-- A standing permit (R110). The grant-timeout minutes are present while it is Granted. -/
structure Permit where
  cabinet : Nat
  visit : Option Nat
  state : PermitState
  remaining : Nat
  timeout : Option Nat
  recallAsked : Bool
  spare : Int
  autonomy : Nat
  deriving DecidableEq, Repr

/-- The ask in its wait (R114). -/
structure Ask where
  cabinet : Nat
  duration : Nat
  visit : Option Nat
  group : Nat
  waitSet : List Nat
  deriving DecidableEq, Repr

/-- The result of a Done work item: profile, value and new string slot, 0 where the kind does not use one
(R140, R192). -/
structure ItemResult where
  profile : Nat
  value : Nat
  newSlot : Nat
  deriving DecidableEq, Repr

/-- A work item (R139). -/
structure Item where
  kind : ItemKind
  target : Nat
  state : ItemState
  permit : Option Nat
  result : Option ItemResult
  deriving DecidableEq, Repr

/-- An open visit (R138). -/
structure Visit where
  badge : Nat
  opened : BitVec 32
  remaining : Nat
  overtime : Bool
  items : List Item
  deriving DecidableEq, Repr

/-! ## The blocks -/

/-- What the Floor block owns beside the configuration and the Cabinet Table. -/
structure Floor where
  /-- Floor clock, in seconds, and its mark (R1). -/
  clock : BitVec 32
  clockSet : Bool
  /-- A minute tick fell during the start-up procedure and waits for its end (R3). -/
  tickHeld : Bool
  /-- The accepted utility state (R5). -/
  utility : UtilityState
  /-- The level of the UTILITY SENSE input; `true` is high. -/
  sense : Bool
  /-- The filter timer: how many ms the present level has held, up to the longest filter time (R4; log 6). -/
  senseHeld : Nat
  /-- The level changed since the configuration was loaded (R172). -/
  senseMoved : Bool
  /-- Hold flag (R7); `true` is On. -/
  hold : Bool
  /-- Cause of the last start (R169). -/
  cause : StartCause
  config : FloorConfig
  deriving DecidableEq, Repr

/-- One character as the FS3200 sends it (R21). -/
structure TxChar where
  mark : Bool
  data : Byte
  deriving DecidableEq, Repr

/-- What the FS3200 puts on the line: a link break, the poll of the slot, or nothing once their time has passed (R20, R24,
R25; log 22). -/
inductive Line where
  | quiet
  | linkBreak
  | poll (chars : List TxChar)
  deriving DecidableEq, Repr

/-- The record kept for the poll in flight (R28). -/
structure Flight where
  cabinet : Nat
  sync : Bool
  posting : Option Posting
  /-- The entry is still the one the poll was sent to (R27). -/
  live : Bool
  /-- The poll was formed after the waiting ask, if any, was taken (R115). -/
  afterAsk : Bool
  deriving DecidableEq, Repr

/-- What the cabinet link controller owns floor-wide (chapter 2). -/
structure Link where
  /-- Cycle counter, 0..7 (R26). -/
  counter : Nat
  /-- The cabinets of the present cycle's list still to be polled, ascending (R26). -/
  remaining : List Nat
  /-- Failure run count, 0..5 (R24). -/
  failureRun : Nat
  /-- The next slot is a break slot (R24). -/
  breakDue : Bool
  /-- The poll whose reply window is open (R28, R29). -/
  flight : Option Flight
  line : Line
  /-- The model's own counter, from which the serial of the next posting is taken (R40, log 5). -/
  nextSerial : Nat
  deriving DecidableEq, Repr

/-- The kinds of image (R161). -/
inductive ImageKind where
  | config | profile | cabinet | string | permit | visit
  deriving DecidableEq, Repr

/-- An image identifier: its kind and its number (R161). -/
structure ImageId where
  kind : ImageKind
  number : Nat
  deriving DecidableEq, Repr

/-- One non-volatile image (R162): whether its check value matches its contents, its write number, its contents. -/
structure Image (α : Type) where
  good : Bool
  number : Nat
  content : α
  deriving DecidableEq, Repr

/-- The 105 images (R161). A `none` records "empty". -/
structure Images where
  config : Image FloorConfig
  profiles : List (Image (Option Profile))
  cabinets : List (Image (Option CabinetImage))
  strings : List (Image (Option StringRecord))
  permits : List (Image (Option Permit))
  visits : List (Image (Option Visit))
  deriving DecidableEq, Repr

/-- The contents of one image. -/
inductive Content where
  | config (c : FloorConfig)
  | profile (p : Option Profile)
  | cabinet (c : Option CabinetImage)
  | string (r : Option StringRecord)
  | permit (p : Option Permit)
  | visit (v : Option Visit)
  deriving DecidableEq, Repr

/-- The image write in flight: what it takes from the record at its beginning (R164). -/
structure ImageWrite where
  id : ImageId
  number : Nat
  content : Content
  deriving DecidableEq, Repr

/-- The record store (chapter 8). -/
structure Store where
  images : Images
  /-- Dirty queue, oldest first (R163). -/
  queue : List ImageId
  /-- The store writer: idle, or the write in flight (R164), which may outlast the assertion of RESET (R168). -/
  writer : Option ImageWrite
  /-- The next value of the store-wide write count (R162). -/
  nextNumber : Nat
  /-- How the write in flight at the assertion of RESET ends, where no STORE WRITE END comes before the release (R168; log
  8). The model's own: it takes no part while RESET is not held. -/
  completion : WriteOutcome
  deriving DecidableEq, Repr

/-- A reply as FETCH shifts it out behind the status byte (R191). -/
structure Reply where
  code : Byte
  result : Byte
  body : List Byte
  deriving DecidableEq, Repr

/-- The request port (chapter 9). -/
structure Port where
  state : PortState
  /-- Reply buffer (R179). -/
  reply : Option Reply
  /-- Request buffer (R179): empty between any two commands, since a frame is one event. -/
  request : List Byte
  /-- Urgent slot (R183). -/
  urgent : Option Order
  /-- URGENT LATE, URGENT DROPPED (R185). -/
  late : Bool
  dropped : Bool
  /-- OVERRUN and the overrun-seen mark (R177, R180). -/
  overrun : Bool
  overrunSeen : Bool
  /-- The status byte captured when chip-select was asserted, while a frame is open (R177). -/
  frame : Option Byte
  /-- The bytes the last frame shifted out on SDO. -/
  sdo : List Byte
  deriving DecidableEq, Repr

/-- The attention set (R186). A cause whose detail is a map is present while the map marks a number; bit n − 1
marks number n. -/
structure Attention where
  utilityChange : Option UtilityState
  marginShort : BitVec 4
  unauthorisedBypass : BitVec 24
  permitOverdue : BitVec 8
  permitChanged : BitVec 8
  cabinetLost : BitVec 24
  cabinetBack : BitVec 24
  visitItemInterrupted : BitVec 4
  visitOvertime : BitVec 4
  stringStateChanged : BitVec 64
  storeFault : Bool
  start : Option (StartCause × Nat)
  deriving DecidableEq, Repr

/-- The whole machine. Tables hold one entry for each number, the first for number 1; `none` is an Absent,
Empty or free entry. -/
structure State where
  phase : Phase
  floor : Floor
  cabinets : List (Option Cabinet)
  link : Link
  profiles : List (Option Profile)
  strings : List (Option StringRecord)
  groups : List Group
  permits : List (Option Permit)
  ask : Option Ask
  visits : List (Option Visit)
  store : Store
  port : Port
  attention : Attention
  /-- The commands that are waiting, first in, first out. -/
  pending : List Instr
  deriving DecidableEq, Repr

/-- A step of this block never stops with a fault: the manual gives every command an effect in every state,
and a command that is not due leaves the records as they are (log entry 2). Nothing raises one. -/
inductive Fault where
  deriving DecidableEq, Repr

/-- Why a command has no meaning. -/
inductive Refusal where
  /-- Raised by `exec` alone, for a row without a meaning; no row of this model is without one. Safe. -/
  | notModelled (mnemonic : String)
  deriving DecidableEq, Repr

/-! ## The values of a start -/

/-- An image as delivered: good, with write number 0 (R162). -/
def deliveredImage {α : Type} (content : α) : Image α := { good := true, number := 0, content := content }

/-- The store as delivered: every image records "empty", the configuration image the defaults (R162). -/
def deliveredImages : Images :=
  { config := deliveredImage FloorConfig.default
    profiles := List.replicate Config.profileCount (deliveredImage none)
    cabinets := List.replicate Config.cabinetCount (deliveredImage none)
    strings := List.replicate Config.stringCount (deliveredImage none)
    permits := List.replicate Config.permitCount (deliveredImage none)
    visits := List.replicate Config.visitCount (deliveredImage none) }

/-- An attention set with no cause present. -/
def Attention.empty : Attention :=
  { utilityChange := none, marginShort := 0, unauthorisedBypass := 0, permitOverdue := 0, permitChanged := 0,
    cabinetLost := 0, cabinetBack := 0, visitItemInterrupted := 0, visitOvertime := 0, stringStateChanged := 0,
    storeFault := false, start := none }

/-- The port as step 1 of the start-up procedure leaves it (R170, R190). -/
def Port.starting : Port :=
  { state := .starting, reply := none, request := [], urgent := none, late := false, dropped := false, overrun := false,
    overrunSeen := false, frame := none, sdo := [] }

/-- The link controller's floor-wide state after a start (R45). -/
def Link.start : Link :=
  { counter := 0, remaining := [], failureRun := 0, breakDue := false, flight := none, line := .quiet, nextSerial := 0 }

/-- A Group Table entry until step 9 of the start-up procedure (R108). -/
def Group.start (required : Nat) : Group :=
  { required := required, load := 0, creq := 0, capacity := 0, spare := 0, energy := 0, autonomy := 9999, status := .short }

/-- The machine right after reset: a part as delivered, after steps 1 to 3 of its first POWER ON start, waiting
for its first utility judgement (R162, R169, R170, R190). The level of UTILITY SENSE is an input; it is taken as
high (log entry 1). -/
def State.reset : State :=
  { phase := .running
    floor :=
      { clock := 0, clockSet := false, tickHeld := false, utility := .unknown, sense := true, senseHeld := 0, senseMoved := false,
        hold := false, cause := .powerOn, config := FloorConfig.default }
    cabinets := List.replicate Config.cabinetCount none
    link := Link.start
    profiles := List.replicate Config.profileCount none
    strings := List.replicate Config.stringCount none
    groups := List.replicate Config.groupCount (Group.start 1)
    permits := List.replicate Config.permitCount none
    ask := none
    visits := List.replicate Config.visitCount none
    store := { images := deliveredImages, queue := [], writer := none, nextNumber := 1, completion := .matched }
    port := Port.starting
    attention := { Attention.empty with start := some (.powerOn, 0) }
    pending := [] }

end Sys2Proof.Machine
end

