-- ==== Sys2Proof/Machine/Ops.lean ====
section
/-! DEFINITION. The named operations over the tables and the shared effects of every block: checkpoints (R163),
attention causes (R186), notices (R40), and looking records up. -/

namespace Sys2Proof.Machine

/-! ## Tables numbered from 1 -/

/-- The entry for number `n`: `none` where the number is outside the table or its entry is empty. -/
def tget {α : Type} (t : List (Option α)) (n : Nat) : Option α :=
  match n with
  | 0 => none
  | k + 1 => (t[k]?).join

/-- The table with the entry for number `n` replaced; a number outside the table leaves it as it is. -/
def tset {α : Type} (t : List (Option α)) (n : Nat) (v : Option α) : List (Option α) :=
  match n with
  | 0 => t
  | k + 1 => t.set k v

/-- The occupied entries with their numbers, ascending, numbered from `k`. -/
def entriesFrom {α : Type} : Nat → List (Option α) → List (Nat × α)
  | _, [] => []
  | k, none :: t => entriesFrom (k + 1) t
  | k, some a :: t => (k, a) :: entriesFrom (k + 1) t

/-- The occupied entries with their numbers, ascending. -/
def entries {α : Type} (t : List (Option α)) : List (Nat × α) := entriesFrom 1 t

/-- The lowest free number, numbered from `k`. -/
def lowestFreeFrom {α : Type} : Nat → List (Option α) → Option Nat
  | _, [] => none
  | k, none :: _ => some k
  | k, some _ :: t => lowestFreeFrom (k + 1) t

/-- The lowest-numbered free slot of a table (R58, R110, R142). -/
def lowestFree {α : Type} (t : List (Option α)) : Option Nat := lowestFreeFrom 1 t

/-- The numbers 1..n in ascending order. -/
def numbers (n : Nat) : List Nat := List.range' 1 n

/-- The image for number `n` of a kind. -/
def imageAt {α : Type} (t : List (Image (Option α))) (n : Nat) : Option (Image (Option α)) :=
  match n with
  | 0 => none
  | k + 1 => t[k]?

/-- The images of a kind with number `n` replaced. -/
def setImageAt {α : Type} (t : List (Image (Option α))) (n : Nat) (v : Image (Option α)) : List (Image (Option α)) :=
  match n with
  | 0 => t
  | k + 1 => t.set k v

/-! ## Looking records up and replacing them -/

/-- The entry of cabinet `c`, `none` when it is Absent or out of range (R11). -/
def State.cabinet? (s : State) (c : Nat) : Option Cabinet := tget s.cabinets c
/-- Profile `n`, `none` when it is Empty or out of range (R46). -/
def State.profile? (s : State) (n : Nat) : Option Profile := tget s.profiles n
/-- The record in string slot `k`, `none` when it is free or out of range (R50). -/
def State.string? (s : State) (k : Nat) : Option StringRecord := tget s.strings k
/-- The permit in slot `k`, `none` when it is free or out of range (R110). -/
def State.permit? (s : State) (k : Nat) : Option Permit := tget s.permits k
/-- The open visit in slot `v`, `none` when it is free or out of range (R138). -/
def State.visit? (s : State) (v : Nat) : Option Visit := tget s.visits v

/-- The entry of cabinet `c` replaced. -/
def State.setCabinet (c : Nat) (x : Option Cabinet) (s : State) : State := { s with cabinets := tset s.cabinets c x }
/-- Profile `n` replaced. -/
def State.setProfile (n : Nat) (p : Option Profile) (s : State) : State := { s with profiles := tset s.profiles n p }
/-- The record in string slot `k` replaced. -/
def State.setString (k : Nat) (r : Option StringRecord) (s : State) : State := { s with strings := tset s.strings k r }
/-- The permit in slot `k` replaced. -/
def State.setPermit (k : Nat) (p : Option Permit) (s : State) : State := { s with permits := tset s.permits k p }
/-- The visit in slot `v` replaced. -/
def State.setVisit (v : Nat) (x : Option Visit) (s : State) : State := { s with visits := tset s.visits v x }

/-! ## Checkpoints (R163) -/

/-- The dirty queue after a checkpoint: the identifier is appended unless it already stands there. -/
def enqueue (id : ImageId) (q : List ImageId) : List ImageId := if id ∈ q then q else q ++ [id]

/-- A checkpoint of one image (R163). -/
def State.checkpoint (id : ImageId) (s : State) : State :=
  { s with store := { s.store with queue := enqueue id s.store.queue } }

/-- The identifier of the configuration image. -/
def configImage : ImageId := { kind := .config, number := 1 }
/-- The identifier of profile `n`'s image. -/
def profileImage (n : Nat) : ImageId := { kind := .profile, number := n }
/-- The identifier of cabinet `c`'s image. -/
def cabinetImage (c : Nat) : ImageId := { kind := .cabinet, number := c }
/-- The identifier of string slot `k`'s image. -/
def stringImage (k : Nat) : ImageId := { kind := .string, number := k }
/-- The identifier of permit slot `k`'s image. -/
def permitImage (k : Nat) : ImageId := { kind := .permit, number := k }
/-- The identifier of visit slot `v`'s image. -/
def visitImage (v : Nat) : ImageId := { kind := .visit, number := v }

/-! ## Attention causes (R186) -/

/-- The map that marks number `n` alone: bit n − 1. -/
def markOf (w n : Nat) : BitVec w :=
  match n with
  | 0 => 0
  | k + 1 => BitVec.twoPow w k

/-- The attention set changed by `f`. -/
def State.attend (f : Attention → Attention) (s : State) : State := { s with attention := f s.attention }

/-- UTILITY CHANGE: the newer state replaces the older (R6). -/
def raiseUtilityChange (u : UtilityState) (a : Attention) : Attention := { a with utilityChange := some u }
/-- MARGIN SHORT with a map of groups. -/
def raiseMarginShort (groups : BitVec 4) (a : Attention) : Attention := { a with marginShort := a.marginShort ||| groups }
/-- UNAUTHORISED BYPASS with cabinet `c`. -/
def raiseUnauthorisedBypass (c : Nat) (a : Attention) : Attention :=
  { a with unauthorisedBypass := a.unauthorisedBypass ||| markOf 24 c }
/-- PERMIT OVERDUE with permit slot `k`. -/
def raisePermitOverdue (k : Nat) (a : Attention) : Attention := { a with permitOverdue := a.permitOverdue ||| markOf 8 k }
/-- PERMIT CHANGED with permit slot `k`. -/
def raisePermitChanged (k : Nat) (a : Attention) : Attention := { a with permitChanged := a.permitChanged ||| markOf 8 k }
/-- CABINET LOST with cabinet `c`. -/
def raiseCabinetLost (c : Nat) (a : Attention) : Attention := { a with cabinetLost := a.cabinetLost ||| markOf 24 c }
/-- CABINET BACK with cabinet `c`. -/
def raiseCabinetBack (c : Nat) (a : Attention) : Attention := { a with cabinetBack := a.cabinetBack ||| markOf 24 c }
/-- VISIT ITEM INTERRUPTED with visit slot `v`. -/
def raiseItemInterrupted (v : Nat) (a : Attention) : Attention :=
  { a with visitItemInterrupted := a.visitItemInterrupted ||| markOf 4 v }
/-- VISIT OVERTIME with visit slot `v`. -/
def raiseVisitOvertime (v : Nat) (a : Attention) : Attention := { a with visitOvertime := a.visitOvertime ||| markOf 4 v }
/-- STRING STATE CHANGED with string slot `k`. -/
def raiseStringChanged (k : Nat) (a : Attention) : Attention :=
  { a with stringStateChanged := a.stringStateChanged ||| markOf 64 k }
/-- STORE FAULT. -/
def raiseStoreFault (a : Attention) : Attention := { a with storeFault := true }

/-! ## Notices (R40) -/

/-- Post: the slot of cabinet `c` takes a new posting and loses what it held (R40). An Absent cabinet has no slot. -/
def State.post (c : Nat) (n : Notice) (s : State) : State :=
  match s.cabinet? c with
  | none => s
  | some x =>
    { s.setCabinet c (some { x with notice := some { notice := n, serial := s.link.nextSerial } }) with
      link := { s.link with nextSerial := s.link.nextSerial + 1 } }

/-- The slot after a retraction of notice `n`: emptied if it holds a posting of that notice (R40). -/
def retracted (n : Notice) (slot : Option Posting) : Option Posting :=
  match slot with
  | none => none
  | some p => if p.notice = n then none else some p

/-- Retract notice `n` from the slot of cabinet `c` (R40). -/
def State.retract (c : Nat) (n : Notice) (s : State) : State :=
  match s.cabinet? c with
  | none => s
  | some x => s.setCabinet c (some { x with notice := retracted n x.notice })

/-! ## Facts other blocks read -/

/-- The part runs and its start-up procedure has ended (R175, R178). -/
def State.operating (s : State) : Bool := s.phase == .running && s.port.state != .starting

/-- A record is attached when it names a cabinet (R50). -/
def StringRecord.attached (r : StringRecord) : Bool := r.cabinet.isSome

/-- The string attached at position `p` of cabinet `c`, with its slot (R12). Retired records name no cabinet. -/
def State.stringAt (s : State) (c p : Nat) : Option (Nat × StringRecord) :=
  (entries s.strings).find? (fun e => e.2.cabinet == some c && e.2.position == p && e.2.state != .retired)

/-- The permit that names cabinet `c`, with its slot (R110: at most one names any cabinet). -/
def State.permitOf (s : State) (c : Nat) : Option (Nat × Permit) :=
  (entries s.permits).find? (fun e => e.2.cabinet == c)

/-- The kinds that need a permit (R140). -/
def needsPermit (k : ItemKind) : Bool :=
  match k with
  | .inspectCabinet => true
  | .replaceString => true
  | .capacityTest => true
  | .baseline => false

/-- The item targets string slot `k` (R140: INSPECT CABINET targets a cabinet). -/
def Item.targetsString (it : Item) (k : Nat) : Bool := it.kind != .inspectCabinet && it.target == k

/-- The item is neither Done nor Abandoned. -/
def Item.live (it : Item) : Bool := it.state != .done && it.state != .abandoned

end Sys2Proof.Machine
end

