-- ==== Sys2Proof/Machine/Operands.lean ====
section
/-! DEFINITION. The operand forms: the fields of a request's body (R191, R192), the codes of the enumerated values
(R194), and the characters of a cabinet link reply (R22, R23, R193). -/

namespace Sys2Proof.Machine

/-! ## Fields of a request body (R191, R192) -/

/-- A multi-byte value, most significant byte first (R191). -/
def beNat (bs : List Byte) : Nat := bs.foldl (fun a b => a * 256 + b.toNat) 0

/-- The unsigned field of `width` bytes at byte `off` of a body. -/
def field (body : List Byte) (off width : Nat) : Nat := beNat ((body.drop off).take width)

/-- A 16-bit value read as two's complement (R191, R193). -/
def signed16 (n : Nat) : Int := if n < 32768 then (n : Int) else (n : Int) - 65536

/-- A number 1..count, or none. -/
def inRange (count n : Nat) : Bool := decide (1 ≤ n ∧ n ≤ count)

/-! ## Bytes of a reply body (R191, R192) -/

/-- One byte. -/
def be1 (n : Nat) : List Byte := [BitVec.ofNat 8 n]
/-- Two bytes, most significant first. -/
def be2 (n : Nat) : List Byte := [BitVec.ofNat 8 (n / 256), BitVec.ofNat 8 n]
/-- Four bytes, most significant first. -/
def be4 (n : Nat) : List Byte :=
  [BitVec.ofNat 8 (n / 16777216), BitVec.ofNat 8 (n / 65536), BitVec.ofNat 8 (n / 256), BitVec.ofNat 8 n]
/-- One signed byte, in two's complement. -/
def be1s (z : Int) : List Byte := be1 (z % 256).toNat
/-- Two signed bytes. -/
def be2s (z : Int) : List Byte := be2 (z % 65536).toNat
/-- Four signed bytes. -/
def be4s (z : Int) : List Byte := be4 (z % 4294967296).toNat
/-- A flag or mark: 0 or 1 (R194). -/
def beFlag (b : Bool) : List Byte := be1 (if b then 1 else 0)
/-- A number carried in one byte, 0 for none, with no presence byte (R192). -/
def beOrZero (n : Option Nat) : List Byte := be1 (n.getD 0)

/-! ## Codes (R194) -/

/-- The code of a mode. -/
def modeCode : Mode → Nat
  | .unknown => 0
  | .inverter => 1
  | .battery => 2
  | .staticBypass => 3
  | .maintenanceBypass => 4
  | .off => 5
  | .faulted => 6

/-- The mode a REPORT's mode field names; 0 and any value above 6 are taken as Faulted (R13, R194). -/
def modeOfCode (n : Nat) : Mode :=
  match n with
  | 1 => .inverter
  | 2 => .battery
  | 3 => .staticBypass
  | 4 => .maintenanceBypass
  | 5 => .off
  | _ => .faulted

/-- The code of a notice; none is 0. -/
def noticeCode : Option Notice → Nat
  | none => 0
  | some .grant => 1
  | some .withdraw => 2
  | some .recall => 3

/-- The code of a utility state. -/
def utilityCode : UtilityState → Nat
  | .unknown => 0
  | .present => 1
  | .lost => 2

/-- The code of a link state. -/
def linkCode : LinkState → Nat
  | .unsynced => 0
  | .online => 1
  | .silent => 2
  | .lost => 3

/-- The code of a string state. -/
def stringStateCode : StringState → Nat
  | .good => 1
  | .watch => 2
  | .due => 3
  | .suspect => 4
  | .retiring => 5
  | .retired => 6

/-- The code of a permit state. -/
def permitStateCode : PermitState → Nat
  | .granted => 1
  | .active => 2
  | .overdue => 3
  | .returning => 4

/-- The code of an item state. -/
def itemStateCode : ItemState → Nat
  | .pending => 1
  | .inProgress => 2
  | .interrupted => 3
  | .done => 4
  | .abandoned => 5

/-- The code of an item kind. -/
def itemKindCode : ItemKind → Nat
  | .inspectCabinet => 1
  | .replaceString => 2
  | .capacityTest => 3
  | .baseline => 4

/-- The kind a kind byte names; 0 and any value above 4 name none (R194). -/
def itemKindOfCode (n : Nat) : Option ItemKind :=
  match n with
  | 1 => some .inspectCabinet
  | 2 => some .replaceString
  | 3 => some .capacityTest
  | 4 => some .baseline
  | _ => none

/-- The code of a margin status. -/
def marginCode : MarginStatus → Nat
  | .met => 0
  | .short => 1

/-- The code of a start cause. -/
def startCauseCode : StartCause → Nat
  | .powerOn => 1
  | .resetLine => 2

/-- The order an URGENT frame's order byte names (R191). -/
def orderOfByte (b : Byte) : Option Order :=
  if b = 1 then some .hold else if b = 2 then some .release else if b = 3 then some .recallAll else none

/-- DONE and the refusal codes (R182). -/
inductive ResultCode where
  | done | notFound | noRoom | wrongState | marginShort | autonomyShort | hold | utilityLost | noPermit | duplicate
  | unknownRequest | badLength
  deriving DecidableEq, Repr

/-- The code of a result (R194). -/
def resultCode : ResultCode → Byte
  | .done => 0x00
  | .notFound => 0x01
  | .noRoom => 0x02
  | .wrongState => 0x03
  | .marginShort => 0x04
  | .autonomyShort => 0x05
  | .hold => 0x06
  | .utilityLost => 0x07
  | .noPermit => 0x08
  | .duplicate => 0x09
  | .unknownRequest => 0x0A
  | .badLength => 0x0B

/-! ## Characters of the cabinet link -/

/-- The level that two of the three samples agree on (R22). -/
def majority (x : Sample) : Bool := (x.first && x.second) || (x.first && x.third) || (x.second && x.third)

/-- The three samples all agree (R22). -/
def unanimous (x : Sample) : Bool := x.first == x.second && x.second == x.third

/-- One character as the receiver takes it: its data value, its mark, and the errors it flags by itself (R22). -/
structure RxChar where
  data : Byte
  mark : Bool
  framing : Bool
  noise : Bool
  deriving DecidableEq, Repr

/-- The weight of a data bit. -/
def bitValue (x : Sample) (w : Nat) : Nat := if majority x then w else 0

/-- Reception of one character (R21, R22): data bits least significant first; a stop bit read as space is a framing
error; three samples of any one bit that do not agree are noise. -/
def receive (c : RawChar) : RxChar :=
  { data := BitVec.ofNat 8 (bitValue c.d0 1 + bitValue c.d1 2 + bitValue c.d2 4 + bitValue c.d3 8 + bitValue c.d4 16 +
      bitValue c.d5 32 + bitValue c.d6 64 + bitValue c.d7 128)
    mark := majority c.mark
    framing := !majority c.stop
    noise := !([c.start, c.d0, c.d1, c.d2, c.d3, c.d4, c.d5, c.d6, c.d7, c.mark, c.stop].all unanimous) }

/-- The check value of a message: the ones' complement of the 8-bit sum of the data values before it (R23). -/
def checkValue (data : List Byte) : Byte := ~~~(data.foldl (· + ·) 0)

/-- The codes a link reply carries (R30, R193). -/
inductive ReplyCode where
  | report | busy | halted
  deriving DecidableEq, Repr

/-- The reply code in bits 0, 1 of the code character; 0 names none (R193). -/
def replyCodeOf (b : Byte) : Option ReplyCode :=
  if b.toNat % 4 = 1 then some .report else if b.toNat % 4 = 2 then some .busy else if b.toNat % 4 = 3 then some .halted else none

/-- The length a reply code fixes, check included (R30). -/
def expectedLength : ReplyCode → Nat
  | .report => 46
  | .busy => 6
  | .halted => 46

/-- A two-character value at character `i` (counted from 0), low character first (R193). -/
def leAt (data : List Byte) (i : Nat) : Nat := (data[i]?.getD 0).toNat + 256 * (data[i + 1]?.getD 0).toNat

/-- The readings of one position (R30, R193). -/
structure Block where
  voltage : Nat
  current : Int
  temperature : Int
  delta : Nat
  resistance : Nat
  deriving DecidableEq, Repr

/-- The string block of position `p`, 1..4, in a REPORT or HALTED reply (R193). -/
def blockAt (data : List Byte) (p : Nat) : Block :=
  let i := 5 + 10 * (p - 1)
  { voltage := leAt data i
    current := signed16 (leAt data (i + 2))
    temperature := signed16 (leAt data (i + 4))
    delta := leAt data (i + 6)
    resistance := leAt data (i + 8) }

/-- What a REPORT or HALTED reply carries (R36). -/
structure Report where
  halted : Bool
  toggle : Bool
  noticeTaken : Bool
  mode : Nat
  load : Nat
  block1 : Block
  block2 : Block
  block3 : Block
  block4 : Block
  deriving DecidableEq, Repr

/-- The block of position `p`. -/
def Report.block (r : Report) (p : Nat) : Block :=
  match p with
  | 1 => r.block1
  | 2 => r.block2
  | 3 => r.block3
  | _ => r.block4

/-- The fields of a reply of 46 characters (R193). -/
def reportOf (halted : Bool) (data : List Byte) : Report :=
  let code := data[1]?.getD 0
  { halted := halted
    toggle := code.getLsbD 2
    noticeTaken := code.getLsbD 3
    mode := (data[2]?.getD 0).toNat
    load := leAt data 3
    block1 := blockAt data 1
    block2 := blockAt data 2
    block3 := blockAt data 3
    block4 := blockAt data 4 }

/-- The judgement of a reply that ended in time (R30). -/
inductive Judged where
  | failed
  | busy
  | report (r : Report)
  deriving DecidableEq, Repr

/-- No character of the reply carries a framing, noise or mark error (R22): the mark is an error on any
character but the first. -/
def charactersSound : List RxChar → Bool
  | [] => true
  | c :: rest => !c.framing && !c.noise && rest.all (fun d => !d.framing && !d.noise && !d.mark)

/-- The first character is a marked address character with the number of the cabinet polled (R21, R30). -/
def addressEchoed (cabinet : Nat) (cs : List RxChar) : Bool :=
  match cs with
  | [] => false
  | c :: _ => c.mark && c.data == BitVec.ofNat 8 cabinet

/-- The last character carries the check value of the characters before it (R23). -/
def checkMatches (data : List Byte) : Bool :=
  match data.getLast? with
  | none => false
  | some d => d == checkValue data.dropLast

/-- The judgement of a whole reply to a poll of `cabinet` (R30). -/
def judgeReply (cabinet : Nat) (cs : List RxChar) : Judged :=
  let data := cs.map RxChar.data
  if charactersSound cs && addressEchoed cabinet cs then
    match data[1]? with
    | none => .failed
    | some code =>
      match replyCodeOf code with
      | none => .failed
      | some k =>
        if data.length = expectedLength k ∧ checkMatches data = true then
          match k with
          | .busy => .busy
          | .report => .report (reportOf false data)
          | .halted => .report (reportOf true data)
        else .failed
  else .failed

/-- The mode an accepted report gives (R13, R36): a HALTED reply gives Faulted whatever its mode field holds. -/
def Report.givenMode (r : Report) : Mode := if r.halted then .faulted else modeOfCode r.mode

/-- The load an accepted report gives (R13). -/
def Report.givenLoad (r : Report) : Nat := min r.load Config.loadLimit

/-- The control character of a poll (R28, R193). -/
def controlChar (ack sync : Bool) (notice : Option Notice) (pulses : BitVec 4) : Byte :=
  BitVec.ofNat 8 ((if ack then 1 else 0) + (if sync then 2 else 0) + 4 * noticeCode notice + 16 * pulses.toNat)

/-- The three characters of a poll message (R21, R23, R28, R193). -/
def pollMessage (cabinet : Nat) (control : Byte) : List TxChar :=
  let address : Byte := BitVec.ofNat 8 cabinet
  [{ mark := true, data := address }, { mark := false, data := control },
    { mark := false, data := checkValue [address, control] }]

end Sys2Proof.Machine
end

