-- ==== Sys2Proof/Machine/Flags.lean ====
section
/-! DEFINITION. The flags the part computes: the present attention causes, ATTN (R187) and the port status byte
(R177, R191), and the levels of the cabinet link's outputs (R20, R195). -/

namespace Sys2Proof.Machine

/-- Which causes are present, bit n − 1 for cause n of R186. -/
def presentCauses (a : Attention) : BitVec 12 :=
  BitVec.ofBoolListLE
    [a.utilityChange.isSome, a.marginShort != 0, a.unauthorisedBypass != 0, a.permitOverdue != 0, a.permitChanged != 0,
      a.cabinetLost != 0, a.cabinetBack != 0, a.visitItemInterrupted != 0, a.visitOvertime != 0, a.stringStateChanged != 0,
      a.storeFault, a.start.isSome]

/-- ATTN, and the ATTENTION flag: a present cause is enabled in the mask (R187). Released while RESET is held and
without power; a start loads the configuration in the same step that begins it. -/
def State.attn (s : State) : Bool :=
  s.phase == .running && (presentCauses s.attention &&& s.floor.config.mask) != 0

/-- The value of a flag at a bit of the status byte. -/
def flagBit (b : Bool) (w : Nat) : Nat := if b then w else 0

/-- The port status byte (R177, R191). -/
def State.statusByte (s : State) : Byte :=
  BitVec.ofNat 8
    (flagBit (s.port.state == .replyReady) 128 + flagBit (s.port.state == .working) 64 + flagBit (s.port.state == .starting) 32 +
      flagBit s.port.urgent.isSome 16 + flagBit s.port.late 8 + flagBit s.port.dropped 4 + flagBit s.port.overrun 2 +
      flagBit s.attn 1)

/-! ## LINK DIR and LINK TX (R20, R195) -/

/-- The levels of one character on the line, bit by bit; `true` is mark: the start bit, eight data bits from the least
significant, the mark, the stop bit (R21). -/
def TxChar.levels (c : TxChar) : List Bool := false :: ((List.range 8).map (fun i => c.data.getLsbD i) ++ [c.mark, true])

/-- The levels that are put on the line, one for each bit time from the beginning of the slot: a link break is space for 24 bit
times (R24), a poll its characters (R28). -/
def Line.levels : Line → List Bool
  | .quiet => []
  | .linkBreak => List.replicate 24 false
  | .poll chars => chars.flatMap TxChar.levels

/-- LINK DIR, `bit` bit times after the FS3200 began to send: `true` is high, transmit, for as long as the message or the
break lasts; low at all other times, while RESET is held, and from power-up to step 8 (R20, R195). -/
def State.linkDir (s : State) (bit : Nat) : Bool := s.phase == .running && decide (bit < s.link.line.levels.length)

/-- LINK TX, `bit` bit times after the FS3200 began to send; mark while LINK DIR is low (R195). -/
def State.linkTx (s : State) (bit : Nat) : Bool := !s.linkDir bit || s.link.line.levels[bit]?.getD true

end Sys2Proof.Machine
end

