-- ==== Sys2Proof/Machine/Ageing.lean ====
section
/-! DEFINITION. The ageing computation (chapter 4): the stages on one string record, and the records that carry
what a stage asks for (STRING STATE CHANGED, a checkpoint). -/

namespace Sys2Proof.Machine

/-! ## The arithmetic of the stages -/

/-- L after an addition, saturating (R73). -/
def addLife (life add : Nat) : Nat := min (life + add) Config.lifeLimit

/-- The mean temperature of a full window, toward minus infinity (R79). -/
def windowMean (sum : Int) : Int := sum / 60

/-- The acceleration factor A in Q8, from the offset e and the doubling step D (R80). -/
def acceleration (e : Int) (step : Nat) : Nat :=
  let n := e / (step : Int)
  let r := (e % (step : Int)).toNat
  let a0 := 256 * (step + r) / step
  clampNat 16 4096 (if 0 ≤ n then a0 * 2 ^ n.toNat else a0 / 2 ^ (-n).toNat)

/-- Lc of a full window with temperature sum `sum` (R79 to R81). -/
def calendarShare (p : Profile) (sum : Int) : Nat :=
  (1000000000 / p.life) * acceleration (windowMean sum - p.tref) p.step / 256

/-- The depth of discharge of a charge, in ‰ (R82). -/
def depthOf (p : Profile) (charge : Nat) : Nat := min (charge * 100 / p.capacity) 1000

/-- The band weight of a depth (R82). -/
def bandWeight (p : Profile) (d : Nat) : Nat :=
  if d ≤ 200 then p.w1 else if d ≤ 500 then p.w2 else if d ≤ 800 then p.w3 else p.w4

/-- Lcy of a depth and a weight (R83). -/
def cycleShare (p : Profile) (d w : Nat) : Nat := (1000000000 / p.cycles) * d * w / 256000

/-- The resistance indicator (R85). -/
def resistanceIndicatorOf (p : Profile) (rb : Option Nat) (r : Nat) : Nat :=
  match rb with
  | none => 1000
  | some b =>
    if r = 0 then 1000
    else
      let rr := min (r * 1000 / b) 5000
      if rr ≤ 1000 then 1000 else 1000 - (rr - 1000) * 1000 / (p.reol - 1000)

/-- The life indicator sL (R87). -/
def lifeIndicatorOf (life : Nat) : Nat := 1000 - life / 1000000

/-- The derived state of a record that is neither Retiring nor Retired (R52). A record whose profile is Empty
has no thresholds; R53 marks every such record, so it is Suspect. -/
def derivedState (p : Option Profile) (suspect : Bool) (soh : Nat) : StringState :=
  if suspect then .suspect
  else
    match p with
    | none => .suspect
    | some q => if q.watch ≤ soh then .good else if q.replace ≤ soh then .watch else .due

/-! ## Stages on a record -/

/-- A record on its way through the stages of one event: whether its state changed at any stage (R56, R92) and
whether it is to be checkpointed (R71, R88). -/
structure Work where
  r : StringRecord
  changed : Bool
  save : Bool
  deriving DecidableEq, Repr

/-- A record before any stage has touched it. -/
def startWork (r : StringRecord) : Work := { r := r, changed := false, save := false }

/-- The record takes state `st`; a change of state is raised and checkpointed (R56, R71). -/
def takeState (st : StringState) (w : Work) : Work :=
  if w.r.state = st then w else { r := { w.r with state := st }, changed := true, save := true }

/-- The state is re-derived unless the record is Retiring or Retired (R52, R88). -/
def rederive (p : Option Profile) (w : Work) : Work :=
  if w.r.state = .retiring ∨ w.r.state = .retired then w
  else takeState (derivedState p w.r.suspect w.r.soh) w

/-- The event that called the stage checkpoints the record whatever the stage finds (R88). -/
def mustSave (w : Work) : Work := { w with save := true }

/-- Stage 5: life indicator, SoH, then the state (R87, R88). -/
def stage5 (p : Profile) (w : Work) : Work :=
  let sl := lifeIndicatorOf w.r.life
  rederive (some p) { w with r := { w.r with lifeIndicator := sl, soh := min sl w.r.resistanceIndicator } }

/-- Stage 4 followed by stage 5 (R85, R86). -/
def stage4 (p : Profile) (w : Work) : Work :=
  stage5 p { w with r := { w.r with resistanceIndicator := resistanceIndicatorOf p w.r.rb w.r.r } }

/-- Stage 2, the calendar step on a full window: Lc is added, stage 5 runs, the window is emptied, the record is
checkpointed (R76, R81). -/
def stage2 (p : Profile) (w : Work) : Work :=
  let w1 := stage5 p { w with r := { w.r with life := addLife w.r.life (calendarShare p w.r.s) } }
  mustSave { w1 with r := { w1.r with m := 0, s := 0 } }

/-- Stage 1: one counted minute at temperature `t`, and stage 2 when it fills the window (R76). -/
def stage1 (p : Profile) (t : Int) (w : Work) : Work :=
  let w1 : Work := { w with r := { w.r with m := w.r.m + 1, s := w.r.s + t } }
  if 60 ≤ w1.r.m then stage2 p w1 else w1

/-- The idle-bucket charge: while the bucket stands at or above C, a cycle step of depth 100 at w1 is charged and C is
taken from it; stage 5 runs once and the record is checkpointed once (R84). The repetitions are `bucket / C`. -/
def idleBucketCharge (p : Profile) (w : Work) : Work :=
  if p.capacity ≤ w.r.bucket then
    mustSave (stage5 p { w with r := { w.r with
      life := addLife w.r.life (w.r.bucket / p.capacity * cycleShare p 100 p.w1)
      bucket := w.r.bucket % p.capacity } })
  else w

/-- The close of an open discharge event: cycle step and stage 5 on a Filled profile, removal of the event, checkpoint
(R68). -/
def closeEvent (p : Option Profile) (w : Work) : Work :=
  match w.r.event with
  | none => w
  | some e =>
    match p with
    | none => mustSave { w with r := { w.r with event := none } }
    | some q =>
      let d := depthOf q e.charge
      mustSave (stage5 q { w with r := { w.r with
        life := addLife w.r.life (cycleShare q d (bandWeight q d)), event := none } })

/-- Stage 6 with a measured capacity, on a Filled profile: L replaced, mark cleared, stage 5, checkpoint (R89). With an
Empty profile nothing of the record changes (R90). -/
def reanchor (p : Option Profile) (measured : Nat) (w : Work) : Work :=
  match p with
  | none => w
  | some q =>
    mustSave (stage5 q { w with r := { w.r with
      life := (1000 - min (measured * 100 / q.capacity) 1000) * 1000000, suspect := false } })

/-- The setting of the baseline by a BASELINE result; 0 changes nothing (R91). -/
def setBaseline (p : Option Profile) (result : Nat) (w : Work) : Work :=
  if result = 0 then w
  else
    let w1 : Work := { w with r := { w.r with rb := some (min result 65535) } }
    match p with
    | none => mustSave w1
    | some q => mustSave (stage4 q w1)

/-- What a write of its profile does to a record that names it (R48): idle-bucket charge, then stages 4 and 5. -/
def afterProfileWrite (p : Profile) (w : Work) : Work := stage4 p (idleBucketCharge p w)

/-! ## Carrying a record's changes out -/

/-- The record in slot `k` takes the outcome of the stages: the record is stored, STRING STATE CHANGED is raised
for a changed state, and it is checkpointed where a stage asks for it (R56, R71, R88). -/
def State.commit (k : Nat) (w : Work) (s : State) : State :=
  let s1 := s.setString k (some w.r)
  let s2 := if w.changed then s1.attend (raiseStringChanged k) else s1
  if w.save then s2.checkpoint (stringImage k) else s2

/-- The record in slot `k`, if there is one, goes through `f`, which is given the profile it names. -/
def State.workOn (k : Nat) (f : Option Profile → Work → Work) (s : State) : State :=
  match s.string? k with
  | none => s
  | some r => s.commit k (f (s.profile? r.profile) (startWork r))

end Sys2Proof.Machine
end

