-- ==== Sys2Proof/Machine/Margin.lean ====
section
/-! DEFINITION. The Margin block (chapter 5): counted cabinets, the figures of a group, the hypothetical figures of an
ask, and the recomputation that every event ends its changes of the inputs with. -/

namespace Sys2Proof.Machine

/-- Availability of a Present cabinet (R15). -/
def Cabinet.available (x : Cabinet) : Bool :=
  (x.link == .online || x.link == .silent) && (x.mode == .inverter || x.mode == .battery)

/-- A permit that is not Closed names cabinet `c` (R95). -/
def State.withheld (s : State) (c : Nat) : Bool := (entries s.permits).any (fun e => e.2.cabinet == c)

/-- Cabinet `c`, with entry `x`, is counted (R95); `out` is the cabinet that hypothetical figures leave out (R106). -/
def State.counted (s : State) (out : Option Nat) (c : Nat) (x : Cabinet) : Bool :=
  x.available && !s.withheld c && out != some c

/-- The Present cabinets of group `g`, ascending. -/
def State.members (s : State) (g : Nat) : List (Nat × Cabinet) := (entries s.cabinets).filter (fun e => e.2.group == g)

/-- The group load Lg (R98). -/
def State.groupLoad (s : State) (g : Nat) : Nat := ((s.members g).map (fun e => e.2.load)).sum

/-- The required capacity, rounded up (R99). -/
def requiredCapacity (load headroom : Nat) : Nat := (load * (1000 + headroom) + 999) / 1000

/-- Insertion into a list in descending order. -/
def insertDesc (x : Nat) : List Nat → List Nat
  | [] => [x]
  | y :: t => if y ≤ x then x :: y :: t else y :: insertDesc x t

/-- A list in descending order. -/
def sortDesc : List Nat → List Nat
  | [] => []
  | x :: t => insertDesc x (sortDesc t)

/-- How many of the largest of a descending list can be taken away with the rest still at or above `creq`, when the
whole list is (R100). -/
def losable (creq : Nat) : List Nat → Nat
  | [] => 0
  | _ :: t => if creq ≤ t.sum then losable creq t + 1 else 0

/-- The spare count of the rated powers of the counted cabinets (R100). -/
def spareCount (creq : Nat) (rated : List Nat) : Int :=
  if creq ≤ rated.sum then (min (losable creq (sortDesc rated)) Config.spareLimit : Nat) else -1

/-- The rated powers of the counted cabinets of group `g`. -/
def State.countedRated (s : State) (out : Option Nat) (g : Nat) : List Nat :=
  ((s.members g).filter (fun e => s.counted out e.1 e.2)).map (fun e => e.2.rated)

/-- The energy a contributing record delivers, in Wh (R101, R102): an Empty profile gives 0. -/
def recordEnergy (p : Option Profile) (r : StringRecord) : Nat :=
  match p with
  | none => 0
  | some q =>
    q.capacity * q.voltage * r.soh / 1000 -
      (match r.event with
        | none => 0
        | some e => e.charge * q.voltage / 10)

/-- The term a string record contributes to group `g` (R101). -/
def State.energyTerm (s : State) (out : Option Nat) (g : Nat) (r : StringRecord) : Nat :=
  match r.cabinet with
  | none => 0
  | some c =>
    match s.cabinet? c with
    | none => 0
    | some x =>
      if x.group = g ∧ s.counted out c x = true ∧ r.state ≠ .retiring ∧ r.state ≠ .retired then
        recordEnergy (s.profile? r.profile) r
      else 0

/-- The usable energy of group `g` (R103). -/
def State.usableEnergy (s : State) (out : Option Nat) (g : Nat) : Nat :=
  ((entries s.strings).map (fun e => s.energyTerm out g e.2)).sum

/-- The autonomy of an energy under a load (R104). -/
def autonomyOf (energy load efficiency : Nat) : Nat :=
  if load = 0 then Config.autonomyLimit else min (energy * efficiency * 60 / (load * 100 * 1000)) Config.autonomyLimit

/-- The required spare of group `g` (R8). -/
def FloorConfig.requiredSpare (c : FloorConfig) (g : Nat) : Nat :=
  match g with
  | 1 => c.spare1
  | 2 => c.spare2
  | 3 => c.spare3
  | _ => c.spare4

/-- The figures of group `g`, with cabinet `out` taken out (R94 to R106); with `none` they are the group's own. -/
def State.figures (s : State) (out : Option Nat) (g : Nat) : Group :=
  let required := s.floor.config.requiredSpare g
  let load := s.groupLoad g
  let creq := requiredCapacity load s.floor.config.headroom
  let rated := s.countedRated out g
  let spare := spareCount creq rated
  let energy := s.usableEnergy out g
  let autonomy := autonomyOf energy load s.floor.config.efficiency
  { required := required, load := load, creq := creq, capacity := rated.sum, spare := spare, energy := energy, autonomy := autonomy
    status :=
      if (s.members g).isEmpty then .met
      else if spare < (required : Int) ∨ autonomy < s.floor.config.autonomyFloor then .short
      else .met }

/-- The map of the groups, numbered from `g`, that went from Met to Short (R105). -/
def enteredShort : Nat → List Group → List Group → BitVec 4
  | g, o :: os, n :: ns =>
    (if o.status = .met ∧ n.status = .short then markOf 4 g else 0) ||| enteredShort (g + 1) os ns
  | _, _, _ => 0

/-- Recomputation (R96): every group is formed from its inputs as they stand, and a group that enters Short raises
MARGIN SHORT (R105). A group none of whose inputs changed forms the figures it held, which nothing can see (log 9). -/
def State.recompute (s : State) : State :=
  let new := (numbers Config.groupCount).map (s.figures none)
  { s with groups := new, attention := raiseMarginShort (enteredShort 1 s.groups new) s.attention }

end Sys2Proof.Machine
end

