-- ==== Sys2Proof/Machine/Strings.lean ====
section
/-! DEFINITION. The String block (chapter 3): commissioning, the intake of an accepted report, discharge events, the
Retiring and Retired states, the pulse set, and the minute tick of one record. -/

namespace Sys2Proof.Machine

/-! ## Commissioning and leaving a slot -/

/-- A new record (R58): a stage 4 and 5 on it gives indicators and SoH of 1000 and the state Good. -/
def newRecord (p : Profile) (c pos n day : Nat) (rb : Option Nat) : StringRecord :=
  (stage4 p (startWork
    { cabinet := some c, position := pos, profile := n, day := day, rb := rb, r := 0, voltage := 0, current := 0,
      temperature := p.assumed, life := 0, m := 0, s := 0, bucket := 0, event := none, soh := 1000, resistanceIndicator := 1000,
      lifeIndicator := 1000, suspect := false, state := .good, sinceR := 0, owner := none })).r

/-- A baseline as given: 0 is none, a value above 65535 is taken as 65535 (R57, R149, R192). -/
def baselineOf (given : Nat) : Option Nat := if given = 0 then none else some (min given 65535)

/-- The commission of a record in slot `k` (R58): raised for the slot and checkpointed. -/
def State.commission (k : Nat) (r : StringRecord) (s : State) : State :=
  s.commit k { r := r, changed := true, save := true }

/-- Slot `k` is freed: image "empty", STRING STATE CHANGED (R55, R61). -/
def State.freeString (k : Nat) (s : State) : State :=
  ((s.setString k none).checkpoint (stringImage k)).attend (raiseStringChanged k)

/-- The record becomes Retiring, owned by visit `v` (R54). -/
def toRetiring (v : Nat) (w : Work) : Work :=
  mustSave (takeState .retiring { w with r := { w.r with owner := some v } })

/-- A Retiring record returns to its derived state and loses its owning visit (R54). -/
def fromRetiring (p : Option Profile) (w : Work) : Work :=
  if w.r.state = .retiring then
    mustSave (takeState (derivedState p w.r.suspect w.r.soh) { w with r := { w.r with owner := none } })
  else w

/-- The record is retired (R55): an open event is closed first, the state becomes Retired, the cabinet none. -/
def retire (p : Option Profile) (w : Work) : Work :=
  let w1 := closeEvent p w
  mustSave (takeState .retired { w1 with r := { w1.r with cabinet := none } })

/-! ## Intake of one position's block (R62) -/

/-- Step 1: an event is opened when the mode becomes Battery, on a Filled profile (R66). -/
def openEvent (p : Option Profile) (old new : Mode) (b : Block) (w : Work) : Work :=
  if new = .battery ∧ old ≠ .battery ∧ p.isSome = true ∧ w.r.state ≠ .retired then
    mustSave { w with r := { w.r with event := some { minutes := 0, charge := 0, lowest := b.voltage } } }
  else w

/-- Step 2: voltage, current and temperature are taken; an open event keeps its lowest voltage (R63). -/
def takeReadings (b : Block) (w : Work) : Work :=
  { w with r := { w.r with
      voltage := b.voltage
      current := b.current
      temperature := clampInt (-200) 700 b.temperature
      event := w.r.event.map (fun e => { e with lowest := min e.lowest b.voltage }) } }

/-- Step 3: a nonzero resistance is taken (R64). -/
def takeResistance (p : Option Profile) (b : Block) (w : Work) : Work :=
  if b.resistance = 0 then w
  else
    let w1 : Work := { w with r := { w.r with r := b.resistance, sinceR := 0 } }
    match p with
    | none => w1
    | some q => stage4 q w1

/-- Step 4: the Ah-out delta of a new report goes to the open event or to the idle bucket (R65). -/
def takeDelta (p : Option Profile) (isNew : Bool) (b : Block) (w : Work) : Work :=
  if isNew = true ∧ b.delta ≠ 0 then
    match p with
    | none => w
    | some q =>
      match w.r.event with
      | some e => { w with r := { w.r with event := some { e with charge := min (e.charge + b.delta) Config.chargeLimit } } }
      | none => idleBucketCharge q { w with r := { w.r with bucket := min (w.r.bucket + b.delta) Config.chargeLimit } }
  else w

/-- Step 5: the open event is closed when the mode leaves Battery (R68). -/
def leaveBattery (p : Option Profile) (old new : Mode) (w : Work) : Work :=
  if old = .battery ∧ new ≠ .battery then closeEvent p w else w

/-- The five steps of R62 on one record. -/
def intakeBlock (old new : Mode) (isNew : Bool) (b : Block) (p : Option Profile) (w : Work) : Work :=
  leaveBattery p old new (takeDelta p isNew b (takeResistance p b (takeReadings b (openEvent p old new b w))))

/-- The block of position `pos` reaches the record attached there, if any (R62). -/
def State.intakeAt (c : Nat) (old new : Mode) (isNew : Bool) (rep : Report) (s : State) (pos : Nat) : State :=
  match s.stringAt c pos with
  | none => s
  | some (k, _) => s.workOn k (intakeBlock old new isNew (rep.block pos))

/-- The report reaches the records at positions 1..4 in turn (R62). DEDUCED (log 38): in ascending order. -/
def State.intake (c : Nat) (old new : Mode) (isNew : Bool) (rep : Report) (s : State) : State :=
  (numbers Config.positionCount).foldl (State.intakeAt c old new isNew rep) s

/-! ## Pulses -/

/-- The pulse bit of position `pos`. -/
def pulseBit (pos : Nat) : BitVec 4 := markOf 4 pos

/-- The bit of position `pos` is set in the pulse set of cabinet `c` (R43). -/
def State.setPulse (c pos : Nat) (s : State) : State :=
  match s.cabinet? c with
  | none => s
  | some x => s.setCabinet c (some { x with pulse := x.pulse ||| pulseBit pos })

/-- A poll of a cabinet formed now would carry its pulse set (R44). -/
def Cabinet.pulsesCarried (u : UtilityState) (x : Cabinet) : Bool := x.mode == .inverter && u == .present

/-! ## The minute tick of one record -/

/-- The record's minute is counted in its calendar window (R74): attached, Filled profile, neither Retiring nor
Retired, its cabinet not held in Battery. -/
def State.countsMinute (s : State) (r : StringRecord) : Bool :=
  match r.cabinet with
  | none => false
  | some c =>
    match s.cabinet? c with
    | none => false
    | some x => (s.profile? r.profile).isSome && r.state != .retiring && r.state != .retired && x.mode != .battery

/-- The temperature of a counted minute (R75). -/
def State.minuteTemperature (s : State) (p : Profile) (r : StringRecord) : Int :=
  match r.cabinet.bind s.cabinet? with
  | none => p.assumed
  | some x => if x.link = .online ∨ x.link = .silent then r.temperature else p.assumed

/-- The event minutes of an open event count the tick (R67). -/
def countEventMinute (w : Work) : Work :=
  { w with r := { w.r with event := w.r.event.map (fun e => { e with minutes := min (e.minutes + 1) Config.chargeLimit }) } }

/-- The calendar window counts the tick, in the state `s` that holds the cabinets (R74 to R76). -/
def countCalendarMinute (s : State) (p : Option Profile) (w : Work) : Work :=
  match p with
  | none => w
  | some q => if s.countsMinute w.r = true then stage1 q (s.minuteTemperature q w.r) w else w

/-- The minutes since the last resistance measurement count the tick (R70). -/
def countSinceR (w : Work) : Work :=
  if w.r.cabinet.isSome = true ∧ w.r.state ≠ .retired then
    { w with r := { w.r with sinceR := min (w.r.sinceR + 1) Config.sinceLimit } }
  else w

/-- The record's pulse interval has run (R70). -/
def pulseDue (p : Option Profile) (r : StringRecord) : Bool :=
  match p with
  | none => false
  | some q => r.cabinet.isSome && r.state != .retired && decide (q.interval * 1440 ≤ r.sinceR)

/-- The pulse bit of a record whose interval has run is set (R70). -/
def State.pulseIfDue (k : Nat) (s : State) : State :=
  match s.string? k with
  | none => s
  | some r => if pulseDue (s.profile? r.profile) r = true then s.setPulse (r.cabinet.getD 0) r.position else s

/-- The minute tick on the record in slot `k`: event minutes (R67), calendar window (R76), minutes since the last
measurement and the automatic pulse (R70); a calendar step recomputes the groups (R88, R96). -/
def State.tickString (s : State) (k : Nat) : State :=
  match s.string? k with
  | none => s
  | some r =>
    let w := countSinceR (countCalendarMinute s (s.profile? r.profile) (countEventMinute (startWork r)))
    let s1 := (s.commit k w).pulseIfDue k
    if w.save then s1.recompute else s1

end Sys2Proof.Machine
end

