-- ==== Sys2Proof/Machine/Permits.lean ====
section
/-! DEFINITION. The Permit block's shared operations (chapter 6) with the interruption of work items they hand to the
Visit block (R153): closes, the action of a report, urgent orders, and the end of a waiting ask. -/

namespace Sys2Proof.Machine

/-! ## Replies -/

/-- The port takes a reply and goes to ReplyReady (R178, R179). -/
def State.reply (code : Byte) (res : ResultCode) (body : List Byte) (s : State) : State :=
  { s with port := { s.port with
      reply := some { code := code, result := resultCode res, body := body }, state := .replyReady } }

/-- The fields of a permit as PERMIT READ carries them (R130, R192). -/
def permitBody (k : Nat) (p : Permit) : List Byte :=
  be1 k ++ be1 p.cabinet ++ beOrZero p.visit ++ be1 (permitStateCode p.state) ++ be2 p.remaining ++
    beFlag p.timeout.isSome ++ be2 (p.timeout.getD 0) ++ beFlag p.recallAsked ++ be1s p.spare ++ be2 p.autonomy

/-- The hypothetical figures as the reply to an ask carries them (R118). -/
def figuresBody (floor : Nat) (g : Group) : List Byte :=
  be4 g.load ++ be4 g.capacity ++ be1s g.spare ++ be4 g.energy ++ be2 g.autonomy ++ be1 g.required ++ be1 floor

/-- The request code of PERMIT ASK (R192). -/
def askCode : Byte := 0x30

/-! ## Closing permits -/

/-- Permit slot `k` is freed and its image checkpointed as "empty" (R126). -/
def State.freePermit (k : Nat) (s : State) : State := (s.setPermit k none).checkpoint (permitImage k)

/-- The permit in slot `k` becomes Closed: WITHDRAW where it was Granted or Returning, the slot freed (R126). The
recomputation and the cause belong to the caller. -/
def State.closePermit (k : Nat) (s : State) : State :=
  match s.permit? k with
  | none => s
  | some p =>
    (if p.state = .granted ∨ p.state = .returning then s.post p.cabinet .withdraw else s).freePermit k

/-- A close that raises PERMIT CHANGED (R120). -/
def State.closeRaising (k : Nat) (s : State) : State := (s.closePermit k).attend (raisePermitChanged k)

/-- The permit in slot `k` is Granted. -/
def State.isGranted (s : State) (k : Nat) : Bool := (s.permit? k).any (fun p => p.state == .granted)

/-- The permit in slot `k`, if Granted, is closed with WITHDRAW and PERMIT CHANGED (R131, R133). -/
def State.closeIfGranted (s : State) (k : Nat) : State := if s.isGranted k = true then s.closeRaising k else s

/-- Every Granted permit is closed with WITHDRAW and PERMIT CHANGED (R131). DESIGN CHOICE (log 29): in ascending slot order. -/
def State.closeAllGranted (s : State) : State := (numbers Config.permitCount).foldl State.closeIfGranted s

/-! ## The end of a waiting ask -/

/-- The waiting ask ends early with a refusal that carries no figures (R116). -/
def State.endAsk (res : ResultCode) (s : State) : State :=
  match s.ask with
  | none => s
  | some _ => ({ s with ask := none } : State).reply askCode res []

/-- The permit a granted ask creates (R119). -/
def grantedPermit (a : Ask) (timeout : Nat) (g : Group) : Permit :=
  { cabinet := a.cabinet, visit := a.visit, state := .granted, remaining := a.duration, timeout := some timeout,
    recallAsked := false, spare := g.spare, autonomy := g.autonomy }

/-- The ask is granted into slot `k` on the figures `g` (R119): permit, GRANT, checkpoint, recomputation, reply. -/
def State.grantAsk (a : Ask) (k : Nat) (g : Group) (s : State) : State :=
  let p := grantedPermit a s.floor.config.grantTimeout g
  ((((s.setPermit k (some p)).post a.cabinet .grant).checkpoint (permitImage k)).recompute).reply askCode .done
    (permitBody k p ++ figuresBody s.floor.config.autonomyFloor g)

/-- The judgement of the ask at the end of its wait (R118). -/
def State.judgeAsk (a : Ask) (s : State) : State :=
  let s1 : State := { s with ask := none }
  match s.cabinet? a.cabinet with
  | none => s1.reply askCode .wrongState []
  | some x =>
    if x.link = .lost then s1.reply askCode .wrongState []
    else
      let g := s.figures (some a.cabinet) x.group
      let figs := figuresBody s.floor.config.autonomyFloor g
      if g.spare < (g.required : Int) then s1.reply askCode .marginShort figs
      else if g.autonomy < s.floor.config.autonomyFloor then s1.reply askCode .autonomyShort figs
      else
        match lowestFree s.permits with
        | none => s1.reply askCode .noRoom []
        | some k => s1.grantAsk a k g

/-- The wait ends and the ask is judged when its set is empty (R115, R118). -/
def State.judgeIfSettled (s : State) : State :=
  match s.ask with
  | none => s
  | some a => if a.waitSet = [] then s.judgeAsk a else s

/-- Cabinet `c` leaves the wait set; an empty set ends the wait (R115). -/
def State.settleWait (c : Nat) (s : State) : State :=
  match s.ask with
  | none => s
  | some a => ({ s with ask := some { a with waitSet := a.waitSet.filter (fun n => n != c) } } : State).judgeIfSettled

/-! ## Interruption of work items (R153) -/

/-- The In-progress item holds permit slot `k`. -/
def Item.holds (it : Item) (k : Nat) : Bool := it.state == .inProgress && it.permit == some k

/-- The item after the hand-over of permit slot `k`. -/
def interruptItem (k : Nat) (it : Item) : Item :=
  if it.holds k = true then { it with state := .interrupted, permit := none } else it

/-- The target of an interrupted or abandoned In-progress REPLACE STRING returns from Retiring (R54). -/
def State.releaseTarget (it : Item) (s : State) : State :=
  if it.state = .inProgress ∧ it.kind = .replaceString then s.workOn it.target fromRetiring else s

/-- The targets of the items that hold permit slot `k` return from Retiring (R153, step 2). -/
def State.releaseTargets (k : Nat) (items : List Item) (s : State) : State :=
  items.foldl (fun t it => if it.holds k = true then t.releaseTarget it else t) s

/-- The hand-over of permit slot `k` reaches the visit in slot `v` (R153). DESIGN CHOICE (log 30): where it interrupts several
items, the images of all the targets enter the dirty queue before the visit's. -/
def State.interruptVisit (k : Nat) (s : State) (v : Nat) : State :=
  match s.visit? v with
  | none => s
  | some x =>
    if x.items.any (fun it => it.holds k) = true then
      ((((s.releaseTargets k x.items).setVisit v (some { x with items := x.items.map (interruptItem k) })).attend
        (raiseItemInterrupted v)).checkpoint (visitImage v))
    else s

/-- The permit in slot `k` has left Active or Overdue: every In-progress item that holds it is interrupted (R153). -/
def State.interruptHolders (k : Nat) (s : State) : State :=
  (numbers Config.visitCount).foldl (State.interruptVisit k) s

/-! ## The action of an accepted report -/

/-- A permit enters bypass, or comes back to it: Active, or Overdue when no minutes remain (R121, R125). -/
def State.enterBypass (k : Nat) (p : Permit) (s : State) : State :=
  if p.remaining = 0 then
    ((s.setPermit k (some { p with state := .overdue, timeout := none })).attend (raisePermitOverdue k)).checkpoint
      (permitImage k)
  else
    ((s.setPermit k (some { p with state := .active, timeout := none })).attend (raisePermitChanged k)).checkpoint
      (permitImage k)

/-- The report on a Granted permit (R121). -/
def State.reportOnGranted (k : Nat) (p : Permit) (m : Mode) (s : State) : State :=
  match m with
  | .maintenanceBypass => (s.enterBypass k p).retract p.cabinet .grant
  | _ => s

/-- The report on an Active or Overdue permit (R124). DEDUCED (log 38): its image is queued before those of the work it
interrupts. -/
def State.reportOnActive (k : Nat) (p : Permit) (m : Mode) (s : State) : State :=
  if m = .inverter ∨ m = .staticBypass ∨ m = .battery then
    (((s.setPermit k (some { p with state := .returning })).attend (raisePermitChanged k)).checkpoint
      (permitImage k)).interruptHolders k
  else s

/-- The report on a Returning permit (R125). -/
def State.reportOnReturning (k : Nat) (p : Permit) (m : Mode) (s : State) : State :=
  match m with
  | .inverter => s.closeRaising k
  | .maintenanceBypass =>
    let s1 := s.enterBypass k p
    if p.recallAsked = true then s1.post p.cabinet .recall else s1
  | _ => s

/-- The report moves the permit in slot `k` by at most one row of the tables (R121 to R125). -/
def State.reportOnPermit (k : Nat) (p : Permit) (m : Mode) (s : State) : State :=
  match p.state with
  | .granted => s.reportOnGranted k p m
  | .active => s.reportOnActive k p m
  | .overdue => s.reportOnActive k p m
  | .returning => s.reportOnReturning k p m

/-- The unauthorised-bypass flag after a report of mode `m` with no permit naming the cabinet (R134), or clearing
(R135). -/
def State.judgeBypass (c : Nat) (m : Mode) (named : Bool) (s : State) : State :=
  match s.cabinet? c with
  | none => s
  | some x =>
    match m with
    | .maintenanceBypass =>
      if named = false ∧ x.unauthorised = false then
        (s.setCabinet c (some { x with unauthorised := true })).attend (raiseUnauthorisedBypass c)
      else s
    | .off => s
    | _ => s.setCabinet c (some { x with unauthorised := false })

/-- The Permit block takes an accepted report of cabinet `c` with mode `m` (R121, R134, R135). -/
def State.permitReport (c : Nat) (m : Mode) (s : State) : State :=
  match s.permitOf c with
  | none => s.judgeBypass c m false
  | some (k, p) => (s.reportOnPermit k p m).judgeBypass c m true

/-! ## Loss of the utility and urgent orders -/

/-- The utility state `u` is accepted (R6): the cause, and on Lost the closes and the end of a waiting ask (R131). -/
def State.acceptUtility (u : UtilityState) (s : State) : State :=
  let s1 := ({ s with floor := { s.floor with utility := u } } : State).attend (raiseUtilityChange u)
  if u = .lost then (s1.closeAllGranted.recompute).endAsk .utilityLost else s1

/-- RECALL is posted and the recall-asked flag set, with a checkpoint (R129, R133). -/
def State.recallPermit (k : Nat) (p : Permit) (s : State) : State :=
  ((s.post p.cabinet .recall).setPermit k (some { p with recallAsked := true })).checkpoint (permitImage k)

/-- RECALL ALL on the permit in slot `k` (R133). -/
def State.recallSlot (s : State) (k : Nat) : State :=
  match s.permit? k with
  | none => s
  | some p =>
    match p.state with
    | .granted => s.closeRaising k
    | .active => s.recallPermit k p
    | .overdue => s.recallPermit k p
    | .returning => s

/-- RECALL ALL is taken (R133). DESIGN CHOICE (log 29): the permits in ascending slot order. -/
def State.recallAll (s : State) : State := ((numbers Config.permitCount).foldl State.recallSlot s).recompute

/-- HOLD or RELEASE sets the hold flag (R7). -/
def State.setHold (b : Bool) (s : State) : State := { s with floor := { s.floor with hold := b } }

/-- The effects of an order when it is taken (R7, R132, R133). -/
def State.runOrder (o : Order) (s : State) : State :=
  match o with
  | .hold => (s.setHold true).endAsk .hold
  | .release => s.setHold false
  | .recallAll => s.recallAll

/-- The order the urgent slot holds, if any, is taken at a slot start (R184). -/
def State.takeUrgent (s : State) : State :=
  match s.port.urgent with
  | none => s
  | some o => ({ s with port := { s.port with urgent := none } } : State).runOrder o

/-! ## The minute tick of one permit (R111) -/

/-- The permit in slot `k` becomes Overdue (R123). -/
def State.makeOverdue (k : Nat) (p : Permit) (s : State) : State :=
  ((s.setPermit k (some { p with state := .overdue, remaining := 0 })).attend (raisePermitOverdue k)).checkpoint
    (permitImage k)

/-- The grant timeout of the permit in slot `k` expires (R122). -/
def State.expireGrant (k : Nat) (s : State) : State := (s.closeRaising k).recompute

/-- The minute tick on the permit in slot `k` (R111). -/
def State.tickPermit (s : State) (k : Nat) : State :=
  match s.permit? k with
  | none => s
  | some p =>
    match p.state with
    | .granted =>
      if p.timeout.getD 0 ≤ 1 then s.expireGrant k
      else s.setPermit k (some { p with remaining := p.remaining - 1, timeout := p.timeout.map (fun t => t - 1) })
    | .active =>
      if p.remaining ≤ 1 then s.makeOverdue k p else s.setPermit k (some { p with remaining := p.remaining - 1 })
    | .overdue => s
    | .returning => s.setPermit k (some { p with remaining := p.remaining - 1 })

/-! ## The minute tick of one visit (R155) -/

/-- The visit in slot `v` runs into overtime. -/
def State.makeOvertime (v : Nat) (x : Visit) (s : State) : State :=
  ((s.setVisit v (some { x with remaining := 0, overtime := true })).attend (raiseVisitOvertime v)).checkpoint (visitImage v)

/-- The minute tick on the visit in slot `v`. -/
def State.tickVisit (s : State) (v : Nat) : State :=
  match s.visit? v with
  | none => s
  | some x =>
    if x.remaining = 0 then s
    else if x.remaining = 1 then s.makeOvertime v x
    else s.setVisit v (some { x with remaining := x.remaining - 1 })

/-! ## The whole minute tick (R3) -/

/-- The last-report age of every Present cabinet counts the tick (R14). -/
def State.tickCabinets (s : State) : State :=
  { s with cabinets := s.cabinets.map (fun x => x.map (fun c => { c with age := min (c.age + 1) Config.ageLimit })) }

/-- The minute tick reaches the owners in the order of R3's table (log 10). -/
def State.tick (s : State) : State :=
  let s1 := (numbers Config.stringCount).foldl State.tickString s.tickCabinets
  let s2 := (numbers Config.permitCount).foldl State.tickPermit s1
  (numbers Config.visitCount).foldl State.tickVisit s2

end Sys2Proof.Machine
end

