-- ==== Sys2Proof/Machine/Port.lean ====
section
/-! DEFINITION. The request port (chapter 9): chip-select, the judgement of REQUEST frames, replies, FETCH, the urgent
slot, and PORT RESET. -/

namespace Sys2Proof.Machine

/-! ## Frames (R176, R177) -/

/-- The assertion of chip-select: the status byte is captured (R177). -/
def State.captureStatus (s : State) : State := { s with port := { s.port with frame := some s.statusByte } }

/-- A frame that a command ends has begun with an assertion; where none was commanded, it stands at the command (log 7). -/
def State.openFrame (s : State) : State := if s.port.frame.isSome = true then s else s.captureStatus

/-- A status byte shows OVERRUN (R177, R191). -/
def showsOverrun (status : Byte) : Bool := status.getLsbD 1

/-- The captured status byte is shifted out in the first byte of the frame, which sets the overrun-seen mark if it shows OVERRUN
(R177). An assertion with no whole byte after it shifts out none. -/
def State.shiftStatus (s : State) : State :=
  { s with port := { s.port with overrunSeen := s.port.overrunSeen || showsOverrun (s.port.frame.getD 0) } }

/-- The bytes that a frame of `n` bytes shifts out: the status byte, then `tail`, then zeros (R181, R191). -/
def frameOut (status : Byte) (tail : List Byte) (n : Nat) : List Byte :=
  (status :: (tail ++ List.replicate n 0)).take n

/-- The release of chip-select after a frame of `n` bytes, with `tail` shifted out behind the status byte. -/
def State.closeFrame (n : Nat) (tail : List Byte) (s : State) : State :=
  { s with port := { s.port with
      frame := none, request := [], sdo := frameOut (s.port.frame.getD 0) tail n } }

/-- While RESET is held and without power the port takes no frame and shifts out zeros (R190). -/
def State.shiftZeros (n : Nat) (s : State) : State :=
  { s with port := { s.port with frame := none, sdo := List.replicate n 0 } }

/-- One frame of `n` bytes, taken as one event at the release of chip-select (R176): `act` is what its type does. -/
def State.frameEvent (n : Nat) (tail : State → List Byte) (act : State → State) (s : State) : State :=
  match s.phase with
  | .running =>
    let s1 := s.openFrame.shiftStatus
    (act s1).closeFrame n (tail s1)
  | .unpowered => s.shiftZeros n
  | .inReset => s.shiftZeros n

/-! ## REQUEST frames (R179, R180) -/

/-- How many bytes a REQUEST frame has. -/
def requestLength (f : RequestFrame) : Nat := 2 + (requestTail f).length

/-- The length is right for a request of `need` body bytes (R179). -/
def goodLength (need : Nat) (f : RequestFrame) : Bool :=
  match f.len with
  | none => false
  | some l => decide (l.toNat ≤ Config.bodyLimit) && f.body.length == l.toNat && l.toNat == need

/-- What a block answers to a request: a reply at once, or a wait (R179). -/
inductive Answer where
  | now (res : ResultCode) (body : List Byte)
  | waits
  deriving DecidableEq, Repr

/-- A REQUEST taken in Idle clears OVERRUN if a status byte has shown it (R180). -/
def State.clearOverrun (s : State) : State :=
  if s.port.overrunSeen = true then { s with port := { s.port with overrun := false, overrunSeen := false } } else s

/-- A REQUEST that ends outside Idle is discarded (R180). -/
def State.discardRequest (s : State) : State :=
  { s with port := { s.port with overrun := true, overrunSeen := false } }

/-- The port after a request has been handed to its block: ReplyReady with the reply, or Working (R178, R179). -/
def State.answer (code : Byte) (r : State × Answer) : State :=
  match r.2 with
  | .now res body => r.1.reply code res body
  | .waits => { r.1 with port := { r.1.port with state := .working } }

/-- A REQUEST frame of the catalogue row `code` at its end (R179): `handle` is what the owning block does with the
body. -/
def State.judgeRequest (code : Byte) (need : Nat) (f : RequestFrame) (handle : List Byte → State → State × Answer)
    (s : State) : State :=
  match s.port.state with
  | .idle =>
    let s1 := s.clearOverrun
    if goodLength need f = true then State.answer code (handle f.body s1) else s1.reply code .badLength []
  | .starting => s.discardRequest
  | .working => s.discardRequest
  | .replyReady => s.discardRequest

/-- A whole REQUEST frame. -/
def State.takeRequest (code : Byte) (need : Nat) (f : RequestFrame) (handle : List Byte → State → State × Answer)
    (s : State) : State :=
  s.frameEvent (requestLength f) (fun _ => []) (fun t => t.judgeRequest code need f handle)

/-- A refusal: no record changes and the reply has an empty body (R182). -/
def refuse (res : ResultCode) (s : State) : State × Answer := (s, .now res [])

/-- A DONE reply with its body. -/
def done (body : List Byte) (s : State) : State × Answer := (s, .now .done body)

/-! ## FETCH (R181) -/

/-- The bytes of a reply behind the status byte (R191). -/
def replyBytes (r : Reply) : List Byte := r.code :: r.result :: BitVec.ofNat 8 r.body.length :: r.body

/-- The NOT READY marker (R191). -/
def notReady : Byte := 0xFF

/-- What a FETCH shifts out behind the status byte. -/
def State.fetchBytes (s : State) : List Byte :=
  match s.port.state, s.port.reply with
  | .replyReady, some r => replyBytes r
  | _, _ => [notReady]

/-- The judgement of a FETCH frame at its end, the host having clocked `clocked` bytes behind the first (R181). -/
def State.judgeFetch (clocked : Nat) (s : State) : State :=
  match s.port.state, s.port.reply with
  | .replyReady, some r =>
    if (replyBytes r).length ≤ clocked then { s with port := { s.port with reply := none, state := .idle } } else s
  | _, _ => s

/-! ## The urgent slot (R183, R185) -/

/-- An URGENT frame: its order replaces what the slot held; an order byte that names none is disregarded (R183). -/
def State.placeOrder (b : Byte) (s : State) : State :=
  match orderOfByte b with
  | none => s
  | some o => { s with port := { s.port with urgent := some o, late := false, dropped := false } }

/-- An URGENT CANCEL frame (R185). -/
def State.cancelOrder (s : State) : State :=
  match s.port.urgent with
  | none => { s with port := { s.port with late := true } }
  | some _ => { s with port := { s.port with urgent := none, dropped := true } }

/-! ## PORT RESET (R189) -/

/-- The state the port goes to on PORT RESET. -/
def stateAfterPortReset (p : PortState) : PortState :=
  match p with
  | .starting => .starting
  | .idle => .idle
  | .working => .idle
  | .replyReady => .idle

/-- PORT RESET: a waiting ask is abandoned (R117), the reply lost, the urgent slot and the flags emptied. -/
def State.portReset (s : State) : State :=
  { s with
    ask := if s.port.state = .working then none else s.ask
    port := { s.port with
      state := stateAfterPortReset s.port.state, reply := none, request := [], urgent := none, late := false, dropped := false,
      overrun := false, overrunSeen := false } }

/-! ## The frames that are no request -/

/-- UNKNOWN_REQUEST (R179): taken in Idle it is refused with code 00h (R191). -/
def State.judgeUnknown (s : State) : State :=
  match s.port.state with
  | .idle => s.clearOverrun.reply 0x00 .unknownRequest []
  | .starting => s.discardRequest
  | .working => s.discardRequest
  | .replyReady => s.discardRequest

/-- UNKNOWN_REQUEST (R179, R180). -/
def execUnknownRequest (_code : Byte) (f : RequestFrame) (s : State) : Host.Outcome State Fault Refusal :=
  .next (s.frameEvent (requestLength f) (fun _ => []) State.judgeUnknown)

/-- STATUS_PEEK (R176, R177). -/
def execStatusPeek (_first : Byte) (s : State) : Host.Outcome State Fault Refusal :=
  .next (s.frameEvent 1 (fun _ => []) id)

/-- DISREGARDED_FRAME (R176). DESIGN CHOICE (log 40): behind the status byte it shifts out zeros, as R191 has it for REQUEST. -/
def execDisregardedFrame (_first : Byte) (rest : List Byte) (s : State) : Host.Outcome State Fault Refusal :=
  .next (s.frameEvent (1 + rest.length) (fun _ => []) id)

/-- FETCH (R181). -/
def execFetch (rest : List Byte) (s : State) : Host.Outcome State Fault Refusal :=
  .next (s.frameEvent (1 + rest.length) State.fetchBytes (State.judgeFetch rest.length))

/-- URGENT (R183). -/
def execUrgent (order : Byte) (rest : List Byte) (s : State) : Host.Outcome State Fault Refusal :=
  .next (s.frameEvent (2 + rest.length) (fun _ => []) (State.placeOrder order))

/-- URGENT_CANCEL (R185). -/
def execUrgentCancel (rest : List Byte) (s : State) : Host.Outcome State Fault Refusal :=
  .next (s.frameEvent (1 + rest.length) (fun _ => []) State.cancelOrder)

/-- PORT_RESET (R189). -/
def execPortReset (rest : List Byte) (s : State) : Host.Outcome State Fault Refusal :=
  .next (s.frameEvent (1 + rest.length) (fun _ => []) State.portReset)

/-- CHIP_SELECT_ASSERTION (R177): the status byte is captured; its shift, and the overrun-seen mark with it, comes with the first
byte of the frame. Without power and while RESET is held the port takes no frame (R190). DESIGN CHOICE (log 37): an assertion
then is not remembered, and a frame released after the start is taken whole, as if asserted at its command. -/
def execChipSelectAssertion (s : State) : Host.Outcome State Fault Refusal :=
  .next (match s.phase with
    | .running => s.captureStatus
    | .unpowered => s
    | .inReset => s)

end Sys2Proof.Machine
end

