-- ==== Sys2Proof/Machine/Cabinets.lean ====
section
/-! DEFINITION. The roster requests (section 1.7): CABINET SET, CABINET DROP, CABINET READ. -/

namespace Sys2Proof.Machine

/-- An entry as it is created, and as each start forms it (R11, R16). -/
def newCabinet (group rated : Nat) : Cabinet :=
  { group := group, rated := rated, mode := .unknown, load := 0, age := 65535, unauthorised := false, link := .unsynced,
    expected := false, ack := false, notice := none, pulse := 0, errors := 0, failures := 0 }

/-- The string list of cabinet `c` (R12): the slot at each of positions 1..4, 0 for an empty one. -/
def State.stringList (s : State) (c : Nat) : List Nat :=
  (numbers Config.positionCount).map (fun p => ((s.stringAt c p).map Prod.fst).getD 0)

/-- The reply body of CABINET READ (R19, R192): the string list is a count byte, then the slot at each position. DEDUCED (log 15):
the count is 4, since an empty position stands in the list as 0. -/
def State.cabinetBody (s : State) (c : Nat) (x : Cabinet) : List Byte :=
  be1 c ++ be1 x.group ++ be2 x.rated ++ be1 (modeCode x.mode) ++ be2 x.load ++ be2 x.age ++ beFlag x.unauthorised ++
    be1 (linkCode x.link) ++ be1 x.failures ++ be1 x.errors ++ be1 (noticeCode (x.notice.map Posting.notice)) ++
    be1 x.pulse.toNat ++ be1 (s.stringList c).length ++ (s.stringList c).flatMap be1

/-- The entry CABINET SET leaves (R16, R17). -/
def setEntry (old : Option Cabinet) (group rated : Nat) : Cabinet :=
  match old with
  | none => newCabinet group rated
  | some x => { x with group := group, rated := rated }

/-- The cabinet's image is checkpointed on creation and when a stored field has changed (R16, R17). -/
def setCheckpoints (old : Option Cabinet) (group rated : Nat) : Bool :=
  match old with
  | none => true
  | some x => x.group != group || x.rated != rated

/-- The effect of CABINET SET on an entry in range, with the values clamped (R16, R17). -/
def State.setEntryOf (c group rated : Nat) (s : State) : State :=
  let s1 := s.setCabinet c (some (setEntry (s.cabinet? c) group rated))
  (if setCheckpoints (s.cabinet? c) group rated = true then s1.checkpoint (cabinetImage c) else s1).recompute

/-- CABINET SET (R16, R17). -/
def cabinetSet (b : List Byte) (s : State) : State × Answer :=
  let c := field b 0 1
  let group := clampNat 1 4 (field b 1 1)
  let rated := clampNat 100 8000 (field b 2 2)
  if inRange Config.cabinetCount c = true then
    let s1 := s.setEntryOf c group rated
    done (s1.cabinetBody c (setEntry (s.cabinet? c) group rated)) s1
  else refuse .notFound s

/-- The link once cabinet `c` is dropped: it leaves the cycle's list, and a poll to it in flight is no longer taken
(R18, R27). -/
def Link.dropCabinet (c : Nat) (l : Link) : Link :=
  { l with
    remaining := l.remaining.filter (fun n => n != c)
    flight := l.flight.map (fun f => if f.cabinet = c then { f with live := false } else f) }

/-- The effect of a CABINET DROP that passes its checks (R18). -/
def State.dropEntry (c : Nat) (s : State) : State :=
  (({ s.setCabinet c none with link := s.link.dropCabinet c } : State).checkpoint (cabinetImage c)).recompute

/-- CABINET DROP (R18). -/
def cabinetDrop (b : List Byte) (s : State) : State × Answer :=
  let c := field b 0 1
  match s.cabinet? c with
  | none => refuse .notFound s
  | some _ =>
    if (s.permitOf c).isSome = true then refuse .wrongState s
    else if (s.stringList c).any (fun k => k != 0) = true then refuse .wrongState s
    else done [] (s.dropEntry c)

/-- CABINET READ (R19): the clear option sets the cumulative error count to 0 after the reply is formed. -/
def cabinetRead (b : List Byte) (s : State) : State × Answer :=
  let c := field b 0 1
  match s.cabinet? c with
  | none => refuse .notFound s
  | some x =>
    done (s.cabinetBody c x) (if field b 1 1 = 0 then s else s.setCabinet c (some { x with errors := 0 }))

/-- CABINET_SET (R16, R17). -/
def execCabinetSet (f : RequestFrame) (s : State) : Host.Outcome State Fault Refusal := .next (s.takeRequest 0x10 4 f cabinetSet)

/-- CABINET_DROP (R18). -/
def execCabinetDrop (f : RequestFrame) (s : State) : Host.Outcome State Fault Refusal := .next (s.takeRequest 0x11 1 f cabinetDrop)

/-- CABINET_READ (R19). -/
def execCabinetRead (f : RequestFrame) (s : State) : Host.Outcome State Fault Refusal := .next (s.takeRequest 0x12 2 f cabinetRead)

end Sys2Proof.Machine
end

