-- ==== Sys2Proof/Machine/Floor.lean ====
section
/-! DEFINITION. The Floor block (chapter 1): floor clock, minute tick, utility filter, floor configuration, and the
floor requests. ATTENTION READ stands here with the other floor requests of the catalogue. -/

namespace Sys2Proof.Machine

/-! ## Configuration (R8, R9) -/

/-- The configuration with each field clamped to its range (R8). -/
def FloorConfig.clamp (c : FloorConfig) : FloorConfig :=
  { spare1 := clampNat 0 3 c.spare1
    spare2 := clampNat 0 3 c.spare2
    spare3 := clampNat 0 3 c.spare3
    spare4 := clampNat 0 3 c.spare4
    headroom := clampNat 0 500 c.headroom
    autonomyFloor := clampNat 0 240 c.autonomyFloor
    efficiency := clampNat 500 1000 c.efficiency
    maxPermit := clampNat 10 720 c.maxPermit
    grantTimeout := clampNat 1 60 c.grantTimeout
    maxVisit := clampNat 30 1440 c.maxVisit
    filterTime := clampNat 2 50 c.filterTime
    mask := c.mask }

/-- The configuration a FLOOR CONFIG WRITE body carries (R192); mask bits 12 to 15 are disregarded. -/
def configOfBody (b : List Byte) : FloorConfig :=
  { spare1 := field b 0 1, spare2 := field b 1 1, spare3 := field b 2 1, spare4 := field b 3 1, headroom := field b 4 2,
    autonomyFloor := field b 6 1, efficiency := field b 7 2, maxPermit := field b 9 2, grantTimeout := field b 11 1,
    maxVisit := field b 12 2, filterTime := field b 14 1, mask := BitVec.ofNat 12 (field b 15 2) }

/-- The configuration as a reply carries it (R9, R192). -/
def configBody (c : FloorConfig) : List Byte :=
  be1 c.spare1 ++ be1 c.spare2 ++ be1 c.spare3 ++ be1 c.spare4 ++ be2 c.headroom ++ be1 c.autonomyFloor ++ be2 c.efficiency ++
    be2 c.maxPermit ++ be1 c.grantTimeout ++ be2 c.maxVisit ++ be1 c.filterTime ++ be2 c.mask.toNat

/-- The state a level of UTILITY SENSE stands for (section 1.3). -/
def utilityOfLevel (high : Bool) : UtilityState := if high then .present else .lost

/-- A write that shortens the filter time accepts a differing level that has already held for the new time (R4). -/
def State.filterAfterWrite (old : Nat) (s : State) : State :=
  if s.floor.config.filterTime < old ∧ s.floor.config.filterTime ≤ s.floor.senseHeld ∧
      utilityOfLevel s.floor.sense ≠ s.floor.utility then
    s.acceptUtility (utilityOfLevel s.floor.sense)
  else s

/-- The configuration is replaced and checkpointed, and its fields act (R9): margins at once, then the filter time. -/
def State.writeConfig (c : FloorConfig) (s : State) : State :=
  ((({ s with floor := { s.floor with config := c } } : State).checkpoint configImage).recompute).filterAfterWrite
    s.floor.config.filterTime

/-- FLOOR CONFIG WRITE (R9). -/
def floorConfigWrite (b : List Byte) (s : State) : State × Answer :=
  let c := (configOfBody b).clamp
  done (configBody c) (s.writeConfig c)

/-! ## Clock and floor reads -/

/-- CLOCK SET (R2). -/
def clockSet (b : List Byte) (s : State) : State × Answer :=
  let v : BitVec 32 := BitVec.ofNat 32 (field b 0 4)
  done (be4 v.toNat ++ beFlag true) { s with floor := { s.floor with clock := v, clockSet := true } }

/-- A group's figures as FLOOR READ carries them (R10, R192): 17 bytes. -/
def groupBody (g : Group) : List Byte :=
  be1 g.required ++ be4 g.load ++ be4 g.capacity ++ be1s g.spare ++ be4 g.energy ++ be2 g.autonomy ++ be1 (marginCode g.status)

/-- The reply body of FLOOR READ (R10, R192). -/
def State.floorBody (s : State) : List Byte :=
  be1 (utilityCode s.floor.utility) ++ beFlag s.floor.hold ++ be4 s.floor.clock.toNat ++ beFlag s.floor.clockSet ++
    be1 (startCauseCode s.floor.cause) ++ s.groups.flatMap groupBody

/-- FLOOR READ (R10). -/
def floorRead (_ : List Byte) (s : State) : State × Answer := done s.floorBody s

/-! ## ATTENTION READ (R188) -/

/-- The bytes of a map, number n in byte (n − 1) / 8 at bit (n − 1) mod 8 (R192). -/
def mapBytes {w : Nat} (n : Nat) (m : BitVec w) : List Byte := (List.range n).map (fun i => m.extractLsb' (8 * i) 8)

/-- An entry of the reply: cause number and detail, when the cause is present. -/
def mapEntry {w : Nat} (cause n : Nat) (m : BitVec w) : List (List Byte) := if m = 0 then [] else [be1 cause ++ mapBytes n m]

/-- The entries of the present causes, in the order of R186. -/
def attentionEntries (a : Attention) : List (List Byte) :=
  (match a.utilityChange with
    | none => []
    | some u => [be1 1 ++ be1 (utilityCode u)]) ++
  mapEntry 2 1 a.marginShort ++ mapEntry 3 3 a.unauthorisedBypass ++ mapEntry 4 1 a.permitOverdue ++
  mapEntry 5 1 a.permitChanged ++ mapEntry 6 3 a.cabinetLost ++ mapEntry 7 3 a.cabinetBack ++
  mapEntry 8 1 a.visitItemInterrupted ++ mapEntry 9 1 a.visitOvertime ++ mapEntry 10 8 a.stringStateChanged ++
  (if a.storeFault = true then [be1 11] else []) ++
  (match a.start with
    | none => []
    | some (c, n) => [be1 12 ++ be1 (startCauseCode c) ++ be1 n])

/-- The reply body of ATTENTION READ: a count and the entries (R192). -/
def attentionBody (a : Attention) : List Byte := be1 (attentionEntries a).length ++ (attentionEntries a).flatten

/-- ATTENTION READ (R188): the reply carries every present cause, and the set is cleared of them. -/
def attentionRead (_ : List Byte) (s : State) : State × Answer :=
  done (attentionBody s.attention) { s with attention := Attention.empty }

/-! ## The commands -/

/-- FLOOR_READ (R10). -/
def execFloorRead (f : RequestFrame) (s : State) : Host.Outcome State Fault Refusal := .next (s.takeRequest 0x01 0 f floorRead)

/-- FLOOR_CONFIG_WRITE (R9). -/
def execFloorConfigWrite (f : RequestFrame) (s : State) : Host.Outcome State Fault Refusal :=
  .next (s.takeRequest 0x02 17 f floorConfigWrite)

/-- CLOCK_SET (R2). -/
def execClockSet (f : RequestFrame) (s : State) : Host.Outcome State Fault Refusal := .next (s.takeRequest 0x03 4 f clockSet)

/-- ATTENTION_READ (R188). -/
def execAttentionRead (f : RequestFrame) (s : State) : Host.Outcome State Fault Refusal :=
  .next (s.takeRequest 0x04 0 f attentionRead)

/-- MINUTE_TICK (R3): delivered while the part operates; held, once, while the start-up procedure runs; none without
power or while RESET is held. -/
def execMinuteTick (s : State) : Host.Outcome State Fault Refusal :=
  .next (match s.phase with
    | .running =>
      if s.operating = true then s.tick else { s with floor := { s.floor with tickHeld := true } }
    | .unpowered => s
    | .inReset => s)

/-- CALENDAR_STEP (R76, R81): the tick that reaches the record in `slot` completes its window. -/
def execCalendarStep (slot : Nat) (s : State) : Host.Outcome State Fault Refusal :=
  .next (match s.string? slot with
    | none => s
    | some r =>
      if s.operating = true ∧ s.countsMinute r = true ∧ 59 ≤ r.m then
        (s.workOn slot (countCalendarMinute s)).recompute
      else s)

/-- The minutes since the last measurement once the pulse interval has run (R70). -/
def sinceAtPulse (p : Profile) (r : StringRecord) : Nat := max r.sinceR (p.interval * 1440)

/-- AUTOMATIC_PULSE (R70): the tick that reaches the record in `slot` completes its pulse interval, or finds it
complete. DESIGN CHOICE (log 39): where the interval has run already, the bit is set again and the count left to MINUTE TICK. -/
def execAutomaticPulse (slot : Nat) (s : State) : Host.Outcome State Fault Refusal :=
  .next (match s.string? slot with
    | none => s
    | some r =>
      match s.profile? r.profile with
      | none => s
      | some p =>
        if s.operating = true ∧ r.cabinet.isSome = true ∧ r.state ≠ .retired ∧ p.interval * 1440 ≤ r.sinceR + 1 then
          (s.setString slot (some { r with sinceR := sinceAtPulse p r })).setPulse (r.cabinet.getD 0) r.position
        else s)

/-- GRANT_TIMEOUT (R122): the tick that reaches the Granted permit in `slot` ends its grant timeout. -/
def execGrantTimeout (slot : Nat) (s : State) : Host.Outcome State Fault Refusal :=
  .next (match s.permit? slot with
    | none => s
    | some p =>
      if s.operating = true ∧ p.state = .granted ∧ p.timeout.getD 0 ≤ 1 then s.expireGrant slot else s)

/-- PERMIT_OVERDUE (R123): the tick that reaches the Active permit in `slot` ends its last minute. -/
def execPermitOverdue (slot : Nat) (s : State) : Host.Outcome State Fault Refusal :=
  .next (match s.permit? slot with
    | none => s
    | some p => if s.operating = true ∧ p.state = .active ∧ p.remaining ≤ 1 then s.makeOverdue slot p else s)

/-- VISIT_OVERTIME (R155): the tick that reaches the visit in `slot` ends its last minute. -/
def execVisitOvertime (slot : Nat) (s : State) : Host.Outcome State Fault Refusal :=
  .next (match s.visit? slot with
    | none => s
    | some x => if s.operating = true ∧ x.remaining = 1 then s.makeOvertime slot x else s)

/-- UTILITY_SENSE_EDGE (R4): the level changes, and the measurement of how long it has held restarts. -/
def execUtilitySenseEdge (high : Bool) (s : State) : Host.Outcome State Fault Refusal :=
  .next (if high = s.floor.sense then s
    else { s with floor := { s.floor with sense := high, senseHeld := 0, senseMoved := true } })

/-- The filter's judgement after start-up: a level that differs from the accepted state, Unknown among them, and has held for
the filter time held at that moment is accepted; any other leaves no trace (R4, R5). -/
def State.judgeFilter (s : State) : State :=
  if s.operating = true ∧ s.floor.config.filterTime ≤ s.floor.senseHeld ∧ utilityOfLevel s.floor.sense ≠ s.floor.utility then
    s.acceptUtility (utilityOfLevel s.floor.sense)
  else s

/-- `ms` milliseconds in which the level has held: the timer counts them (R4), and a poll message or a link break on the line,
both shorter than one, has ended (R20, R24; log 22). -/
def State.countTime (ms : Nat) (s : State) : State :=
  { s with
    floor := { s.floor with senseHeld := min (s.floor.senseHeld + ms) Config.filterLimit }
    link := { s.link with line := if ms = 0 then s.link.line else .quiet } }

/-- `ms` milliseconds pass with no command: they are counted, and the filter judges the level (R4, log 6). Without power and
while RESET is held nothing is timed: a start times the level anew (R5). -/
def State.passTime (ms : Nat) (s : State) : State :=
  match s.phase with
  | .running => (s.countTime ms).judgeFilter
  | .unpowered => s
  | .inReset => s

/-- How many milliseconds the level has still to hold until it has held for the filter time. -/
def Floor.filterRest (f : Floor) : Nat := f.config.filterTime - f.senseHeld

/-- UTILITY_CHANGE (R4 to R6): what is left of the filter time passes with no edge and no other command (log 6), and the level,
which has then held for the filter time, is accepted where it differs from the accepted state. -/
def execUtilityChange (s : State) : Host.Outcome State Fault Refusal := .next (s.passTime s.floor.filterRest)

/-- FLOOR_CLOCK_SECOND (R1): the clock counts while the part has power, also while RESET is held. -/
def execFloorClockSecond (s : State) : Host.Outcome State Fault Refusal :=
  .next (match s.phase with
    | .unpowered => s
    | .inReset => { s with floor := { s.floor with clock := s.floor.clock + 1 } }
    | .running => { s with floor := { s.floor with clock := s.floor.clock + 1 } })

end Sys2Proof.Machine
end

