-- ==== Sys2Proof/Machine/Link.lean ====
section
/-! DEFINITION. The cabinet link (chapter 2): slots and the poll cycle, the decision points of a poll, and the
hand-over of an accepted report. -/

namespace Sys2Proof.Machine

/-! ## Slots and the cycle -/

/-- A slot can begin: the link runs and no reply window is open (R25, R29; log 3). -/
def State.slotDue (s : State) : Bool := s.operating && s.link.flight.isNone

/-- The list of a cycle that begins with counter `n`: every Present cabinet that is not Lost, and the Lost ones when the
counter is 0 (R26). -/
def State.listFor (s : State) (n : Nat) : List Nat :=
  ((entries s.cabinets).filter (fun e => e.2.link != .lost || n == 0)).map (fun e => e.1)

/-- The counter and the list a poll slot works from: the present cycle's, or a new cycle's when none is left (R26). -/
def State.cycle (s : State) : Nat × List Nat :=
  if s.link.remaining = [] then
    let n := (s.link.counter + 1) % 8
    (n, s.listFor n)
  else (s.link.counter, s.link.remaining)

/-- The next slot is a poll slot proper (R25, R26). -/
def State.pollDue (s : State) : Bool := s.slotDue && !s.link.breakDue && !s.cycle.2.isEmpty
/-- The next slot is a break slot (R24). -/
def State.breakDueNow (s : State) : Bool := s.slotDue && s.link.breakDue
/-- The next slot is an idle slot (R26). -/
def State.idleDue (s : State) : Bool := s.slotDue && !s.link.breakDue && s.cycle.2.isEmpty

/-- The poll carries SYNC (R28). -/
def Cabinet.syncs (x : Cabinet) : Bool := x.link == .unsynced || x.link == .lost

/-- The pulse bits of a poll formed now (R44). -/
def Cabinet.pollPulses (u : UtilityState) (x : Cabinet) : BitVec 4 := if x.pulsesCarried u = true then x.pulse else 0

/-- The control character of a poll formed now to the cabinet with entry `x` (R28). -/
def Cabinet.control (u : UtilityState) (x : Cabinet) : Byte :=
  controlChar x.ack x.syncs (x.notice.map Posting.notice) (x.pollPulses u)

/-- The entry once a poll to it has been formed: SYNC sets the expected toggle to 0 (R28, R37). -/
def Cabinet.polled (x : Cabinet) : Cabinet := if x.syncs = true then { x with expected := false } else x

/-- The record kept for a poll formed now (R28). -/
def flightOf (c : Nat) (x : Cabinet) : Flight :=
  { cabinet := c, sync := x.syncs, posting := x.notice, live := true, afterAsk := true }

/-- A poll is formed and sent to the cabinet due, after a cycle start where one is due (R26, R28). -/
def State.formPoll (s : State) : State :=
  match s.cycle with
  | (_, []) => s
  | (n, c :: rest) =>
    match s.cabinet? c with
    | none => { s with link := { s.link with counter := n, remaining := rest, line := .quiet } }
    | some x =>
      { s.setCabinet c (some x.polled) with
        link := { s.link with
          counter := n, remaining := rest, flight := some (flightOf c x), line := .poll (pollMessage c (x.control s.floor.utility)) } }

/-! ## The outcome of a poll -/

/-- The window closes (R29). The poll message ended when the window opened, so LINK DIR is at receive (R20). -/
def State.closeWindow (s : State) : State := { s with link := { s.link with flight := none, line := .quiet } }

/-- The failure run count takes one failure; the sixth makes the next slot a break slot (R24). -/
def Link.countFailure (l : Link) : Link :=
  if 5 ≤ l.failureRun then { l with failureRun := 0, breakDue := true } else { l with failureRun := l.failureRun + 1 }

/-- The link state and the consecutive count after a failed poll (R33). -/
def linkAfterFailure (l : LinkState) (failures : Nat) : LinkState × Nat :=
  match l with
  | .unsynced => (.unsynced, 0)
  | .online => (.silent, 1)
  | .silent => if 3 ≤ failures + 1 then (.lost, 3) else (.silent, failures + 1)
  | .lost => (.lost, 3)

/-- The entry after a failed poll (R31, R33). -/
def Cabinet.afterFailure (x : Cabinet) : Cabinet :=
  { x with
    errors := min (x.errors + 1) Config.errorLimit
    link := (linkAfterFailure x.link x.failures).1
    failures := (linkAfterFailure x.link x.failures).2 }

/-- The failure moved the cabinet into Lost (R33). -/
def Cabinet.goesLost (x : Cabinet) : Bool := x.link != .lost && x.afterFailure.link == .lost

/-- The poll to cabinet `c`, with entry `x`, has failed (R31, R33, R34). -/
def State.failPoll (c : Nat) (x : Cabinet) (s : State) : State :=
  let s1 := { s.setCabinet c (some x.afterFailure) with link := s.link.countFailure }
  if x.goesLost = true then ((s1.attend (raiseCabinetLost c)).recompute).settleWait c else s1

/-- The decision point of a poll that fails, whatever the cause; a poll whose cabinet was dropped counts nowhere
(R27, R29, R31). -/
def State.pollFails (s : State) : State :=
  match s.link.flight with
  | none => s
  | some f =>
    match s.cabinet? f.cabinet with
    | none => s.closeWindow
    | some x => if f.live = true then s.closeWindow.failPoll f.cabinet x else s.closeWindow

/-- A good reply of any code returns the run count to 0 (R32). -/
def State.goodContact (s : State) : State := { s with link := { s.link with failureRun := 0 } }

/-- Good contact with cabinet `c` releases it from a wait that began before the poll was formed (R115). -/
def State.releaseWait (c : Nat) (f : Flight) (s : State) : State := if f.afterAsk = true then s.settleWait c else s

/-- The link state after a BUSY reply (R35). -/
def Cabinet.afterBusy (x : Cabinet) : Cabinet :=
  match x.link with
  | .unsynced => { x with failures := 0 }
  | .online => { x with failures := 0 }
  | .silent => { x with link := .online, failures := 0 }
  | .lost => { x with failures := 3 }

/-- A BUSY reply: good contact with no data (R35). -/
def State.takeBusy (c : Nat) (x : Cabinet) (f : Flight) (s : State) : State :=
  ((s.setCabinet c (some x.afterBusy)).goodContact).releaseWait c f

/-- The report is new (R38). -/
def Cabinet.isNew (x : Cabinet) (rep : Report) : Bool := rep.toggle == x.expected

/-- The notice slot after a report that answers a poll with posting `carried` (R41). -/
def clearedNotice (taken : Bool) (carried slot : Option Posting) : Option Posting :=
  if taken = true ∧ carried.isSome = true ∧ slot = carried then none else slot

/-- The pulse bits a report answers: the positions with a nonzero resistance (R44). -/
def answeredPulses (rep : Report) : BitVec 4 :=
  (if rep.block1.resistance ≠ 0 then pulseBit 1 else 0) ||| (if rep.block2.resistance ≠ 0 then pulseBit 2 else 0) |||
    (if rep.block3.resistance ≠ 0 then pulseBit 3 else 0) ||| (if rep.block4.resistance ≠ 0 then pulseBit 4 else 0)

/-- The entry after an accepted report: link fields settled (R33, R38, R41, R44), then mode, load and age (R13, R14). -/
def Cabinet.afterReport (x : Cabinet) (carried : Option Posting) (rep : Report) : Cabinet :=
  { x with
    link := .online
    failures := 0
    expected := if x.isNew rep = true then !rep.toggle else x.expected
    ack := rep.toggle
    notice := clearedNotice rep.noticeTaken carried x.notice
    pulse := x.pulse &&& ~~~ answeredPulses rep
    mode := rep.givenMode
    load := rep.givenLoad
    age := 0 }

/-- The report ends the waiting ask for its cabinet when its mode is neither Inverter nor StaticBypass (R116). -/
def State.endsByMode (s : State) (c : Nat) (m : Mode) : Bool :=
  match s.ask with
  | none => false
  | some a => a.cabinet == c && m != .inverter && m != .staticBypass

/-- What a report means to the waiting ask (R115, R116). -/
def State.askReport (c : Nat) (m : Mode) (f : Flight) (s : State) : State :=
  if s.endsByMode c m = true then s.endAsk .wrongState else s.releaseWait c f

/-- An accepted REPORT or HALTED reply (R36, R45): link fields, Floor block, String block, Permit and Visit blocks, one
recomputation, then the waiting ask. DESIGN CHOICE (log 33): the String block's images enter the dirty queue before those of
the Permit and Visit blocks. -/
def State.takeReport (c : Nat) (x : Cabinet) (f : Flight) (rep : Report) (s : State) : State :=
  let s1 := (s.setCabinet c (some (x.afterReport f.posting rep))).goodContact
  let s2 := if x.link = .lost then s1.attend (raiseCabinetBack c) else s1
  let s3 := s2.intake c x.mode rep.givenMode (x.isNew rep) rep
  ((s3.permitReport c rep.givenMode).recompute).askReport c rep.givenMode f

/-- The decision point of a reply that ended in time (R30 to R36); a reply whose cabinet was dropped is not taken
(R27). -/
def State.takeReply (cs : List RxChar) (s : State) : State :=
  match s.link.flight with
  | none => s
  | some f =>
    match s.cabinet? f.cabinet with
    | none => s.closeWindow
    | some x =>
      if f.live = true then
        match judgeReply f.cabinet cs with
        | .failed => s.closeWindow.failPoll f.cabinet x
        | .busy => s.closeWindow.takeBusy f.cabinet x f
        | .report rep => s.closeWindow.takeReport f.cabinet x f rep
      else s.closeWindow

/-! ## The commands -/

/-- POLL_SLOT (R26, R28): the urgent order is taken and a poll is formed, in the order the command names (R25). -/
def execPollSlot (orderFirst : Bool) (s : State) : Host.Outcome State Fault Refusal :=
  .next (if s.pollDue = true then (if orderFirst = true then s.takeUrgent.formPoll else s.formPoll.takeUrgent) else s)

/-- BREAK_SLOT (R24, R25): a link break; link states, toggles, notices and pulses stay as they were. -/
def execBreakSlot (s : State) : Host.Outcome State Fault Refusal :=
  .next (if s.breakDueNow = true then
      ({ s with link := { s.link with breakDue := false, line := .linkBreak } } : State).takeUrgent
    else s)

/-- IDLE_SLOT (R25, R26): the slot of a cycle whose list is empty. -/
def execIdleSlot (s : State) : Host.Outcome State Fault Refusal :=
  .next (if s.idleDue = true then ({ s with link := { s.link with counter := s.cycle.1, line := .quiet } } : State).takeUrgent else s)

/-- NO_REPLY (R29). -/
def execNoReply (s : State) : Host.Outcome State Fault Refusal := .next s.pollFails

/-- NO_REPLY_IN_TIME (R29). -/
def execNoReplyInTime (s : State) : Host.Outcome State Fault Refusal := .next s.pollFails

/-- REPLY_END (R29, R30). -/
def execReplyEnd (chars : List RawChar) (s : State) : Host.Outcome State Fault Refusal :=
  .next (s.takeReply (chars.map receive))

/-- ASK_WAIT_END (R118): a waiting ask whose set is empty is judged. -/
def execAskWaitEnd (s : State) : Host.Outcome State Fault Refusal := .next s.judgeIfSettled

/-- The refusal with which the waiting ask is to end early, if any (R116): loss of the utility, HOLD, the mode of the
asked cabinet. -/
def State.earlyEnd (s : State) (a : Ask) : Option ResultCode :=
  if s.floor.utility = .lost then some .utilityLost
  else if s.floor.hold = true then some .hold
  else
    match s.cabinet? a.cabinet with
    | none => none
    | some x => if x.mode ≠ .inverter ∧ x.mode ≠ .staticBypass then some .wrongState else none

/-- ASK_EARLY_END (R116): a waiting ask that one of the three conditions stops is ended with its refusal. -/
def execAskEarlyEnd (s : State) : Host.Outcome State Fault Refusal :=
  .next (match s.ask with
    | none => s
    | some a =>
      match s.earlyEnd a with
      | none => s
      | some res => s.endAsk res)

end Sys2Proof.Machine
end

