-- ==== Sys2Proof/Machine/PermitRequests.lean ====
section
/-! DEFINITION. The host requests on permits (sections 6.2 and 6.4). -/

namespace Sys2Proof.Machine

/-- A visit byte: 0 means none (R192). -/
def visitOfByte (n : Nat) : Option Nat := if n = 0 then none else some n

/-- The visit of an ask is none or an open visit (R113, check 7). -/
def State.visitOpenOrNone (s : State) (v : Option Nat) : Bool :=
  match v with
  | none => true
  | some n => (s.visit? n).isSome

/-- The wait set an ask forms (R114): the cabinets of its group that are Online or Silent. -/
def State.waitSetFor (s : State) (g : Nat) : List Nat :=
  ((s.members g).filter (fun e => e.2.link == .online || e.2.link == .silent)).map (fun e => e.1)

/-- The ask is taken into its wait (R114); a poll already formed does not count for it (R115). -/
def State.beginWait (c : Nat) (x : Cabinet) (duration : Nat) (v : Option Nat) (s : State) : State :=
  { s with
    ask := some { cabinet := c, duration := duration, visit := v, group := x.group, waitSet := s.waitSetFor x.group }
    link := { s.link with flight := s.link.flight.map (fun f => { f with afterAsk := false }) } }

/-- The intake checks of an ask on a Present cabinet, in R113's order; `none` when it passes. -/
def State.askRefusal (s : State) (c : Nat) (x : Cabinet) (v : Option Nat) : Option ResultCode :=
  if (s.permitOf c).isSome = true then some .wrongState
  else if x.link ≠ .online ∨ (x.mode ≠ .inverter ∧ x.mode ≠ .staticBypass) then some .wrongState
  else if s.floor.hold = true then some .hold
  else if s.floor.utility ≠ .present then some .utilityLost
  else if (lowestFree s.permits).isNone = true then some .noRoom
  else if s.visitOpenOrNone v = false then some .notFound
  else none

/-- PERMIT ASK (R113, R114). -/
def permitAsk (b : List Byte) (s : State) : State × Answer :=
  let c := field b 0 1
  let v := visitOfByte (field b 3 1)
  match s.cabinet? c with
  | none => refuse .notFound s
  | some x =>
    match s.askRefusal c x v with
    | some res => refuse res s
    | none => (s.beginWait c x (clampNat 10 s.floor.config.maxPermit (field b 1 2)) v, .waits)

/-- PERMIT READ (R130). -/
def permitRead (b : List Byte) (s : State) : State × Answer :=
  let k := field b 0 1
  match s.permit? k with
  | none => refuse .notFound s
  | some p => done (permitBody k p) s

/-- PERMIT RECALL (R129). -/
def permitRecall (b : List Byte) (s : State) : State × Answer :=
  let k := field b 0 1
  match s.permit? k with
  | none => refuse .notFound s
  | some p =>
    if p.state = .active ∨ p.state = .overdue then
      done (permitBody k { p with recallAsked := true }) (s.recallPermit k p)
    else refuse .wrongState s

/-- PERMIT CANCEL (R128). -/
def permitCancel (b : List Byte) (s : State) : State × Answer :=
  let k := field b 0 1
  match s.permit? k with
  | none => refuse .notFound s
  | some p => if p.state = .granted then done [] (s.closePermit k).recompute else refuse .wrongState s

/-- PERMIT_ASK (R113). -/
def execPermitAsk (f : RequestFrame) (s : State) : Host.Outcome State Fault Refusal := .next (s.takeRequest 0x30 4 f permitAsk)

/-- PERMIT_READ (R130). -/
def execPermitRead (f : RequestFrame) (s : State) : Host.Outcome State Fault Refusal := .next (s.takeRequest 0x31 1 f permitRead)

/-- PERMIT_RECALL (R129). -/
def execPermitRecall (f : RequestFrame) (s : State) : Host.Outcome State Fault Refusal :=
  .next (s.takeRequest 0x32 1 f permitRecall)

/-- PERMIT_CANCEL (R128). -/
def execPermitCancel (f : RequestFrame) (s : State) : Host.Outcome State Fault Refusal :=
  .next (s.takeRequest 0x33 1 f permitCancel)

end Sys2Proof.Machine
end

