-- ==== Sys2Proof/Machine/Store.lean ====
section
/-! DEFINITION. The record store (sections 8.1 to 8.3): what an image takes from its record, the store writer, loss of
power and the RESET line. -/

namespace Sys2Proof.Machine

/-! ## Writing an image (R164 to R166) -/

/-- A cabinet's image holds its stored fields (R161). -/
def cabinetContent (x : Cabinet) : CabinetImage := { group := x.group, rated := x.rated }

/-- A string's image holds every field but the latest voltage, current and temperature (R161). -/
def stringContent (r : StringRecord) : StringRecord := { r with voltage := 0, current := 0, temperature := 0 }

/-- A permit's image does not hold the grant-timeout minutes (R112, R161). -/
def permitContent (p : Permit) : Permit := { p with timeout := none }

/-- The contents of an image, taken from the record as it stands; a free slot gives "empty" (R164). -/
def State.contentOf (s : State) (id : ImageId) : Content :=
  match id.kind with
  | .config => .config s.floor.config
  | .profile => .profile (s.profile? id.number)
  | .cabinet => .cabinet ((s.cabinet? id.number).map cabinetContent)
  | .string => .string ((s.string? id.number).map stringContent)
  | .permit => .permit ((s.permit? id.number).map permitContent)
  | .visit => .visit (s.visit? id.number)

/-- The images with image `n` of the content's kind replaced. -/
def putImage (im : Images) (n : Nat) (good : Bool) (number : Nat) (c : Content) : Images :=
  match c with
  | .config x => { im with config := { good := good, number := number, content := x } }
  | .profile x => { im with profiles := setImageAt im.profiles n { good := good, number := number, content := x } }
  | .cabinet x => { im with cabinets := setImageAt im.cabinets n { good := good, number := number, content := x } }
  | .string x => { im with strings := setImageAt im.strings n { good := good, number := number, content := x } }
  | .permit x => { im with permits := setImageAt im.permits n { good := good, number := number, content := x } }
  | .visit x => { im with visits := setImageAt im.visits n { good := good, number := number, content := x } }

/-- The check of the image that a write ends with: what the read-back found (R166, log 11). -/
def writeLeavesGood (o : WriteOutcome) : Bool :=
  match o with
  | .matched => true
  | .differs g => g

/-- The images once the write in flight has ended (R164, R166). -/
def endWrite (w : ImageWrite) (o : WriteOutcome) (im : Images) : Images :=
  putImage im w.id.number (writeLeavesGood o) w.number w.content

/-- The images once power has failed during a write: the image has a bad check (R167). -/
def spoilWrite (w : ImageWrite) (im : Images) : Images := putImage im w.id.number false w.number w.content

/-- The write of the image at the head of the queue begins (R164). -/
def State.beginWrite (id : ImageId) (rest : List ImageId) (s : State) : State :=
  { s with store := { s.store with
      queue := rest
      writer := some { id := id, number := s.store.nextNumber, content := s.contentOf id }
      nextNumber := s.store.nextNumber + 1 } }

/-- STORE_WRITE_BEGIN (R164): an idle writer takes the oldest entry; it works in the start-up procedure too (R170). -/
def execStoreWriteBegin (s : State) : Host.Outcome State Fault Refusal :=
  .next (match s.phase, s.store.writer, s.store.queue with
    | .running, none, id :: rest => s.beginWrite id rest
    | _, _, _ => s)

/-- The write in flight ends: the image stands as written, and the writer is idle (R164). -/
def State.finishWrite (w : ImageWrite) (o : WriteOutcome) (s : State) : State :=
  { s with store := { s.store with images := endWrite w o s.store.images, writer := none } }

/-- The write in flight ends while the part runs: a read-back that differs raises STORE FAULT and queues the image again
(R166). -/
def State.endRunningWrite (o : WriteOutcome) (s : State) : State :=
  match s.store.writer with
  | none => s
  | some w =>
    match o with
    | .matched => s.finishWrite w o
    | .differs _ => ((s.finishWrite w o).attend raiseStoreFault).checkpoint w.id

/-- The write in flight ends while RESET is held: the image is left as the write made it, and nothing is raised or queued
(R168). -/
def State.endResetWrite (o : WriteOutcome) (s : State) : State :=
  match s.store.writer with
  | none => s
  | some w => s.finishWrite w o

/-- STORE_WRITE_END (R164 to R166, R168). -/
def execStoreWriteEnd (o : WriteOutcome) (s : State) : Host.Outcome State Fault Refusal :=
  .next (match s.phase with
    | .running => s.endRunningWrite o
    | .inReset => s.endResetWrite o
    | .unpowered => s)

/-! ## Power loss and RESET (R167, R168) -/

/-- Working memory without power or while RESET is held: nothing reads it before the next start forms it anew (log 12). What
is kept are the clock, the images and the write in flight as they are given. -/
def State.blank (ph : Phase) (images : Images) (writer : Option ImageWrite) (s : State) : State :=
  { phase := ph
    floor := { s.floor with
      tickHeld := false, utility := .unknown, senseHeld := 0, senseMoved := false, hold := false, config := FloorConfig.default }
    cabinets := List.replicate Config.cabinetCount none
    link := Link.start
    profiles := List.replicate Config.profileCount none
    strings := List.replicate Config.stringCount none
    groups := List.replicate Config.groupCount (Group.start 1)
    permits := List.replicate Config.permitCount none
    ask := none
    visits := List.replicate Config.visitCount none
    store :=
      { images := images, queue := [], writer := writer, nextNumber := s.store.nextNumber, completion := .matched }
    port := Port.starting
    attention := Attention.empty
    pending := s.pending }

/-- The images a loss of power leaves: one in flight is bad, also when RESET was held and its write had not ended (R167,
R168). -/
def State.imagesAfterLoss (s : State) : Images :=
  match s.store.writer with
  | none => s.store.images
  | some w => spoilWrite w s.store.images

/-- Power is lost (R167). The floor clock is lost with the working memory; a POWER ON start clears it (R1). -/
def State.losePower (s : State) : State :=
  let s1 := s.blank .unpowered s.imagesAfterLoss none
  { s1 with floor := { s1.floor with clock := 0, clockSet := false } }

/-- RESET is asserted (R168): the queue is lost, the clock counts on, and a write in flight goes on to its end, which is a
STORE WRITE END while the line is held, or else comes before the start, with outcome `o`. -/
def State.enterReset (o : WriteOutcome) (s : State) : State :=
  let s1 := s.blank .inReset s.store.images s.store.writer
  { s1 with store := { s1.store with completion := o } }

/-- The write that was in flight when RESET was asserted, and that has not ended yet, ends: the part enters reset only after
it (R168). -/
def State.completeWrite (s : State) : State := s.endResetWrite s.store.completion

/-- POWER_LOSS (R167). -/
def execPowerLoss (s : State) : Host.Outcome State Fault Refusal :=
  .next (match s.phase with
    | .unpowered => s
    | .running => s.losePower
    | .inReset => s.losePower)

/-- RESET_ASSERT (R168). -/
def execResetAssert (o : WriteOutcome) (s : State) : Host.Outcome State Fault Refusal :=
  .next (match s.phase with
    | .running => s.enterReset o
    | .unpowered => s
    | .inReset => s)

end Sys2Proof.Machine
end

