-- ==== Sys2Proof/Machine/StringRequests.lean ====
section
/-! DEFINITION. The profile and string requests (sections 3.1 and 3.4). -/

namespace Sys2Proof.Machine

/-! ## Profiles (R46 to R49) -/

/-- The profile with each field clamped to its range, the watch threshold before the replace threshold (R46, R47). -/
def Profile.clamp (p : Profile) : Profile :=
  { capacity := clampNat 1 3000 p.capacity
    voltage := clampNat 12 900 p.voltage
    life := clampNat 8760 175200 p.life
    tref := clampInt 150 350 p.tref
    step := clampNat 50 200 p.step
    cycles := clampNat 50 5000 p.cycles
    w1 := clampNat 64 1024 p.w1
    w2 := clampNat 64 1024 p.w2
    w3 := clampNat 64 1024 p.w3
    w4 := clampNat 64 1024 p.w4
    reol := clampNat 1100 3000 p.reol
    watch := clampNat 500 950 p.watch
    replace := clampNat 300 (clampNat 500 950 p.watch - 10) p.replace
    assumed := clampInt (-200) 700 p.assumed
    interval := clampNat 1 90 p.interval }

/-- The profile a PROFILE WRITE body carries (R192). -/
def profileOfBody (b : List Byte) : Profile :=
  { capacity := field b 1 2, voltage := field b 3 2, life := field b 5 4, tref := (field b 9 2 : Nat), step := field b 11 1,
    cycles := field b 12 2, w1 := field b 14 2, w2 := field b 16 2, w3 := field b 18 2, w4 := field b 20 2, reol := field b 22 2,
    watch := field b 24 2, replace := field b 26 2, assumed := signed16 (field b 28 2), interval := field b 30 1 }

/-- The fields of a profile as a reply carries them: 30 bytes (R46, R192). -/
def profileBody (p : Profile) : List Byte :=
  be2 p.capacity ++ be2 p.voltage ++ be4 p.life ++ be2 p.tref.toNat ++ be1 p.step ++ be2 p.cycles ++ be2 p.w1 ++ be2 p.w2 ++
    be2 p.w3 ++ be2 p.w4 ++ be2 p.reol ++ be2 p.watch ++ be2 p.replace ++ be2s p.assumed ++ be1 p.interval

/-- A write to profile `n` on the record in slot `k`: it acts on every record that names the profile and is not
Retired (R48). DESIGN CHOICE (log 28): an unattached record is no exception, though R53 has it age not at all. -/
def State.profileWriteOn (n : Nat) (p : Profile) (s : State) (k : Nat) : State :=
  match s.string? k with
  | none => s
  | some r => if r.profile = n ∧ r.state ≠ .retired then s.workOn k (fun _ => afterProfileWrite p) else s

/-- The effect of PROFILE WRITE with the fields clamped (R47, R48), with one recomputation. DESIGN CHOICE (log 27): the profile
image enters the dirty queue first, then the images of the records in slot order. -/
def State.writeProfile (n : Nat) (p : Profile) (s : State) : State :=
  ((numbers Config.stringCount).foldl (State.profileWriteOn n p) ((s.setProfile n (some p)).checkpoint (profileImage n))).recompute

/-- PROFILE WRITE (R47). -/
def profileWrite (b : List Byte) (s : State) : State × Answer :=
  let n := field b 0 1
  let p := (profileOfBody b).clamp
  if inRange Config.profileCount n = true then done (profileBody p) (s.writeProfile n p) else refuse .notFound s

/-- The count of records that name profile `n`, Retired ones excluded (R49). -/
def State.profileUsers (s : State) (n : Nat) : Nat :=
  ((entries s.strings).filter (fun e => e.2.profile == n && e.2.state != .retired)).length

/-- PROFILE READ (R49): condition, fields (zeros for an Empty profile), count. -/
def profileRead (b : List Byte) (s : State) : State × Answer :=
  let n := field b 0 1
  if inRange Config.profileCount n = true then
    done (beFlag (s.profile? n).isSome ++
      (match s.profile? n with
        | none => List.replicate 30 0
        | some p => profileBody p) ++
      be1 (s.profileUsers n)) s
  else refuse .notFound s

/-! ## Strings (R57 to R61) -/

/-- A presence byte and the value bytes of an optional number of two bytes (R192). -/
def beOpt2 (x : Option Nat) : List Byte := beFlag x.isSome ++ be2 (x.getD 0)

/-- The bytes of an optional discharge event: minutes, charge, lowest voltage (R59, R192). -/
def eventBody (e : Option DischargeEvent) : List Byte :=
  match e with
  | none => beFlag false ++ List.replicate 6 0
  | some x => beFlag true ++ be2 x.minutes ++ be2 x.charge ++ be2 x.lowest

/-- The first fields of a record as STRING READ carries them, from the cabinet to the bucket (R59, R192). -/
def recordFigures (r : StringRecord) : List Byte :=
  beOrZero r.cabinet ++ be1 r.position ++ be1 r.profile ++ be2 r.day ++ beOpt2 r.rb ++ beFlag r.rb.isNone ++ be2 r.r ++
    be4 r.sinceR ++ be2 r.voltage ++ be2s r.current ++ be2s r.temperature ++ be4 r.life ++ be1 r.m ++ be4s r.s ++ be2 r.bucket

/-- The last fields of a record as STRING READ carries them, from the discharge event to the owner (R59, R192). -/
def recordVerdict (r : StringRecord) : List Byte :=
  eventBody r.event ++ be2 r.soh ++ be2 r.resistanceIndicator ++ be2 r.lifeIndicator ++ be1 (stringStateCode r.state) ++
    beFlag r.suspect ++ beFlag r.owner.isSome ++ be1 (r.owner.getD 0)

/-- The fields of a record as STRING READ carries them (R59, R192). -/
def recordBody (r : StringRecord) : List Byte := recordFigures r ++ recordVerdict r

/-- STRING COMMISSION (R57, R58). -/
def stringCommission (b : List Byte) (s : State) : State × Answer :=
  let c := field b 0 1
  let pos := field b 1 1
  let n := field b 2 1
  match s.cabinet? c with
  | none => refuse .notFound s
  | some _ =>
    if inRange Config.positionCount pos = true then
      match s.profile? n with
      | none => refuse .notFound s
      | some p =>
        if (s.stringAt c pos).isSome = true then refuse .wrongState s
        else
          match lowestFree s.strings with
          | none => refuse .noRoom s
          | some k =>
            let r := newRecord p c pos n (field b 3 2) (baselineOf (field b 5 4))
            done (be1 k ++ recordBody r) (s.commission k r).recompute
    else refuse .notFound s

/-- STRING READ (R59). -/
def stringRead (b : List Byte) (s : State) : State × Answer :=
  match s.string? (field b 0 1) with
  | none => refuse .notFound s
  | some r => done (recordBody r) s

/-- The reply body of STRING PULSE (R60): the cabinet's pulse set and whether a poll formed now would carry it. -/
def State.pulseBody (s : State) (c : Nat) : List Byte :=
  match s.cabinet? c with
  | none => be1 0 ++ beFlag false
  | some x => be1 x.pulse.toNat ++ beFlag (x.pulsesCarried s.floor.utility)

/-- STRING PULSE (R60). -/
def stringPulse (b : List Byte) (s : State) : State × Answer :=
  match s.string? (field b 0 1) with
  | none => refuse .notFound s
  | some r =>
    match r.cabinet with
    | none => refuse .wrongState s
    | some c =>
      let s1 := s.setPulse c r.position
      done (s1.pulseBody c) s1

/-- A work item of an open visit that is neither Done nor Abandoned targets string slot `k` (R61, R141). -/
def State.liveItemOn (s : State) (k : Nat) : Bool :=
  (entries s.visits).any (fun e => e.2.items.any (fun it => it.live && it.targetsString k))

/-- STRING DROP (R61). -/
def stringDrop (b : List Byte) (s : State) : State × Answer :=
  let k := field b 0 1
  match s.string? k with
  | none => refuse .notFound s
  | some r =>
    if r.attached = true then refuse .wrongState s
    else if r.owner.isSome = true then refuse .wrongState s
    else if s.liveItemOn k = true then refuse .wrongState s
    else done [] (s.freeString k)

/-! ## The commands -/

/-- PROFILE_WRITE (R47). -/
def execProfileWrite (f : RequestFrame) (s : State) : Host.Outcome State Fault Refusal :=
  .next (s.takeRequest 0x20 31 f profileWrite)

/-- PROFILE_READ (R49). -/
def execProfileRead (f : RequestFrame) (s : State) : Host.Outcome State Fault Refusal := .next (s.takeRequest 0x21 1 f profileRead)

/-- STRING_COMMISSION (R57). -/
def execStringCommission (f : RequestFrame) (s : State) : Host.Outcome State Fault Refusal :=
  .next (s.takeRequest 0x22 9 f stringCommission)

/-- STRING_READ (R59). -/
def execStringRead (f : RequestFrame) (s : State) : Host.Outcome State Fault Refusal := .next (s.takeRequest 0x23 1 f stringRead)

/-- STRING_PULSE (R60). -/
def execStringPulse (f : RequestFrame) (s : State) : Host.Outcome State Fault Refusal := .next (s.takeRequest 0x24 1 f stringPulse)

/-- STRING_DROP (R61). -/
def execStringDrop (f : RequestFrame) (s : State) : Host.Outcome State Fault Refusal := .next (s.takeRequest 0x25 1 f stringDrop)

end Sys2Proof.Machine
end

