-- ==== Sys2Proof/Machine/Visits.lean ====
section
/-! DEFINITION. Service visits (chapter 7): the visit requests and the effects of starting, finishing and abandoning
work items. -/

namespace Sys2Proof.Machine

/-! ## Items of a visit -/

/-- Item `n`, 1..12, of a work list (R139). -/
def itemAt (items : List Item) (n : Nat) : Option Item :=
  match n with
  | 0 => none
  | k + 1 => items[k]?

/-- The work list with item `n` replaced. -/
def setItem (items : List Item) (n : Nat) (it : Item) : List Item :=
  match n with
  | 0 => items
  | k + 1 => items.set k it

/-- The visit and the item that a request names by visit slot and item number (R139). -/
def State.itemOf (s : State) (v n : Nat) : Option (Visit × Item) :=
  match s.visit? v with
  | none => none
  | some x => (itemAt x.items n).map (fun it => (x, it))

/-- Item `n` of the visit in slot `v` is replaced and the visit image checkpointed (R159). -/
def State.storeItem (v n : Nat) (it : Item) (s : State) : State :=
  match s.visit? v with
  | none => s
  | some x => (s.setVisit v (some { x with items := setItem x.items n it })).checkpoint (visitImage v)

/-- The cabinet of an item (R140): the target itself for INSPECT CABINET, the cabinet the target record names for the
other kinds. -/
def State.itemCabinet (s : State) (it : Item) : Option Nat :=
  if it.kind = .inspectCabinet then some it.target else (s.string? it.target).bind StringRecord.cabinet

/-! ## Reply bodies (R158, R192) -/

/-- The six value bytes of a result. -/
def resultBody (r : Option ItemResult) : List Byte :=
  match r with
  | none => beFlag false ++ List.replicate 6 0
  | some x => beFlag true ++ be1 x.profile ++ be4 x.value ++ be1 x.newSlot

/-- The fields of an item. -/
def itemBody (it : Item) : List Byte :=
  be1 (itemKindCode it.kind) ++ be1 it.target ++ be1 (itemStateCode it.state) ++ beFlag it.permit.isSome ++
    be1 (it.permit.getD 0) ++ resultBody it.result

/-- The items of a list, each with its number from `n`. -/
def itemsBody : Nat → List Item → List Byte
  | _, [] => []
  | n, it :: t => be1 n ++ itemBody it ++ itemsBody (n + 1) t

/-- The permits that name visit `v` (R158). DESIGN CHOICE (log 32): in ascending slot order. -/
def State.permitsOfVisit (s : State) (v : Nat) : List (Nat × Permit) :=
  (entries s.permits).filter (fun e => e.2.visit == some v)

/-- The reply body of VISIT READ (R158, R192). -/
def State.visitBody (s : State) (v : Nat) (x : Visit) : List Byte :=
  be1 v ++ be4 x.badge ++ be4 x.opened.toNat ++ be2 x.remaining ++ beFlag x.overtime ++ be1 x.items.length ++
    itemsBody 1 x.items ++ be1 (s.permitsOfVisit v).length ++
    (s.permitsOfVisit v).flatMap (fun e => be1 e.1 ++ be1 (permitStateCode e.2.state))

/-! ## Opening and adding (R142 to R144) -/

/-- A visit as it is opened (R142). -/
def newVisit (badge maxVisit : Nat) (clock : BitVec 32) : Visit :=
  { badge := clampNat 1 999999 badge, opened := clock, remaining := maxVisit, overtime := false, items := [] }

/-- VISIT OPEN (R142). -/
def visitOpen (b : List Byte) (s : State) : State × Answer :=
  match lowestFree s.visits with
  | none => refuse .noRoom s
  | some v =>
    let x := newVisit (field b 0 4) s.floor.config.maxVisit s.floor.clock
    let s1 := (s.setVisit v (some x)).checkpoint (visitImage v)
    done (s1.visitBody v x) s1

/-- The refusal for a target that does not exist or is unattached (R143, checks 3 and 4). -/
def State.targetRefusal (s : State) (k : ItemKind) (target : Nat) : Option ResultCode :=
  if k = .inspectCabinet then
    (if (s.cabinet? target).isSome = true then none else some .notFound)
  else
    match s.string? target with
    | none => some .notFound
    | some r => if r.attached = true then none else some .wrongState

/-- An item of the same kind and target, neither Done nor Abandoned, stands in an open visit (R143, check 6). -/
def State.duplicateItem (s : State) (k : ItemKind) (target : Nat) : Bool :=
  (entries s.visits).any (fun e => e.2.items.any (fun it => it.live && it.kind == k && it.target == target))

/-- A new item (R144). -/
def newItem (k : ItemKind) (target : Nat) : Item :=
  { kind := k, target := target, state := .pending, permit := none, result := none }

/-- VISIT ADD (R143, R144). -/
def visitAdd (b : List Byte) (s : State) : State × Answer :=
  let v := field b 0 1
  let target := field b 2 1
  match s.visit? v with
  | none => refuse .notFound s
  | some x =>
    match itemKindOfCode (field b 1 1) with
    | none => refuse .notFound s
    | some k =>
      match s.targetRefusal k target with
      | some res => refuse res s
      | none =>
        if Config.itemCount ≤ x.items.length then refuse .noRoom s
        else if s.duplicateItem k target = true then refuse .duplicate s
        else
          done (be1 (x.items.length + 1) ++ itemBody (newItem k target))
            ((s.setVisit v (some { x with items := x.items ++ [newItem k target] })).checkpoint (visitImage v))

/-! ## Starting (R145, R146) -/

/-- The slot of the permit that lets visit `v` work on cabinet `c`: it names both and stands in Active or Overdue
(R145). -/
def State.workPermit (s : State) (v : Nat) (c : Option Nat) : Option Nat :=
  ((entries s.permits).find? (fun e =>
    some e.2.cabinet == c && e.2.visit == some v && (e.2.state == .active || e.2.state == .overdue))).map Prod.fst

/-- The refusals of VISIT START on an item, in R145's order from check 2; `none` when it passes. -/
def State.startRefusal (s : State) (v : Nat) (it : Item) : Option ResultCode :=
  if it.state ≠ .pending ∧ it.state ≠ .interrupted then some .wrongState
  else if it.kind = .inspectCabinet ∧ (s.cabinet? it.target).isNone = true then some .notFound
  else if it.kind ≠ .inspectCabinet ∧ (s.itemCabinet it).isNone = true then some .wrongState
  else if needsPermit it.kind = true ∧ (s.workPermit v (s.itemCabinet it)).isNone = true then some .noPermit
  else none

/-- The item as VISIT START leaves it (R146). -/
def State.startedItem (s : State) (v : Nat) (it : Item) : Item :=
  { it with
    state := .inProgress
    permit := if needsPermit it.kind = true then s.workPermit v (s.itemCabinet it) else none }

/-- VISIT START (R145, R146). DEDUCED (log 38): a REPLACE STRING queues the image of its target before the visit's. -/
def visitStart (b : List Byte) (s : State) : State × Answer :=
  let v := field b 0 1
  let n := field b 1 1
  match s.itemOf v n with
  | none => refuse .notFound s
  | some (_, it) =>
    match s.startRefusal v it with
    | some res => refuse res s
    | none =>
      let it1 := s.startedItem v it
      let s1 := if it.kind = .replaceString then (s.workOn it.target (fun _ => toRetiring v)).recompute else s
      done (itemBody it1) (s1.storeItem v n it1)

/-! ## Finishing (R148 to R150) -/

/-- The item once it is Done with a result (R148). -/
def Item.finished (it : Item) (r : Option ItemResult) : Item := { it with state := .done, permit := none, result := r }

/-- The result of a finish as stored (R139, R150, R192). -/
def plainResult (k : ItemKind) (value : Nat) : Option ItemResult :=
  match k with
  | .inspectCabinet => none
  | .replaceString => none
  | .capacityTest => some { profile := 0, value := value, newSlot := 0 }
  | .baseline => some { profile := 0, value := value, newSlot := 0 }

/-- The result of the kinds other than REPLACE STRING handed on (R150). -/
def State.handResult (it : Item) (value : Nat) (s : State) : State :=
  match it.kind with
  | .inspectCabinet => s
  | .replaceString => s
  | .capacityTest => (s.workOn it.target (fun p => reanchor p value)).recompute
  | .baseline => (s.workOn it.target (fun p => setBaseline p value)).recompute

/-- Another In-progress item of an open visit targets string slot `k` (R149): more than one does. -/
def State.otherInProgress (s : State) (k : Nat) : Bool :=
  decide (2 ≤ ((entries s.visits).flatMap (fun e =>
    e.2.items.filter (fun it => it.state == .inProgress && it.targetsString k))).length)

/-- The commissioning day of a replacement (R58). -/
def openingDay (opened : BitVec 32) : Nat := opened.toNat / 86400 % 65536

/-- The finish of a REPLACE STRING item `n` of visit `v` (R149): retirement, commission, item Done, one
recomputation. -/
def finishReplace (v n profileNo value : Nat) (x : Visit) (it : Item) (s : State) : State × Answer :=
  match s.profile? profileNo with
  | none => refuse .notFound s
  | some p =>
    if s.otherInProgress it.target = true then refuse .wrongState s
    else
      match lowestFree s.strings with
      | none => refuse .noRoom s
      | some k =>
        match s.string? it.target with
        | none => refuse .wrongState s
        | some old =>
          match old.cabinet with
          | none => refuse .wrongState s
          | some c =>
            let it1 := it.finished (some { profile := profileNo, value := value, newSlot := k })
            let s1 := s.workOn it.target retire
            let s2 := s1.commission k (newRecord p c old.position profileNo (openingDay x.opened) (baselineOf value))
            done (itemBody it1) ((s2.storeItem v n it1).recompute)

/-- VISIT FINISH (R148): a value above 65535 is taken as 65535 for each kind (R192). -/
def visitFinish (b : List Byte) (s : State) : State × Answer :=
  let v := field b 0 1
  let n := field b 1 1
  let value := min (field b 3 4) 65535
  match s.itemOf v n with
  | none => refuse .notFound s
  | some (x, it) =>
    if it.state ≠ .inProgress then refuse .wrongState s
    else if it.kind = .replaceString then finishReplace v n (field b 2 1) value x it s
    else
      let it1 := it.finished (plainResult it.kind value)
      done (itemBody it1) ((s.handResult it value).storeItem v n it1)

/-! ## Abandoning (R152) -/

/-- The item once it is Abandoned (R152). -/
def Item.abandon (it : Item) : Item := { it with state := .abandoned, permit := none, result := none }

/-- VISIT ABANDON (R152). DEDUCED (log 38): a released target's image is queued before the visit's. -/
def visitAbandon (b : List Byte) (s : State) : State × Answer :=
  let v := field b 0 1
  let n := field b 1 1
  match s.itemOf v n with
  | none => refuse .notFound s
  | some (_, it) =>
    if it.live = true then
      done (itemBody it.abandon) (((s.releaseTarget it).recompute).storeItem v n it.abandon)
    else refuse .wrongState s

/-! ## Closing (R156, R157) -/

/-- The visit cannot close (R156, checks 2 and 3). -/
def State.closeBarred (s : State) (v : Nat) (x : Visit) : Bool :=
  x.items.any (fun it => it.state == .inProgress) || (s.permitsOfVisit v).any (fun e => e.2.state != .granted)

/-- A Granted permit of the visit is closed, with no cause raised (R136, R157). -/
def State.closeVisitPermit (s : State) (e : Nat × Permit) : State := s.closePermit e.1

/-- A waiting item becomes Abandoned (R157). -/
def abandonWaiting (it : Item) : Item :=
  if it.state = .pending ∨ it.state = .interrupted then it.abandon else it

/-- The Retired records that visit `v` owns (R157). DESIGN CHOICE (log 31): in ascending slot order. -/
def State.retiredOf (s : State) (v : Nat) : List Nat :=
  ((entries s.strings).filter (fun e => e.2.state == .retired && e.2.owner == some v)).map Prod.fst

/-- A waiting item that targets one of the freed slots becomes Abandoned (R157, step 4). -/
def abandonFreed (freed : List Nat) (it : Item) : Item :=
  if freed.any (fun k => it.targetsString k) = true then abandonWaiting it else it

/-- Step 4 of R157 on the visit in slot `w`. -/
def State.abandonIn (freed : List Nat) (s : State) (w : Nat) : State :=
  match s.visit? w with
  | none => s
  | some x =>
    if x.items.map (abandonFreed freed) = x.items then s
    else (s.setVisit w (some { x with items := x.items.map (abandonFreed freed) })).checkpoint (visitImage w)

/-- The effects of a VISIT CLOSE that passes its checks (R157). The waiting items of the closing visit become
Abandoned with it and leave no record. DESIGN CHOICE (log 31): within a step of R157, the permits, the freed slots and the other
visits are taken in ascending order. -/
def State.closeVisit (v : Nat) (s : State) : State :=
  let freed := s.retiredOf v
  let s1 := (s.permitsOfVisit v).foldl State.closeVisitPermit s
  let s2 := freed.foldl (fun t k => t.freeString k) s1
  let s3 := ((numbers Config.visitCount).filter (fun w => w != v)).foldl (State.abandonIn freed) s2
  (((s3.setVisit v none).checkpoint (visitImage v)).recompute)

/-- VISIT CLOSE (R156, R157): the reply carries the number of permits closed and the string slots freed. -/
def visitClose (b : List Byte) (s : State) : State × Answer :=
  let v := field b 0 1
  match s.visit? v with
  | none => refuse .notFound s
  | some x =>
    if s.closeBarred v x = true then refuse .wrongState s
    else
      done (be1 (s.permitsOfVisit v).length ++ be1 (s.retiredOf v).length ++ (s.retiredOf v).flatMap be1) (s.closeVisit v)

/-- VISIT READ (R158). -/
def visitRead (b : List Byte) (s : State) : State × Answer :=
  let v := field b 0 1
  match s.visit? v with
  | none => refuse .notFound s
  | some x => done (s.visitBody v x) s

/-! ## The commands -/

/-- VISIT_OPEN (R142). -/
def execVisitOpen (f : RequestFrame) (s : State) : Host.Outcome State Fault Refusal := .next (s.takeRequest 0x40 4 f visitOpen)

/-- VISIT_ADD (R143). -/
def execVisitAdd (f : RequestFrame) (s : State) : Host.Outcome State Fault Refusal := .next (s.takeRequest 0x41 3 f visitAdd)

/-- VISIT_START (R145). -/
def execVisitStart (f : RequestFrame) (s : State) : Host.Outcome State Fault Refusal := .next (s.takeRequest 0x42 2 f visitStart)

/-- VISIT_FINISH (R148). -/
def execVisitFinish (f : RequestFrame) (s : State) : Host.Outcome State Fault Refusal := .next (s.takeRequest 0x43 7 f visitFinish)

/-- VISIT_ABANDON (R152). -/
def execVisitAbandon (f : RequestFrame) (s : State) : Host.Outcome State Fault Refusal :=
  .next (s.takeRequest 0x44 2 f visitAbandon)

/-- VISIT_CLOSE (R156). -/
def execVisitClose (f : RequestFrame) (s : State) : Host.Outcome State Fault Refusal := .next (s.takeRequest 0x45 1 f visitClose)

/-- VISIT_READ (R158). -/
def execVisitRead (f : RequestFrame) (s : State) : Host.Outcome State Fault Refusal := .next (s.takeRequest 0x46 1 f visitRead)

end Sys2Proof.Machine
end

