-- ==== Sys2Proof/Machine/StartUp.lean ====
section
/-! DEFINITION. The starts and the start-up procedure (sections 8.4 and 8.5): POWER ON, RESET LINE, the first utility
judgement. -/

namespace Sys2Proof.Machine

/-! ## Loaded fields are clamped to their ranges (R162) -/

/-- A loaded discharge event. -/
def DischargeEvent.clamp (e : DischargeEvent) : DischargeEvent :=
  { minutes := min e.minutes 65535, charge := min e.charge 65535, lowest := min e.lowest 65535 }

/-- A loaded string record (log 20): each field within its range (R50, R73, R76, R87), the sum S within what the counted
minutes give, and no cabinet on a Retired record (R55). -/
def StringRecord.clamp (r : StringRecord) : StringRecord :=
  { r with
    cabinet := if r.state = .retired then none else r.cabinet.map (clampNat 1 24)
    position := clampNat 1 4 r.position
    profile := clampNat 1 4 r.profile
    day := min r.day 65535
    rb := r.rb.map (clampNat 1 65535)
    r := min r.r 65535
    life := min r.life Config.lifeLimit
    m := min r.m 59
    s := clampInt (-200 * (min r.m 59 : Nat)) (700 * (min r.m 59 : Nat)) r.s
    bucket := min r.bucket 65535
    event := r.event.map DischargeEvent.clamp
    soh := min r.soh 1000
    resistanceIndicator := min r.resistanceIndicator 1000
    lifeIndicator := min r.lifeIndicator 1000
    sinceR := min r.sinceR Config.sinceLimit
    owner := r.owner.map (clampNat 1 4) }

/-- A loaded permit. -/
def Permit.clamp (p : Permit) : Permit :=
  { p with
    cabinet := clampNat 1 24 p.cabinet
    visit := p.visit.map (clampNat 1 4)
    remaining := min p.remaining 720
    spare := clampInt (-1) 23 p.spare
    autonomy := min p.autonomy 9999 }

/-- A loaded result: a value above 65535 is taken as 65535, as VISIT FINISH takes it (R192). -/
def ItemResult.clamp (r : ItemResult) : ItemResult :=
  { profile := min r.profile Config.profileCount, value := min r.value 65535, newSlot := min r.newSlot Config.stringCount }

/-- The largest number a target of the kind has (R140). -/
def targetCount (k : ItemKind) : Nat := if k = .inspectCabinet then Config.cabinetCount else Config.stringCount

/-- A loaded work item (R139; log 20). -/
def Item.clamp (it : Item) : Item :=
  { it with
    target := clampNat 1 (targetCount it.kind) it.target
    permit := it.permit.map (clampNat 1 Config.permitCount)
    result := it.result.map ItemResult.clamp }

/-- A loaded visit (R138, R139; log 20). -/
def Visit.clamp (x : Visit) : Visit :=
  { x with
    badge := clampNat 1 999999 x.badge
    remaining := min x.remaining 1440
    items := (x.items.take Config.itemCount).map Item.clamp }

/-! ## Step 2: the tables from the images (R170) -/

/-- The contents of an image: a bad one counts as "empty". -/
def loaded {α : Type} (i : Image (Option α)) : Option α := if i.good = true then i.content else none

/-- The configuration from its image, or the defaults (R8, R170). -/
def loadedConfig (i : Image FloorConfig) : FloorConfig := if i.good = true then i.content.clamp else FloorConfig.default

/-- A loaded cabinet entry (R11). -/
def loadedCabinet (i : Image (Option CabinetImage)) : Option Cabinet :=
  (loaded i).map (fun c => newCabinet (clampNat 1 4 c.group) (clampNat 100 8000 c.rated))

/-- A loaded record: voltage and current 0, the temperature the profile's assumed one, or 0 for an Empty profile (R63,
R72). -/
def loadedString (profiles : List (Option Profile)) (i : Image (Option StringRecord)) : Option StringRecord :=
  (loaded i).map (fun r =>
    let q := r.clamp
    { q with voltage := 0, current := 0, temperature := ((tget profiles q.profile).map Profile.assumed).getD 0 })

/-- A loaded permit (R137); a Granted one holds the configured grant timeout in full. -/
def loadedPermit (timeout : Nat) (i : Image (Option Permit)) : Option Permit :=
  (loaded i).map (fun p => { p.clamp with timeout := if p.state = .granted then some timeout else none })

/-- The identifiers of the bad images of a kind, numbered from `k`. -/
def badFrom {α : Type} (kind : ImageKind) : Nat → List (Image (Option α)) → List ImageId
  | _, [] => []
  | k, i :: t =>
    if i.good = true then badFrom kind (k + 1) t else { kind := kind, number := k } :: badFrom kind (k + 1) t

/-- The bad images: the suspect images (R170). DESIGN CHOICE (log 35): in the order of R161's table, and of their numbers within
a kind. -/
def badImages (im : Images) : List ImageId :=
  (if im.config.good = true then [] else [configImage]) ++ badFrom .profile 1 im.profiles ++ badFrom .cabinet 1 im.cabinets ++
    badFrom .string 1 im.strings ++ badFrom .permit 1 im.permits ++ badFrom .visit 1 im.visits

/-- The write numbers of the good images of a kind. -/
def goodNumbers {α : Type} (t : List (Image α)) : List Nat := (t.filter (fun i => i.good)).map (fun i => i.number)

/-- The write numbers of all good images. -/
def allGoodNumbers (im : Images) : List Nat :=
  goodNumbers [im.config] ++ goodNumbers im.profiles ++ goodNumbers im.cabinets ++ goodNumbers im.strings ++
    goodNumbers im.permits ++ goodNumbers im.visits

/-- The write count resumes from the largest write number in a good image, plus 1 (R162); with no good image it is a free
value (log 13). -/
def resumedCount (im : Images) : Nat :=
  match allGoodNumbers im with
  | [] => Config.countWithNoGoodImage.toNat
  | n :: t => t.foldl max n + 1

/-- The clock after a start (R1, R169). -/
def startFloor (cause : StartCause) (config : FloorConfig) (f : Floor) : Floor :=
  { clock := if cause = .powerOn then 0 else f.clock
    clockSet := if cause = .powerOn then false else f.clockSet
    tickHeld := false, utility := .unknown, sense := f.sense, senseHeld := 0, senseMoved := false, hold := false
    cause := cause, config := config }

/-- The attention set after steps 1 and 2: START with the cause and the count of suspect images, and STORE FAULT for a
bad configuration image (R170). -/
def startAttention (cause : StartCause) (im : Images) : Attention :=
  { Attention.empty with start := some (cause, (badImages im).length), storeFault := !im.config.good }

/-- Steps 1 and 2 of the start-up procedure (R170). -/
def State.load (cause : StartCause) (s : State) : State :=
  let im := s.store.images
  let config := loadedConfig im.config
  let profiles := im.profiles.map (fun i => (loaded i).map Profile.clamp)
  { phase := .running
    floor := startFloor cause config s.floor
    cabinets := im.cabinets.map loadedCabinet
    link := Link.start
    profiles := profiles
    strings := im.strings.map (loadedString profiles)
    groups := (numbers Config.groupCount).map (fun g => Group.start (config.requiredSpare g))
    permits := im.permits.map (loadedPermit config.grantTimeout)
    ask := none
    visits := im.visits.map (fun i => (loaded i).map Visit.clamp)
    store := { images := im, queue := badImages im, writer := none, nextNumber := resumedCount im, completion := .matched }
    port := Port.starting
    attention := startAttention cause im
    pending := s.pending }

/-! ## Step 3: the string check (R171) -/

/-- The image with number `a` of slot `j` was written later than the one with number `b` of slot `k`. Write numbers of
written images differ (R162); should two agree, the lower slot counts as later, so that one record always stays. -/
def writtenLater (a j b k : Nat) : Bool := decide (b < a ∨ (b = a ∧ j < k))

/-- The write number of string slot `k`'s image. -/
def State.stringNumber (s : State) (k : Nat) : Nat := ((imageAt s.store.images.strings k).map (fun i => i.number)).getD 0

/-- Another record that is not Retired names the same cabinet and position with a larger write number (R171). -/
def State.outdated (s : State) (k : Nat) (r : StringRecord) : Bool :=
  r.state != .retired && r.cabinet.isSome &&
    (entries s.strings).any (fun e =>
      e.1 != k && e.2.state != .retired && e.2.cabinet == r.cabinet && e.2.position == r.position &&
        writtenLater (s.stringNumber e.1) e.1 (s.stringNumber k) k)

/-- The record's cabinet is Absent (R53). -/
def State.cabinetAbsent (s : State) (r : StringRecord) : Bool :=
  match r.cabinet with
  | none => false
  | some c => (s.cabinet? c).isNone

/-- The check of one record against the state as loaded: detachment, suspect mark, derived state (R53, R171, R72). -/
def checkRecord (loadedState : State) (k : Nat) (p : Option Profile) (w : Work) : Work :=
  let detach := loadedState.cabinetAbsent w.r || loadedState.outdated k w.r
  let mark := w.r.suspect || detach || p.isNone
  let r1 : StringRecord := { w.r with cabinet := if detach = true then none else w.r.cabinet, suspect := mark }
  let w1 : Work := { w with r := r1, save := w.save || detach || (mark != w.r.suspect) }
  rederive p w1

/-- Step 3 on the record in slot `k`. -/
def State.checkString (loadedState : State) (s : State) (k : Nat) : State := s.workOn k (checkRecord loadedState k)

/-- Step 3, in slot order (R171). -/
def State.checkStrings (s : State) : State := (numbers Config.stringCount).foldl (State.checkString s) s

/-- A start: steps 1 to 3 of the procedure, and the beginning of step 4 (R170 to R172). -/
def State.start (cause : StartCause) (s : State) : State := (s.load cause).checkStrings

/-- POWER_ON (R169). A rise of the supply means that it had fallen: a part that still runs loses power first (log 8). -/
def execPowerOn (s : State) : Host.Outcome State Fault Refusal :=
  .next (match s.phase with
    | .unpowered => s.start .powerOn
    | .running => s.losePower.start .powerOn
    | .inReset => s.losePower.start .powerOn)

/-- RESET_LINE (R169). A write still in flight completes first (R168). A release of the line means that it was asserted: a part
that runs enters reset first (log 8); without power there is no start. -/
def execResetLine (s : State) : Host.Outcome State Fault Refusal :=
  .next (match s.phase with
    | .unpowered => s
    | .inReset => s.completeWrite.start .resetLine
    | .running => (s.enterReset .matched).completeWrite.start .resetLine)

/-! ## Step 5: the permits (R137, R173) -/

/-- The write number of permit slot `k`'s image. -/
def State.permitNumber (s : State) (k : Nat) : Nat := ((imageAt s.store.images.permits k).map (fun i => i.number)).getD 0

/-- Another permit names the same cabinet with a larger write number (R173). -/
def State.permitOutdated (s : State) (k : Nat) (p : Permit) : Bool :=
  (entries s.permits).any (fun e => e.1 != k && e.2.cabinet == p.cabinet && writtenLater (s.permitNumber e.1) e.1 (s.permitNumber k) k)

/-- A permit closed with no notice: slot freed, image "empty", PERMIT CHANGED (R173). -/
def State.dropPermit (k : Nat) (s : State) : State := (s.freePermit k).attend (raisePermitChanged k)

/-- The closing of the duplicates among the permits as loaded (R173). -/
def State.dropDuplicate (loadedState : State) (s : State) (k : Nat) : State :=
  match loadedState.permit? k with
  | none => s
  | some p => if loadedState.permitOutdated k p = true then s.dropPermit k else s

/-- The visit named is no open visit. -/
def State.visitMissing (s : State) (v : Option Nat) : Bool :=
  match v with
  | none => false
  | some n => (s.visit? n).isNone

/-- A permit whose visit slot is free loses its visit (R137). -/
def State.loseVisit (k : Nat) (s : State) : State :=
  match s.permit? k with
  | none => s
  | some p =>
    if s.visitMissing p.visit = true then (s.setPermit k (some { p with visit := none })).checkpoint (permitImage k) else s

/-- The restoration of the permit in slot `k` (R137). -/
def State.restorePermit (s : State) (k : Nat) : State :=
  match s.permit? k with
  | none => s
  | some p =>
    if (s.cabinet? p.cabinet).isNone = true then s.dropPermit k
    else if p.state = .granted then
      (if s.floor.utility = .present then
        ((s.setPermit k (some { p with timeout := some s.floor.config.grantTimeout })).post p.cabinet .grant).loseVisit k
      else s.closeRaising k)
    else s.loseVisit k

/-- Step 5: the duplicates first, as R173 says. DESIGN CHOICE (log 36): each pass in slot order. -/
def State.restorePermits (s : State) : State :=
  (numbers Config.permitCount).foldl State.restorePermit ((numbers Config.permitCount).foldl (State.dropDuplicate s) s)

/-! ## Step 6: the visits (R160, R173) -/

/-- The permit an item holds still lets it run: it names the visit and the item's cabinet and stands in Active or Overdue
(R160). -/
def State.permitStands (s : State) (v : Nat) (it : Item) : Bool :=
  match it.permit.bind s.permit? with
  | none => false
  | some p => p.visit == some v && some p.cabinet == s.itemCabinet it && (p.state == .active || p.state == .overdue)

/-- The item as the start restores it (R160). -/
def State.restoredItem (s : State) (v : Nat) (it : Item) : Item :=
  if it.live = false then it
  else if it.kind ≠ .inspectCabinet ∧ (s.string? it.target).isNone = true then it.abandon
  else if it.state ≠ .inProgress then it
  else if needsPermit it.kind = true ∧ s.permitStands v it = false then { it with state := .interrupted, permit := none }
  else if it.kind ≠ .inspectCabinet ∧ (s.itemCabinet it).isNone = true then { it with state := .interrupted, permit := none }
  else it

/-- The restoration interrupted the item. -/
def newlyInterrupted (old new : Item) : Bool := old.state == .inProgress && new.state == .interrupted

/-- An In-progress REPLACE STRING that stays so holds its target Retiring, owned by visit `v` (R160). DESIGN CHOICE (log 34): a
target stored Retiring under another owner is checkpointed when it takes this one. -/
def holdTarget (v : Nat) (w : Work) : Work :=
  if w.r.state = .retiring ∧ w.r.owner = some v then w else toRetiring v w

/-- The target of a kept REPLACE STRING item. -/
def State.holdTargetOf (v : Nat) (s : State) (it : Item) : State :=
  if it.state = .inProgress ∧ it.kind = .replaceString then s.workOn it.target (fun _ => holdTarget v) else s

/-- Step 6 on the visit in slot `v` (R160, R173). DESIGN CHOICE (log 36): the visit's image enters the dirty queue before those of
the targets it holds. -/
def State.restoreVisit (s : State) (v : Nat) : State :=
  match s.visit? v with
  | none => s
  | some x =>
    let items := x.items.map (s.restoredItem v)
    let s1 := if items = x.items then s else (s.setVisit v (some { x with items := items })).checkpoint (visitImage v)
    let s2 :=
      if (x.items.any (fun it => newlyInterrupted it (s.restoredItem v it))) = true then s1.attend (raiseItemInterrupted v) else s1
    items.foldl (State.holdTargetOf v) s2

/-- An In-progress REPLACE STRING item of an open visit names string slot `k` (R54, R173). -/
def State.replacing (s : State) (k : Nat) : Bool :=
  (entries s.visits).any (fun e => e.2.items.any (fun it =>
    it.state == .inProgress && it.kind == .replaceString && it.target == k))

/-- A Retired record whose owning visit's slot is free loses its owning visit (R160). -/
def loseOwner (w : Work) : Work := mustSave { w with r := { w.r with owner := none } }

/-- The end of step 6 on the record in slot `k`: a Retiring record that no item holds returns to its derived state, a
Retired record whose owning visit is gone loses it (R160, R173). -/
def State.settleString (s : State) (k : Nat) : State :=
  match s.string? k with
  | none => s
  | some r =>
    if r.state = .retiring ∧ s.replacing k = false then s.workOn k fromRetiring
    else if r.state = .retired ∧ r.owner.isSome = true ∧ (r.owner.bind s.visit?).isNone = true then
      s.workOn k (fun _ => loseOwner)
    else s

/-- Step 6 (R173). DESIGN CHOICE (log 36): the visits in slot order, then the records that no item holds, in slot order. -/
def State.restoreVisits (s : State) : State :=
  (numbers Config.stringCount).foldl State.settleString ((numbers Config.visitCount).foldl State.restoreVisit s)

/-! ## Steps 7 to 9 and the whole judgement -/

/-- Step 7 on the record in slot `k`: an event held in it is closed with the charge stored (R174). -/
def State.closeStored (s : State) (k : Nat) : State := s.workOn k closeEvent

/-- Step 7, in slot order (R174). -/
def State.closeStoredEvents (s : State) : State := (numbers Config.stringCount).foldl State.closeStored s

/-- Step 8: a link break begins the first slot (R175). -/
def State.firstBreak (s : State) : State := { s with link := { s.link with line := .linkBreak } }

/-- The port goes to Idle and start-up ends (R175). -/
def State.endStartUp (s : State) : State := { s with port := { s.port with state := .idle } }

/-- The held minute tick is delivered once (R3, R175). -/
def State.deliverHeldTick (s : State) : State :=
  if s.floor.tickHeld = true then ({ s with floor := { s.floor with tickHeld := false } } : State).tick else s

/-- The state of the feed at the end of the first filter time (R172). -/
def Floor.firstJudgement (f : Floor) : UtilityState := if f.senseMoved = true then .unknown else utilityOfLevel f.sense

/-- Step 4's end: the state is taken; an Unknown state raises nothing (R172). -/
def State.judgeFirst (s : State) : State :=
  let u := s.floor.firstJudgement
  let s1 : State := { s with floor := { s.floor with utility := u } }
  if u = .unknown then s1 else s1.attend (raiseUtilityChange u)

/-- Steps 5 to 9 in one event, then the held tick and the order that waited for the first slot (R173 to R175, R184). -/
def State.finishStartUp (s : State) : State :=
  ((((s.judgeFirst.restorePermits.restoreVisits.closeStoredEvents.firstBreak).recompute).endStartUp).deliverHeldTick).takeUrgent

/-- FIRST_UTILITY_JUDGEMENT (R172 to R175): due while the start-up procedure waits for it. -/
def execFirstUtilityJudgement (s : State) : Host.Outcome State Fault Refusal :=
  .next (match s.phase, s.port.state with
    | .running, .starting => s.finishStartUp
    | _, _ => s)

end Sys2Proof.Machine
end

