-- ==== Sys2Proof/Machine/Dispatch.lean ====
section
/-! DEFINITION. What each command does to everything but the queue: one arm per constructor of Instr, each a direct call
of the command's own meaning. -/

namespace Sys2Proof.Machine

/-- The effect of a command on the machine, the queue excepted. -/
def exec (i : Instr) (s : State) : Host.Outcome State Fault Refusal :=
  match i with
  | .floorRead f => Sys2Proof.Machine.execFloorRead f s
  | .floorConfigWrite f => Sys2Proof.Machine.execFloorConfigWrite f s
  | .clockSet f => Sys2Proof.Machine.execClockSet f s
  | .attentionRead f => Sys2Proof.Machine.execAttentionRead f s
  | .cabinetSet f => Sys2Proof.Machine.execCabinetSet f s
  | .cabinetDrop f => Sys2Proof.Machine.execCabinetDrop f s
  | .cabinetRead f => Sys2Proof.Machine.execCabinetRead f s
  | .profileWrite f => Sys2Proof.Machine.execProfileWrite f s
  | .profileRead f => Sys2Proof.Machine.execProfileRead f s
  | .stringCommission f => Sys2Proof.Machine.execStringCommission f s
  | .stringRead f => Sys2Proof.Machine.execStringRead f s
  | .stringPulse f => Sys2Proof.Machine.execStringPulse f s
  | .stringDrop f => Sys2Proof.Machine.execStringDrop f s
  | .permitAsk f => Sys2Proof.Machine.execPermitAsk f s
  | .permitRead f => Sys2Proof.Machine.execPermitRead f s
  | .permitRecall f => Sys2Proof.Machine.execPermitRecall f s
  | .permitCancel f => Sys2Proof.Machine.execPermitCancel f s
  | .visitOpen f => Sys2Proof.Machine.execVisitOpen f s
  | .visitAdd f => Sys2Proof.Machine.execVisitAdd f s
  | .visitStart f => Sys2Proof.Machine.execVisitStart f s
  | .visitFinish f => Sys2Proof.Machine.execVisitFinish f s
  | .visitAbandon f => Sys2Proof.Machine.execVisitAbandon f s
  | .visitClose f => Sys2Proof.Machine.execVisitClose f s
  | .visitRead f => Sys2Proof.Machine.execVisitRead f s
  | .unknownRequest code f => Sys2Proof.Machine.execUnknownRequest code f s
  | .statusPeek first => Sys2Proof.Machine.execStatusPeek first s
  | .disregardedFrame first rest => Sys2Proof.Machine.execDisregardedFrame first rest s
  | .fetch rest => Sys2Proof.Machine.execFetch rest s
  | .urgent order rest => Sys2Proof.Machine.execUrgent order rest s
  | .urgentCancel rest => Sys2Proof.Machine.execUrgentCancel rest s
  | .portReset rest => Sys2Proof.Machine.execPortReset rest s
  | .pollSlot orderFirst => Sys2Proof.Machine.execPollSlot orderFirst s
  | .breakSlot => Sys2Proof.Machine.execBreakSlot s
  | .idleSlot => Sys2Proof.Machine.execIdleSlot s
  | .noReply => Sys2Proof.Machine.execNoReply s
  | .noReplyInTime => Sys2Proof.Machine.execNoReplyInTime s
  | .replyEnd chars => Sys2Proof.Machine.execReplyEnd chars s
  | .askWaitEnd => Sys2Proof.Machine.execAskWaitEnd s
  | .askEarlyEnd => Sys2Proof.Machine.execAskEarlyEnd s
  | .minuteTick => Sys2Proof.Machine.execMinuteTick s
  | .calendarStep slot => Sys2Proof.Machine.execCalendarStep slot s
  | .automaticPulse slot => Sys2Proof.Machine.execAutomaticPulse slot s
  | .grantTimeout slot => Sys2Proof.Machine.execGrantTimeout slot s
  | .permitOverdue slot => Sys2Proof.Machine.execPermitOverdue slot s
  | .visitOvertime slot => Sys2Proof.Machine.execVisitOvertime slot s
  | .utilitySenseEdge high => Sys2Proof.Machine.execUtilitySenseEdge high s
  | .utilityChange => Sys2Proof.Machine.execUtilityChange s
  | .storeWriteBegin => Sys2Proof.Machine.execStoreWriteBegin s
  | .storeWriteEnd outcome => Sys2Proof.Machine.execStoreWriteEnd outcome s
  | .powerOn => Sys2Proof.Machine.execPowerOn s
  | .powerLoss => Sys2Proof.Machine.execPowerLoss s
  | .resetAssert outcome => Sys2Proof.Machine.execResetAssert outcome s
  | .resetLine => Sys2Proof.Machine.execResetLine s
  | .firstUtilityJudgement => Sys2Proof.Machine.execFirstUtilityJudgement s
  | .floorClockSecond => Sys2Proof.Machine.execFloorClockSecond s
  | .chipSelectAssertion => Sys2Proof.Machine.execChipSelectAssertion s

end Sys2Proof.Machine
end

