-- ==== Sys2Proof/Safety.lean ====
section
/-! DEFINITION. What counts as a sound state of the FS3200: the invariants that the statements and their proofs are
about, and the names the statements use for what a frame leaves in the request port. -/

namespace Sys2Proof.Machine

/-! ## Sizes (00_scope 5.2, R161) -/

/-- The image tables have one image for each number of their kind (R161). -/
structure Images.Sized (im : Images) : Prop where
  profiles : im.profiles.length = Config.profileCount
  cabinets : im.cabinets.length = Config.cabinetCount
  strings : im.strings.length = Config.stringCount
  permits : im.permits.length = Config.permitCount
  visits : im.visits.length = Config.visitCount

/-- Every table has its number of entries (R11, R46, R50, R94, R110, R138, R161). -/
structure State.Sized (s : State) : Prop where
  cabinets : s.cabinets.length = Config.cabinetCount
  profiles : s.profiles.length = Config.profileCount
  strings : s.strings.length = Config.stringCount
  groups : s.groups.length = Config.groupCount
  permits : s.permits.length = Config.permitCount
  visits : s.visits.length = Config.visitCount
  images : s.store.images.Sized

/-! ## Ranges of the records -/

/-- Every field of the configuration is within the range R8 gives it. -/
structure FloorConfig.InRange (c : FloorConfig) : Prop where
  spare1 : c.spare1 ≤ 3
  spare2 : c.spare2 ≤ 3
  spare3 : c.spare3 ≤ 3
  spare4 : c.spare4 ≤ 3
  headroom : c.headroom ≤ 500
  autonomyFloor : c.autonomyFloor ≤ 240
  efficiency : 500 ≤ c.efficiency ∧ c.efficiency ≤ 1000
  maxPermit : 10 ≤ c.maxPermit ∧ c.maxPermit ≤ 720
  grantTimeout : 1 ≤ c.grantTimeout ∧ c.grantTimeout ≤ 60
  maxVisit : 30 ≤ c.maxVisit ∧ c.maxVisit ≤ 1440
  filterTime : 2 ≤ c.filterTime ∧ c.filterTime ≤ 50

/-- Every numeric field of a Present cabinet is within its range (R11, R14, R31, R33). -/
structure Cabinet.InRange (x : Cabinet) : Prop where
  group : 1 ≤ x.group ∧ x.group ≤ 4
  rated : 100 ≤ x.rated ∧ x.rated ≤ 8000
  load : x.load ≤ 8000
  age : x.age ≤ 65535
  errors : x.errors ≤ 255
  failures : x.failures ≤ 3

/-- Every field of a Filled profile is within the range R46 gives it. -/
structure Profile.InRange (p : Profile) : Prop where
  capacity : 1 ≤ p.capacity ∧ p.capacity ≤ 3000
  voltage : 12 ≤ p.voltage ∧ p.voltage ≤ 900
  life : 8760 ≤ p.life ∧ p.life ≤ 175200
  tref : 150 ≤ p.tref ∧ p.tref ≤ 350
  step : 50 ≤ p.step ∧ p.step ≤ 200
  cycles : 50 ≤ p.cycles ∧ p.cycles ≤ 5000
  w1 : 64 ≤ p.w1 ∧ p.w1 ≤ 1024
  w2 : 64 ≤ p.w2 ∧ p.w2 ≤ 1024
  w3 : 64 ≤ p.w3 ∧ p.w3 ≤ 1024
  w4 : 64 ≤ p.w4 ∧ p.w4 ≤ 1024
  reol : 1100 ≤ p.reol ∧ p.reol ≤ 3000
  watch : 500 ≤ p.watch ∧ p.watch ≤ 950
  replace : 300 ≤ p.replace ∧ p.replace + 10 ≤ p.watch
  assumed : -200 ≤ p.assumed ∧ p.assumed ≤ 700
  interval : 1 ≤ p.interval ∧ p.interval ≤ 90

/-- Every field of an open discharge event is within its range (R65 to R67). -/
structure DischargeEvent.InRange (e : DischargeEvent) : Prop where
  minutes : e.minutes ≤ 65535
  charge : e.charge ≤ 65535
  lowest : e.lowest ≤ 65535

/-- Every field of a record is within its range (R50, R63 to R70, R73, R76, R84 to R87); the sum S is within what its counted
minutes at -20.0 to 70.0 °C give (R75, R76). -/
structure StringRecord.InRange (r : StringRecord) : Prop where
  cabinet : ∀ c, r.cabinet = some c → 1 ≤ c ∧ c ≤ 24
  position : 1 ≤ r.position ∧ r.position ≤ 4
  profile : 1 ≤ r.profile ∧ r.profile ≤ 4
  day : r.day ≤ 65535
  baseline : ∀ b, r.rb = some b → 1 ≤ b ∧ b ≤ 65535
  resistance : r.r ≤ 65535
  voltage : r.voltage ≤ 65535
  current : -32768 ≤ r.current ∧ r.current ≤ 32767
  life : r.life ≤ Config.lifeLimit
  window : r.m ≤ 59
  sum : -200 * (r.m : Int) ≤ r.s ∧ r.s ≤ 700 * (r.m : Int)
  bucket : r.bucket ≤ 65535
  event : ∀ e, r.event = some e → e.InRange
  owner : ∀ v, r.owner = some v → 1 ≤ v ∧ v ≤ 4
  soh : r.soh ≤ 1000
  resistanceIndicator : r.resistanceIndicator ≤ 1000
  lifeIndicator : r.lifeIndicator ≤ 1000
  temperature : -200 ≤ r.temperature ∧ r.temperature ≤ 700
  sinceR : r.sinceR ≤ 999999

/-- The profiles and the records are within their ranges. -/
structure State.RecordsInRange (s : State) : Prop where
  profiles : ∀ n p, s.profile? n = some p → p.InRange
  strings : ∀ k r, s.string? k = some r → r.InRange

/-- The configuration and the Cabinet Table are within their ranges. -/
structure State.FloorInRange (s : State) : Prop where
  config : s.floor.config.InRange
  cabinets : ∀ c x, s.cabinet? c = some x → x.InRange

/-! ## The dirty queue and the write numbers (R162, R163) -/

/-- The dirty queue holds each image at most once (R163). -/
def State.QueueDistinct (s : State) : Prop := s.store.queue.Nodup

/-- The write count is ahead of every good image and of the write in flight (R162). -/
structure State.CountAhead (s : State) : Prop where
  images : ∀ n ∈ allGoodNumbers s.store.images, n < s.store.nextNumber
  writer : ∀ w, s.store.writer = some w → w.number < s.store.nextNumber

/-! ## The port, the ask and the permits -/

/-- The port is Working exactly while an ask waits, and ReplyReady exactly while it holds a reply (R114, R178,
R179). -/
structure State.PortAgrees (s : State) : Prop where
  working : s.port.state = .working ↔ s.ask.isSome = true
  replyReady : s.port.state = .replyReady ↔ s.port.reply.isSome = true

/-- No permit stands Granted, and no ask waits, unless the utility is Present (R131). -/
def State.GrantsNeedUtility (s : State) : Prop :=
  s.operating = true → s.floor.utility ≠ .present → s.ask = none ∧ ∀ k, s.isGranted k = false

/-- At most one standing permit names any one cabinet, none names the cabinet of the waiting ask, and each, like the waiting
ask, names a Present cabinet (R110, R113). -/
def State.OnePermitEach (s : State) : Prop :=
  s.operating = true →
    (∀ j k p q, s.permit? j = some p → s.permit? k = some q → p.cabinet = q.cabinet → j = k) ∧
    (∀ a, s.ask = some a → ∀ k p, s.permit? k = some p → p.cabinet ≠ a.cabinet) ∧
    (∀ k p, s.permit? k = some p → (s.cabinet? p.cabinet).isSome = true) ∧
    (∀ a, s.ask = some a → (s.cabinet? a.cabinet).isSome = true)

/-! ## The strings and the work items -/

/-- Where the records stand (R50, R55): every record has a position, a Retired one names no cabinet, an attached one names a
Present cabinet, and no two are attached at one position of one cabinet. -/
structure State.StringsPlaced (s : State) : Prop where
  position : ∀ k r, s.string? k = some r → 1 ≤ r.position ∧ r.position ≤ 4
  retired : ∀ k r, s.string? k = some r → r.state = .retired → r.cabinet = none
  present : ∀ k r c, s.string? k = some r → r.cabinet = some c → (s.cabinet? c).isSome = true
  single : ∀ j k q r c, s.string? j = some q → s.string? k = some r → q.cabinet = some c → r.cabinet = some c →
    q.position = r.position → j = k

/-- No two items of open visits that are neither Done nor Abandoned agree in kind and target (R143). -/
def State.ItemsDistinct (s : State) : Prop :=
  ∀ v w x y i j a b, s.visit? v = some x → s.visit? w = some y → itemAt x.items i = some a → itemAt y.items j = some b →
    a.live = true → b.live = true → a.kind = b.kind → a.target = b.target → v = w ∧ i = j

/-- A record is Retiring exactly while an In-progress REPLACE STRING item of an open visit names it, and that visit owns it
(R54). -/
structure State.RetiringHeld (s : State) : Prop where
  distinct : s.ItemsDistinct
  held : ∀ v x it, s.visit? v = some x → it ∈ x.items → it.state = .inProgress → it.kind = .replaceString →
    ∃ r, s.string? it.target = some r ∧ r.state = .retiring ∧ r.owner = some v
  holder : ∀ k r, s.string? k = some r → r.state = .retiring →
    ∃ v x it, s.visit? v = some x ∧ it ∈ x.items ∧ it.state = .inProgress ∧ it.kind = .replaceString ∧ it.target = k

/-- The Group Table holds what the inputs as they stand give (R94, R96). -/
def State.GroupsCurrent (s : State) : Prop :=
  s.operating = true → s.groups = (numbers Config.groupCount).map (s.figures none)

/-! ## What a report makes of the records -/

/-- What the report `rep` of cabinet `c` with entry `x` makes of the record `r` in slot `k` (R62): a record attached at a position
of the cabinet takes that position's block; any other is left as it is. -/
def State.reportWork (s : State) (c : Nat) (x : Cabinet) (rep : Report) (k : Nat) (r : StringRecord) : Work :=
  if 1 ≤ r.position ∧ r.position ≤ 4 ∧ (s.stringAt c r.position).map Prod.fst = some k then
    intakeBlock x.mode rep.givenMode (x.isNew rep) (rep.block r.position) (s.profile? r.profile) (startWork r)
  else startWork r

/-- The entry `x` after an accepted report, the notice slot and the unauthorised-bypass flag apart (R13, R14, R33, R38, R44). -/
def Cabinet.reported (x : Cabinet) (rep : Report) (m : Mode) : Cabinet :=
  { x with
    link := .online
    failures := 0
    expected := if rep.toggle = x.expected then !x.expected else x.expected
    ack := rep.toggle
    pulse := x.pulse &&& ~~~ answeredPulses rep
    mode := m
    load := min rep.load 8000
    age := 0 }

/-- The notice slot after a report that answers a poll with the posting `carried` (R41). -/
def Cabinet.reportedNotice (x : Cabinet) (rep : Report) (carried : Option Posting) : Option Posting :=
  if rep.noticeTaken = true ∧ carried.isSome = true ∧ x.notice = carried then none else x.notice

/-! ## What a frame leaves in the request port -/

/-- The status byte that a frame shifts out: the one captured at its assertion, or the one the state shows (R177). -/
def State.frameStatus (s : State) : Byte := s.port.frame.getD s.statusByte

/-- The overrun-seen mark once the status byte of the frame has been shifted out: it shows OVERRUN in bit 1 (R177, R180). -/
def State.seenAfter (s : State) : Bool := s.port.overrunSeen || s.frameStatus.getLsbD 1

/-- The port after a frame of `n` bytes that changes nothing else and shifts out `tail` behind the status byte. -/
def State.framedPort (s : State) (n : Nat) (tail : List Byte) : Port :=
  { s.port with
    overrunSeen := s.seenAfter, frame := none, request := [], sdo := frameOut s.frameStatus tail n }

/-- The port after a REQUEST frame was taken in Idle (R180): OVERRUN is cleared once it has been shown. -/
def State.takenPort (s : State) (f : RequestFrame) : Port :=
  { s.port with
    overrun := s.port.overrun && !s.seenAfter, overrunSeen := false, frame := none, request := []
    sdo := frameOut s.frameStatus [] (requestLength f) }

/-- The port after a REQUEST frame taken in Idle that is answered at once (R178, R179). -/
def State.repliedPort (s : State) (f : RequestFrame) (code : Byte) (res : ResultCode) (body : List Byte) : Port :=
  { s.takenPort f with state := .replyReady, reply := some { code := code, result := resultCode res, body := body } }

/-- The part runs, the port is Idle and the frame's length is right for a body of `need` bytes: the request is handed
to its block (R179). -/
structure State.Takes (s : State) (need : Nat) (f : RequestFrame) : Prop where
  running : s.phase = .running
  idle : s.port.state = .idle
  length : goodLength need f = true

/-! ## Moves of the port (R178) -/

/-- The commands that put the port in Starting: a start (R178, R190 step 1). DESIGN CHOICE (log 12): POWER LOSS and RESET ASSERT too,
since the model blanks the port to its start values at once. -/
def entersStarting : Instr → Bool
  | .powerOn => true
  | .resetLine => true
  | .powerLoss => true
  | .resetAssert _ => true
  | _ => false

/-- The commands that can end a waiting ask with a reply (R115, R116, R118): the ends of a poll, a slot start that takes HOLD, an
accepted loss of the utility, and the two ends of the wait. -/
def endsAnAsk : Instr → Bool
  | .replyEnd _ => true
  | .noReply => true
  | .noReplyInTime => true
  | .pollSlot _ => true
  | .breakSlot => true
  | .idleSlot => true
  | .utilityChange => true
  | .askWaitEnd => true
  | .askEarlyEnd => true
  | _ => false

/-- A move of the port that the table of R178 has for the command, or that of log entry 12 (the model's choice) into Starting. -/
def portMayMove (i : Instr) (p q : PortState) : Prop :=
  p = q ∨
  (q = .starting ∧ entersStarting i = true) ∨
  (p = .starting ∧ q = .idle ∧ i = .firstUtilityJudgement) ∨
  (p = .idle ∧ q = .replyReady ∧ (requestFrame i).isSome = true) ∨
  (p = .idle ∧ q = .working ∧ ∃ f, i = .permitAsk f) ∨
  (p = .working ∧ q = .replyReady ∧ endsAnAsk i = true) ∨
  (p = .working ∧ q = .idle ∧ ∃ rest, i = .portReset rest) ∨
  (p = .replyReady ∧ q = .idle ∧ ((∃ rest, i = .fetch rest) ∨ ∃ rest, i = .portReset rest))

end Sys2Proof.Machine
end

