-- ==== Sys2Proof/WellFormed.lean ====
section
/-! DEFINITION. Which commands are well formed: the operands a sender of the row can give. -/

namespace Sys2Proof

/-- A frame that ends before its length byte has no body bytes (R179). -/
def RequestFrame.wellFormed (f : RequestFrame) : Bool := f.len.isSome || f.body.isEmpty

/-- The frame types of R176. -/
def namesFrameType (b : Byte) : Bool :=
  b == frameRequest || b == frameFetch || b == frameUrgent || b == frameUrgentCancel || b == framePortReset

/-- The operands of the commands that are no request of the catalogue. -/
def otherWellFormed : Instr → Bool
  | .unknownRequest c f => (requestOfCode c f).isNone && f.wellFormed
  | .disregardedFrame b rest => !namesFrameType b && !rest.isEmpty
  | .fetch rest => !rest.isEmpty
  | .urgentCancel rest => !rest.isEmpty
  | .portReset rest => !rest.isEmpty
  | .replyEnd chars => !chars.isEmpty
  | .calendarStep k => decide (1 ≤ k ∧ k ≤ Config.stringCount)
  | .automaticPulse k => decide (1 ≤ k ∧ k ≤ Config.stringCount)
  | .grantTimeout k => decide (1 ≤ k ∧ k ≤ Config.permitCount)
  | .permitOverdue k => decide (1 ≤ k ∧ k ≤ Config.permitCount)
  | .visitOvertime k => decide (1 ≤ k ∧ k ≤ Config.visitCount)
  | _ => true

/-- A command is well formed when a sender can give its operands: a frame's bytes are those of its row
(R176, R179, R191), a reply has at least one character (R29), a slot number names a slot (00_scope 5.2). -/
def Instr.wellFormed (i : Instr) : Bool :=
  match requestRow i, requestFrame i with
  | some _, some f => f.wellFormed
  | _, _ => otherWellFormed i

end Sys2Proof
end

