-- ==== Sys2Proof/Certificates/Slice0/Obligations.lean ====
section
/-! DEFINITION. The statements for the provers: the queue and the frames, the invariants that every step keeps, and for
every command the next state that the manual's rules give it. -/

open Sys2Proof Sys2Proof.Machine

/-! ## The queue, the frames, the reset state -/

/-- Taking the command at the front of the queue is running `exec` on it with the queue's rest; with no command waiting, a step is
one millisecond of the utility filter (log entry 6: the model's choice). -/
def Obligations.StepRunsTheFrontCommand : Prop :=
  (∀ (c : Instr) (s : State), step { s with pending := c :: s.pending } = exec c s) ∧
  (∀ (c : Instr) (rest : List Instr) (s : State), s.pending = c :: rest → step s = exec c { s with pending := rest }) ∧
  (∀ s : State, s.pending = [] → step s = .next (s.passTime 1))

/-- No command stops, and none touches the queue of the commands that wait. -/
def Obligations.EveryCommandCompletes : Prop :=
  ∀ (i : Instr) (s : State), ∃ t, exec i s = .next t ∧ t.pending = s.pending

/-- Reading back the bytes of a frame gives the command, and the bytes of the command read are the frame; frames written out from
R191 and R192 are the commands of their rows. A field of a body is its bytes, most significant first. -/
def Obligations.FramesReadBack : Prop :=
  (∀ (i : Instr) (bs : List Byte), i.wellFormed = true → encodeFrame i = some bs → decodeFrame bs = some i) ∧
  (∀ (i : Instr) (bs : List Byte), decodeFrame bs = some i → encodeFrame i = some bs ∧ i.wellFormed = true) ∧
  (∀ bs : List Byte, bs ≠ [] → (decodeFrame bs).isSome = true) ∧
  decodeFrame [0xA1, 0x01, 0x00] = some (.floorRead { len := some 0, body := [] }) ∧
  decodeFrame [0xA1, 0x10, 0x04, 0x01, 0x02, 0x0B, 0xB8] =
    some (.cabinetSet { len := some 4, body := [0x01, 0x02, 0x0B, 0xB8] }) ∧
  decodeFrame [0xA1, 0x33, 0x01, 0x05] = some (.permitCancel { len := some 1, body := [0x05] }) ∧
  decodeFrame [0xA1, 0x0F, 0x00] = some (.unknownRequest 0x0F { len := some 0, body := [] }) ∧
  decodeFrame [0xA2, 0x00, 0x00] = some (.fetch [0x00, 0x00]) ∧
  decodeFrame [0xA3, 0x03] = some (.urgent 0x03 []) ∧
  decodeFrame [0xA4, 0x00] = some (.urgentCancel [0x00]) ∧
  decodeFrame [0xA5, 0x00] = some (.portReset [0x00]) ∧
  decodeFrame [0xA2] = some (.statusPeek 0xA2) ∧
  decodeFrame [0x42, 0x01] = some (.disregardedFrame 0x42 [0x01]) ∧
  (∀ (b : List Byte) (i : Nat) (w x y z : Byte), b[i]? = some w →
    field b i 1 = w.toNat ∧
    (b[i + 1]? = some x →
      field b i 2 = 256 * w.toNat + x.toNat ∧
      (b[i + 2]? = some y → b[i + 3]? = some z →
        field b i 4 = 16777216 * w.toNat + 65536 * x.toNat + 256 * y.toNat + z.toNat)))

/-- What a part as delivered holds while its first start waits for the utility judgement; a POWER ON start of it gives that state
again, and it meets every invariant that the steps keep. -/
def Obligations.ResetIsAFirstStart : Prop :=
  State.reset.phase = .running ∧ State.reset.floor.clock = 0 ∧ State.reset.floor.clockSet = false ∧
  State.reset.floor.utility = .unknown ∧ State.reset.floor.hold = false ∧ State.reset.floor.cause = .powerOn ∧
  State.reset.floor.config =
    { spare1 := 1, spare2 := 1, spare3 := 1, spare4 := 1, headroom := 100, autonomyFloor := 10, efficiency := 920,
      maxPermit := 240, grantTimeout := 15, maxVisit := 480, filterTime := 10, mask := 0xFFF } ∧
  entries State.reset.cabinets = [] ∧ entries State.reset.profiles = [] ∧ entries State.reset.strings = [] ∧
  entries State.reset.permits = [] ∧ entries State.reset.visits = [] ∧ State.reset.ask = none ∧
  State.reset.link.counter = 0 ∧ State.reset.link.failureRun = 0 ∧ State.reset.link.flight = none ∧
  (∀ g ∈ State.reset.groups, g.required = 1 ∧ g.load = 0 ∧ g.capacity = 0 ∧ g.autonomy = 9999 ∧ g.status = .short) ∧
  State.reset.store.queue = [] ∧ State.reset.store.writer = none ∧ badImages State.reset.store.images = [] ∧
  State.reset.port.state = .starting ∧ State.reset.port.reply = none ∧ State.reset.port.urgent = none ∧
  State.reset.port.overrun = false ∧ State.reset.port.late = false ∧ State.reset.port.dropped = false ∧
  State.reset.attention = { Attention.empty with start := some (.powerOn, 0) } ∧ State.reset.pending = [] ∧
  exec .powerOn State.reset = .next State.reset ∧
  State.reset.Sized ∧ State.reset.QueueDistinct ∧ State.reset.CountAhead ∧ State.reset.PortAgrees ∧
  State.reset.FloorInRange ∧ State.reset.RecordsInRange ∧ State.reset.GroupsCurrent ∧ State.reset.GrantsNeedUtility ∧
  State.reset.OnePermitEach ∧ State.reset.StringsPlaced ∧ State.reset.RetiringHeld

/-! ## Invariants that every step keeps -/

/-- No step changes the size of a table or of an image table. -/
def Obligations.StepKeepsTheTableSizes : Prop :=
  ∀ s t : State, s.Sized → step s = .next t → t.Sized

/-- The dirty queue never holds an image twice (R163). -/
def Obligations.StepKeepsTheQueueDistinct : Prop :=
  ∀ s t : State, s.QueueDistinct → step s = .next t → t.QueueDistinct

/-- Every write is stamped with a number above that of every good image (R162). -/
def Obligations.StepKeepsTheCountAhead : Prop :=
  ∀ s t : State, s.CountAhead → step s = .next t → t.CountAhead

/-- The port is Working exactly while an ask waits and ReplyReady exactly while it holds a reply (R114, R178, R179). -/
def Obligations.StepKeepsPortAndAskAgreed : Prop :=
  ∀ s t : State, s.PortAgrees → step s = .next t → t.PortAgrees

/-- The configuration, every Present cabinet, every profile and every field of every string record stay within their ranges (R8, R11,
R46, R50, R63 to R70, R73, R76, R84 to R87); that a start from any images keeps them rests on log entry 20. -/
def Obligations.StepKeepsTheRanges : Prop :=
  ∀ s t : State, s.Sized → s.FloorInRange → s.RecordsInRange → step s = .next t → t.FloorInRange ∧ t.RecordsInRange

/-- The Group Table always holds what the inputs as they stand give (R96). -/
def Obligations.StepKeepsGroupsCurrent : Prop :=
  ∀ s t : State, s.Sized → s.PortAgrees → s.GroupsCurrent → step s = .next t → t.GroupsCurrent

/-- No permit stands Granted and no ask waits while the utility is Lost or Unknown (R131). -/
def Obligations.StepKeepsGrantsWithUtility : Prop :=
  ∀ s t : State, s.Sized → s.PortAgrees → s.GrantsNeedUtility → step s = .next t → t.GrantsNeedUtility

/-- At most one standing permit names any one cabinet, and every standing permit and the waiting ask name a Present one (R110,
R113). -/
def Obligations.StepKeepsOnePermitEach : Prop :=
  ∀ s t : State, s.Sized → s.PortAgrees → s.OnePermitEach → step s = .next t → t.OnePermitEach

/-- Every attached record names a Present cabinet and a position, no Retired record names one, and no two records are attached at one
position of one cabinet (R50, R55). That a start from any images keeps it rests on log entry 20. -/
def Obligations.StepKeepsStringsPlaced : Prop :=
  ∀ s t : State, s.Sized → s.StringsPlaced → step s = .next t → t.StringsPlaced

/-- From one step of the operating part to the next a record stays Retiring exactly while an In-progress REPLACE STRING item of an
open visit names it, owned by that visit, and no two items in work or waiting agree in kind and target (R54, R143). -/
def Obligations.StepKeepsRetiringHeld : Prop :=
  ∀ s t : State, s.Sized → s.operating = true → s.RetiringHeld → step s = .next t → t.operating = true → t.RetiringHeld

/-- The port moves only where the table of R178 has a move, and for a command that the table names; a waiting ask ends only with the
end of a poll, a slot start, an accepted state of the utility, or the two ends of its wait. That POWER LOSS and RESET ASSERT too may
lead into Starting is no move of the table: the model blanks the port to its start values there and not at step 1 of the start (log
entry 12, the model's choice). -/
def Obligations.PortMovesOnlyAsTabled : Prop :=
  ∀ (i : Instr) (s t : State), s.PortAgrees → exec i s = .next t → portMayMove i s.port.state t.port.state

/-! ## Requests in general -/

/-- A REQUEST that ends outside Idle is discarded: OVERRUN is set, the overrun-seen mark cleared, nothing else changes but
what the frame itself leaves (R180). In Idle a catalogue request whose length is not its row's, or is not the count of its body
bytes, or is above 60, is refused BAD LENGTH, and no record changes; a REQUEST whose code names no request is refused UNKNOWN
REQUEST whatever its length (R179). -/
def Obligations.RequestsRefusedByThePort : Prop :=
  (∀ (i : Instr) (f : RequestFrame) (s : State),
    requestFrame i = some f → s.phase = .running → s.port.state ≠ .idle →
    exec i s = .next { s with port :=
      { s.port with
        overrun := true, overrunSeen := false, frame := none, request := [], sdo := frameOut s.frameStatus [] (requestLength f) } }) ∧
  (∀ (i : Instr) (code : Byte) (need : Nat) (f : RequestFrame) (s : State),
    requestRow i = some (code, need) → requestFrame i = some f → s.phase = .running → s.port.state = .idle →
    goodLength need f = false →
    exec i s = .next { s with port := s.repliedPort f code .badLength [] }) ∧
  (∀ (code : Byte) (f : RequestFrame) (s : State), s.phase = .running → s.port.state = .idle →
    exec (.unknownRequest code f) s = .next { s with port := s.repliedPort f 0x00 .unknownRequest [] })

/-- The requests that only read answer DONE with what is held and change nothing but the port; CABINET READ with the clear
option then sets the cumulative error count to 0 (R10, R19, R49, R59, R130, R158; the places of the replies' fields are log entry 15,
and the order of the permits in VISIT READ's list is log entry 32, the model's choices). The bodies stand byte by byte: numbers most
significant byte first, signed ones in two's complement, codes by R194, an optional field as a presence byte and its value, a list as
a count byte and its entries (R191, R192, R194). -/
def Obligations.ReadsAnswerFromTheRecords : Prop :=
  (∀ (f : RequestFrame) (s : State), s.Takes 0 f →
    exec (.floorRead f) s = .next { s with port := s.repliedPort f 0x01 .done s.floorBody }) ∧
  (∀ (f : RequestFrame) (s : State) (x : Cabinet), s.Takes 2 f → s.cabinet? (field f.body 0 1) = some x →
    exec (.cabinetRead f) s = .next { s with
      cabinets := if field f.body 1 1 = 0 then s.cabinets
        else tset s.cabinets (field f.body 0 1) (some { x with errors := 0 })
      port := s.repliedPort f 0x12 .done (s.cabinetBody (field f.body 0 1) x) }) ∧
  (∀ (f : RequestFrame) (s : State), s.Takes 1 f → 1 ≤ field f.body 0 1 → field f.body 0 1 ≤ 4 →
    exec (.profileRead f) s = .next { s with
      port := s.repliedPort f 0x21 .done
        (match s.profile? (field f.body 0 1) with
          | none => be1 0 ++ List.replicate 30 0 ++ be1 (s.profileUsers (field f.body 0 1))
          | some p => be1 1 ++ profileBody p ++ be1 (s.profileUsers (field f.body 0 1))) }) ∧
  (∀ (f : RequestFrame) (s : State) (r : StringRecord), s.Takes 1 f → s.string? (field f.body 0 1) = some r →
    exec (.stringRead f) s = .next { s with port := s.repliedPort f 0x23 .done (recordBody r) }) ∧
  (∀ (f : RequestFrame) (s : State) (p : Permit), s.Takes 1 f → s.permit? (field f.body 0 1) = some p →
    exec (.permitRead f) s = .next { s with port := s.repliedPort f 0x31 .done (permitBody (field f.body 0 1) p) }) ∧
  (∀ (f : RequestFrame) (s : State) (x : Visit), s.Takes 1 f → s.visit? (field f.body 0 1) = some x →
    exec (.visitRead f) s = .next { s with port := s.repliedPort f 0x46 .done (s.visitBody (field f.body 0 1) x) }) ∧
  (∀ n : Nat, be1 n = [BitVec.ofNat 8 n] ∧ be2 n = [BitVec.ofNat 8 (n / 256), BitVec.ofNat 8 n] ∧
    be4 n = [BitVec.ofNat 8 (n / 16777216), BitVec.ofNat 8 (n / 65536), BitVec.ofNat 8 (n / 256), BitVec.ofNat 8 n]) ∧
  (∀ z : Int, be1s z = [BitVec.ofInt 8 z] ∧ be2s z = be2 (BitVec.ofInt 16 z).toNat ∧ be4s z = be4 (BitVec.ofInt 32 z).toNat) ∧
  ([Mode.unknown, .inverter, .battery, .staticBypass, .maintenanceBypass, .off, .faulted].map modeCode = [0, 1, 2, 3, 4, 5, 6] ∧
    [none, some Notice.grant, some .withdraw, some .recall].map noticeCode = [0, 1, 2, 3] ∧
    [UtilityState.unknown, .present, .lost].map utilityCode = [0, 1, 2] ∧
    [LinkState.unsynced, .online, .silent, .lost].map linkCode = [0, 1, 2, 3] ∧
    [StringState.good, .watch, .due, .suspect, .retiring, .retired].map stringStateCode = [1, 2, 3, 4, 5, 6] ∧
    [PermitState.granted, .active, .overdue, .returning].map permitStateCode = [1, 2, 3, 4] ∧
    [ItemKind.inspectCabinet, .replaceString, .capacityTest, .baseline].map itemKindCode = [1, 2, 3, 4] ∧
    [ItemState.pending, .inProgress, .interrupted, .done, .abandoned].map itemStateCode = [1, 2, 3, 4, 5] ∧
    [MarginStatus.met, .short].map marginCode = [0, 1] ∧ [StartCause.powerOn, .resetLine].map startCauseCode = [1, 2] ∧
    [ResultCode.done, .notFound, .noRoom, .wrongState, .marginShort, .autonomyShort, .hold, .utilityLost, .noPermit, .duplicate,
      .unknownRequest, .badLength].map resultCode = [0, 1, 2, 3, 4, 5, 6, 7, 8, 9, 10, 11]) ∧
  (∀ s : State,
    s.floorBody.take 8 = be1 (utilityCode s.floor.utility) ++ be1 (if s.floor.hold = true then 1 else 0) ++
      be4 s.floor.clock.toNat ++ be1 (if s.floor.clockSet = true then 1 else 0) ++ be1 (startCauseCode s.floor.cause) ∧
    (∀ i g, s.groups[i]? = some g → (s.floorBody.drop (8 + 17 * i)).take 17 =
      be1 g.required ++ be4 g.load ++ be4 g.capacity ++ be1s g.spare ++ be4 g.energy ++ be2 g.autonomy ++
        be1 (marginCode g.status)) ∧
    (s.groups.length = 4 → s.floorBody.length = 76)) ∧
  (∀ (s : State) (c : Nat) (x : Cabinet) (slots : List Nat), slots.length = 4 →
    (∀ i k, slots[i]? = some k →
      (∀ r, k ≠ 0 → s.string? k = some r → r.cabinet = some c ∧ r.position = i + 1 ∧ r.state ≠ .retired) ∧
      (k ≠ 0 → (s.string? k).isSome = true ∧ ∀ j q, s.string? j = some q → q.cabinet = some c → q.position = i + 1 →
        q.state ≠ .retired → k ≤ j) ∧
      (k = 0 → ∀ j q, s.string? j = some q → q.cabinet = some c → q.position = i + 1 → q.state = .retired)) →
    s.cabinetBody c x = be1 c ++ be1 x.group ++ be2 x.rated ++ be1 (modeCode x.mode) ++ be2 x.load ++ be2 x.age ++
      be1 (if x.unauthorised = true then 1 else 0) ++ be1 (linkCode x.link) ++ be1 x.failures ++ be1 x.errors ++
      be1 (noticeCode (x.notice.map Posting.notice)) ++ be1 x.pulse.toNat ++ be1 4 ++ slots.flatMap be1) ∧
  (∀ p : Profile, profileBody p = be2 p.capacity ++ be2 p.voltage ++ be4 p.life ++ be2 p.tref.toNat ++ be1 p.step ++
    be2 p.cycles ++ be2 p.w1 ++ be2 p.w2 ++ be2 p.w3 ++ be2 p.w4 ++ be2 p.reol ++ be2 p.watch ++ be2 p.replace ++
    be2s p.assumed ++ be1 p.interval) ∧
  (∀ (s : State) (n : Nat), s.profileUsers n = (s.strings.filter (fun e =>
    e.any (fun r => decide (r.profile = n ∧ r.state ≠ .retired)))).length) ∧
  (∀ r : StringRecord, recordBody r = be1 (r.cabinet.getD 0) ++ be1 r.position ++ be1 r.profile ++ be2 r.day ++
    (match r.rb with
      | none => [0, 0, 0, 1]
      | some b => be1 1 ++ be2 b ++ be1 0) ++
    be2 r.r ++ be4 r.sinceR ++ be2 r.voltage ++ be2s r.current ++ be2s r.temperature ++ be4 r.life ++ be1 r.m ++ be4s r.s ++
    be2 r.bucket ++
    (match r.event with
      | none => [0, 0, 0, 0, 0, 0, 0]
      | some e => be1 1 ++ be2 e.minutes ++ be2 e.charge ++ be2 e.lowest) ++
    be2 r.soh ++ be2 r.resistanceIndicator ++ be2 r.lifeIndicator ++ be1 (stringStateCode r.state) ++
    be1 (if r.suspect = true then 1 else 0) ++
    (match r.owner with
      | none => [0, 0]
      | some v => be1 1 ++ be1 v)) ∧
  (∀ (k : Nat) (p : Permit), permitBody k p = be1 k ++ be1 p.cabinet ++ be1 (p.visit.getD 0) ++ be1 (permitStateCode p.state) ++
    be2 p.remaining ++
    (match p.timeout with
      | none => [0, 0, 0]
      | some m => be1 1 ++ be2 m) ++
    be1 (if p.recallAsked = true then 1 else 0) ++ be1s p.spare ++ be2 p.autonomy) ∧
  (∀ it : Item, itemBody it = be1 (itemKindCode it.kind) ++ be1 it.target ++ be1 (itemStateCode it.state) ++
    (match it.permit with
      | none => [0, 0]
      | some k => be1 1 ++ be1 k) ++
    (match it.result with
      | none => [0, 0, 0, 0, 0, 0, 0]
      | some a => be1 1 ++ be1 a.profile ++ be4 a.value ++ be1 a.newSlot)) ∧
  (∀ (s : State) (v : Nat) (x : Visit) (named : List (Nat × Permit)),
    (named.map Prod.fst).Pairwise (· < ·) → (∀ k p, (k, p) ∈ named ↔ s.permit? k = some p ∧ p.visit = some v) →
    s.visitBody v x = be1 v ++ be4 x.badge ++ be4 x.opened.toNat ++ be2 x.remaining ++
      be1 (if x.overtime = true then 1 else 0) ++ be1 x.items.length ++
      x.items.zipIdx.flatMap (fun e => be1 (e.2 + 1) ++ itemBody e.1) ++ be1 named.length ++
      named.flatMap (fun e => be1 e.1 ++ be1 (permitStateCode e.2.state)))

/-- A request that names a record that does not stand is refused NOT FOUND, and one that a check of its block stops is refused with
that check's code, each in the order of its rule; no record changes (R16, R19, R47, R49, R57, R59, R128 to R130, R143, R145, R148,
R149, R152, R156, R158). -/
def Obligations.RequestsRefusedByTheirBlocks : Prop :=
  (∀ (f : RequestFrame) (s : State), s.Takes 2 f → s.cabinet? (field f.body 0 1) = none →
    exec (.cabinetRead f) s = .next { s with port := s.repliedPort f 0x12 .notFound [] }) ∧
  (∀ (f : RequestFrame) (s : State), s.Takes 1 f → s.string? (field f.body 0 1) = none →
    exec (.stringRead f) s = .next { s with port := s.repliedPort f 0x23 .notFound [] }) ∧
  (∀ (f : RequestFrame) (s : State), s.Takes 1 f → s.permit? (field f.body 0 1) = none →
    exec (.permitRead f) s = .next { s with port := s.repliedPort f 0x31 .notFound [] } ∧
    exec (.permitRecall f) s = .next { s with port := s.repliedPort f 0x32 .notFound [] } ∧
    exec (.permitCancel f) s = .next { s with port := s.repliedPort f 0x33 .notFound [] }) ∧
  (∀ (f : RequestFrame) (s : State), s.Takes 1 f → s.visit? (field f.body 0 1) = none →
    exec (.visitClose f) s = .next { s with port := s.repliedPort f 0x45 .notFound [] } ∧
    exec (.visitRead f) s = .next { s with port := s.repliedPort f 0x46 .notFound [] }) ∧
  (∀ (f : RequestFrame) (s : State), s.Takes 2 f → s.itemOf (field f.body 0 1) (field f.body 1 1) = none →
    exec (.visitStart f) s = .next { s with port := s.repliedPort f 0x42 .notFound [] } ∧
    exec (.visitAbandon f) s = .next { s with port := s.repliedPort f 0x44 .notFound [] }) ∧
  (∀ (f : RequestFrame) (s : State), s.Takes 4 f → ¬(1 ≤ field f.body 0 1 ∧ field f.body 0 1 ≤ 24) →
    exec (.cabinetSet f) s = .next { s with port := s.repliedPort f 0x10 .notFound [] }) ∧
  (∀ (f : RequestFrame) (s : State), s.Takes 31 f → ¬(1 ≤ field f.body 0 1 ∧ field f.body 0 1 ≤ 4) →
    exec (.profileWrite f) s = .next { s with port := s.repliedPort f 0x20 .notFound [] }) ∧
  (∀ (f : RequestFrame) (s : State), s.Takes 1 f → ¬(1 ≤ field f.body 0 1 ∧ field f.body 0 1 ≤ 4) →
    exec (.profileRead f) s = .next { s with port := s.repliedPort f 0x21 .notFound [] }) ∧
  (∀ (f : RequestFrame) (s : State) (c pos n : Nat), s.Takes 9 f → c = field f.body 0 1 → pos = field f.body 1 1 →
    n = field f.body 2 1 →
    ((s.cabinet? c = none ∨ ¬(1 ≤ pos ∧ pos ≤ 4) ∨ s.profile? n = none) →
      exec (.stringCommission f) s = .next { s with port := s.repliedPort f 0x22 .notFound [] }) ∧
    ((s.cabinet? c).isSome = true → 1 ≤ pos → pos ≤ 4 → (s.profile? n).isSome = true →
      ((∃ k r, s.string? k = some r ∧ r.cabinet = some c ∧ r.position = pos ∧ r.state ≠ .retired) →
        exec (.stringCommission f) s = .next { s with port := s.repliedPort f 0x22 .wrongState [] }) ∧
      ((∀ k r, s.string? k = some r → r.cabinet = some c → r.position = pos → r.state = .retired) → lowestFree s.strings = none →
        exec (.stringCommission f) s = .next { s with port := s.repliedPort f 0x22 .noRoom [] }))) ∧
  (∀ (f : RequestFrame) (s : State) (v n : Nat), s.Takes 3 f → v = field f.body 0 1 → n = field f.body 2 1 →
    ((s.visit? v = none ∨ itemKindOfCode (field f.body 1 1) = none) →
      exec (.visitAdd f) s = .next { s with port := s.repliedPort f 0x41 .notFound [] }) ∧
    (∀ k, (s.visit? v).isSome = true → itemKindOfCode (field f.body 1 1) = some k →
      ((k = .inspectCabinet ∧ s.cabinet? n = none) ∨ (k ≠ .inspectCabinet ∧ s.string? n = none) →
        exec (.visitAdd f) s = .next { s with port := s.repliedPort f 0x41 .notFound [] }) ∧
      (∀ r, k ≠ .inspectCabinet → s.string? n = some r → r.cabinet = none →
        exec (.visitAdd f) s = .next { s with port := s.repliedPort f 0x41 .wrongState [] }))) ∧
  (∀ (f : RequestFrame) (s : State) (x : Visit) (it : Item), s.Takes 2 f →
    s.itemOf (field f.body 0 1) (field f.body 1 1) = some (x, it) → (it.state = .pending ∨ it.state = .interrupted) →
    (it.kind = .inspectCabinet → s.cabinet? it.target = none →
      exec (.visitStart f) s = .next { s with port := s.repliedPort f 0x42 .notFound [] }) ∧
    (it.kind ≠ .inspectCabinet → (∀ r, s.string? it.target = some r → r.cabinet = none) →
      exec (.visitStart f) s = .next { s with port := s.repliedPort f 0x42 .wrongState [] })) ∧
  (∀ (f : RequestFrame) (s : State), s.Takes 7 f → s.itemOf (field f.body 0 1) (field f.body 1 1) = none →
    exec (.visitFinish f) s = .next { s with port := s.repliedPort f 0x43 .notFound [] }) ∧
  (∀ (f : RequestFrame) (s : State) (v n : Nat) (x : Visit) (it : Item), s.Takes 7 f → v = field f.body 0 1 → n = field f.body 1 1 →
    s.itemOf v n = some (x, it) → it.state = .inProgress → it.kind = .replaceString →
    (s.profile? (field f.body 2 1) = none →
      exec (.visitFinish f) s = .next { s with port := s.repliedPort f 0x43 .notFound [] }) ∧
    ((s.profile? (field f.body 2 1)).isSome = true →
      (∃ w j y b, (w, j) ≠ (v, n) ∧ s.visit? w = some y ∧ itemAt y.items j = some b ∧ b.state = .inProgress ∧
        b.kind ≠ .inspectCabinet ∧ b.target = it.target) →
      exec (.visitFinish f) s = .next { s with port := s.repliedPort f 0x43 .wrongState [] }) ∧
    ((s.profile? (field f.body 2 1)).isSome = true →
      (∀ w j y b, (w, j) ≠ (v, n) → s.visit? w = some y → itemAt y.items j = some b → b.state = .inProgress →
        b.kind ≠ .inspectCabinet → b.target ≠ it.target) →
      lowestFree s.strings = none →
      exec (.visitFinish f) s = .next { s with port := s.repliedPort f 0x43 .noRoom [] }))

/-! ## Floor and attention -/

/-- CLOCK SET loads the value, sets the mark and answers with both; the next second counts on from the value, and after
4,294,967,295 the clock goes to 0 with the mark kept; the clock counts while RESET is held too (R1, R2). -/
def Obligations.ClockSetAndClockSecond : Prop :=
  (∀ (f : RequestFrame) (s : State), s.Takes 4 f →
    exec (.clockSet f) s = .next { s with
      floor := { s.floor with clock := BitVec.ofNat 32 (field f.body 0 4), clockSet := true }
      port := s.repliedPort f 0x03 .done (be4 (field f.body 0 4) ++ [0x01]) }) ∧
  (∀ s : State, s.phase ≠ .unpowered →
    ∃ t, exec .floorClockSecond s = .next t ∧ t.floor.clock.toNat = (s.floor.clock.toNat + 1) % 4294967296 ∧
      t = { s with floor := { s.floor with clock := t.floor.clock } })

/-- FLOOR CONFIG WRITE replaces the configuration with the clamped values, checkpoints it, recomputes the groups and
answers with the configuration held. Where it shortens the filter time below what a differing level has already held, it then
accepts that level in the same event, after the groups were formed on the new
configuration (R4, R8, R9; how long a level has held is log entry 6, and that order is log entry 18, the model's choice); what that
acceptance does is what UTILITY CHANGE does. The mask acts on ATTN at once, and no cause is lost (R9, R187). -/
def Obligations.FloorConfigWriteReplaces : Prop :=
  ∀ (f : RequestFrame) (s w : State) (c : FloorConfig), s.Takes 17 f → c = (configOfBody f.body).clamp →
    w = ({ s with
        floor := { s.floor with config := c }
        store := { s.store with queue := enqueue configImage s.store.queue } } : State).recompute →
    c.InRange ∧
    c = { spare1 := min 3 (field f.body 0 1), spare2 := min 3 (field f.body 1 1), spare3 := min 3 (field f.body 2 1)
          spare4 := min 3 (field f.body 3 1), headroom := min 500 (field f.body 4 2)
          autonomyFloor := min 240 (field f.body 6 1), efficiency := max 500 (min 1000 (field f.body 7 2))
          maxPermit := max 10 (min 720 (field f.body 9 2)), grantTimeout := max 1 (min 60 (field f.body 11 1))
          maxVisit := max 30 (min 1440 (field f.body 12 2)), filterTime := max 2 (min 50 (field f.body 14 1))
          mask := BitVec.ofNat 12 (field f.body 15 2) } ∧
    configBody c = be1 c.spare1 ++ be1 c.spare2 ++ be1 c.spare3 ++ be1 c.spare4 ++ be2 c.headroom ++ be1 c.autonomyFloor ++
      be2 c.efficiency ++ be2 c.maxPermit ++ be1 c.grantTimeout ++ be2 c.maxVisit ++ be1 c.filterTime ++ be2 c.mask.toNat ∧
    (∀ t, exec (.floorConfigWrite f) s = .next t →
      t.floor.config = c ∧ configImage ∈ t.store.queue ∧
      (∀ n, n < 12 → (presentCauses s.attention).getLsbD n = true → (presentCauses t.attention).getLsbD n = true) ∧
      (t.attn = true ↔ ∃ n, n < 12 ∧ (presentCauses t.attention).getLsbD n = true ∧ c.mask.getLsbD n = true)) ∧
    (c.filterTime ≤ s.floor.senseHeld → s.floor.senseHeld ≤ 50 → utilityOfLevel s.floor.sense ≠ s.floor.utility →
      exec .utilityChange w = .next (w.acceptUtility (utilityOfLevel s.floor.sense))) ∧
    ((s.floor.config.filterTime ≤ c.filterTime ∨ s.floor.senseHeld < c.filterTime ∨
        utilityOfLevel s.floor.sense = s.floor.utility) →
      exec (.floorConfigWrite f) s = .next { w with port := s.repliedPort f 0x02 .done (configBody c) }) ∧
    (c.filterTime < s.floor.config.filterTime → c.filterTime ≤ s.floor.senseHeld →
      utilityOfLevel s.floor.sense ≠ s.floor.utility → s.ask = none →
      exec (.floorConfigWrite f) s = .next
        { w.acceptUtility (utilityOfLevel s.floor.sense) with port := s.repliedPort f 0x02 .done (configBody c) })

/-- ATTENTION READ answers with every present cause and clears the set, after which no cause is present and ATTN is
released; nothing else changes (R187, R188). The entries stand in the order of R186, each the cause's number and its detail: a state,
a map of 1, 3 or 8 bytes with number n in byte (n - 1) / 8 at bit (n - 1) mod 8, nothing, or start cause and count (R192). -/
def Obligations.AttentionReadClearsTheSet : Prop :=
  (∀ (f : RequestFrame) (s : State) (a : Attention) (es : List (List Byte)), s.Takes 0 f → a = s.attention →
    es =
      (match a.utilityChange with
        | none => []
        | some u => [[1, BitVec.ofNat 8 (utilityCode u)]]) ++
      (if a.marginShort = 0 then [] else [[2, BitVec.ofNat 8 a.marginShort.toNat]]) ++
      (if a.unauthorisedBypass = 0 then [] else [[3, BitVec.ofNat 8 a.unauthorisedBypass.toNat,
        BitVec.ofNat 8 (a.unauthorisedBypass.toNat / 256), BitVec.ofNat 8 (a.unauthorisedBypass.toNat / 65536)]]) ++
      (if a.permitOverdue = 0 then [] else [[4, a.permitOverdue]]) ++
      (if a.permitChanged = 0 then [] else [[5, a.permitChanged]]) ++
      (if a.cabinetLost = 0 then [] else [[6, BitVec.ofNat 8 a.cabinetLost.toNat,
        BitVec.ofNat 8 (a.cabinetLost.toNat / 256), BitVec.ofNat 8 (a.cabinetLost.toNat / 65536)]]) ++
      (if a.cabinetBack = 0 then [] else [[7, BitVec.ofNat 8 a.cabinetBack.toNat,
        BitVec.ofNat 8 (a.cabinetBack.toNat / 256), BitVec.ofNat 8 (a.cabinetBack.toNat / 65536)]]) ++
      (if a.visitItemInterrupted = 0 then [] else [[8, BitVec.ofNat 8 a.visitItemInterrupted.toNat]]) ++
      (if a.visitOvertime = 0 then [] else [[9, BitVec.ofNat 8 a.visitOvertime.toNat]]) ++
      (if a.stringStateChanged = 0 then [] else
        [10 :: (List.range 8).map (fun i => BitVec.ofNat 8 (a.stringStateChanged.toNat / 256 ^ i))]) ++
      (if a.storeFault = true then [[11]] else []) ++
      (match a.start with
        | none => []
        | some (cause, n) => [[12, BitVec.ofNat 8 (startCauseCode cause), BitVec.ofNat 8 n]]) →
    ∃ t, exec (.attentionRead f) s = .next t ∧ presentCauses t.attention = 0 ∧ t.attn = false ∧
      t = { s with
        attention := Attention.empty
        port := s.repliedPort f 0x04 .done (BitVec.ofNat 8 es.length :: es.flatten) } ∧
      (presentCauses a = 0 → es = []) ∧ (presentCauses a = 0xFFF → es.length = 12 ∧ 1 + es.flatten.length = 38)) ∧
  (∀ (a : Attention) (i : Nat) (b : Bool),
    [a.utilityChange.isSome, decide (a.marginShort ≠ 0), decide (a.unauthorisedBypass ≠ 0), decide (a.permitOverdue ≠ 0),
      decide (a.permitChanged ≠ 0), decide (a.cabinetLost ≠ 0), decide (a.cabinetBack ≠ 0), decide (a.visitItemInterrupted ≠ 0),
      decide (a.visitOvertime ≠ 0), decide (a.stringStateChanged ≠ 0), a.storeFault, a.start.isSome][i]? = some b →
    (presentCauses a).getLsbD i = b) ∧
  (∀ w n i : Nat, 1 ≤ n → n ≤ w → ((markOf w n).getLsbD i = true ↔ i + 1 = n))

/-- A change of the level of UTILITY SENSE restarts its measurement. UTILITY CHANGE brings what is
left of the filter time, a step on an empty queue one millisecond, and a level that differs from the accepted state, or any level in
Unknown, is accepted once it has held for the filter time: UTILITY CHANGE is raised with the state, and on a loss every Granted
permit of the table is closed with WITHDRAW and PERMIT CHANGED and a waiting ask ends UTILITY LOST; before the filter time nothing
but the measurement moves, and what the FS3200 was sending on the link is over once a millisecond is counted (R4 to R6, R126, R131; the
measurement by milliseconds is log entry 6, the end of a transmission with it log entry 22, and that UTILITY CHANGE changes nothing
without power or while RESET is held log entry 2, the model's choices). -/
def Obligations.UtilityLevelAndChange : Prop :=
  (∀ (h : Bool) (s : State), h ≠ s.floor.sense →
    exec (.utilitySenseEdge h) s = .next { s with
      floor := { s.floor with sense := h, senseHeld := 0, senseMoved := true } }) ∧
  (∀ s : State, exec (.utilitySenseEdge s.floor.sense) s = .next s) ∧
  (∀ s : State, s.phase ≠ .running → exec .utilityChange s = .next s ∧ (s.pending = [] → step s = .next s)) ∧
  (∀ (ms held : Nat) (s w : State) (o : Host.Outcome State Fault Refusal), s.phase = .running →
    ((o = exec .utilityChange s ∧ ms = s.floor.config.filterTime - s.floor.senseHeld) ∨
      (o = step s ∧ s.pending = [] ∧ ms = 1)) →
    held = min (s.floor.senseHeld + ms) 50 →
    w = { s with
      floor := { s.floor with senseHeld := held }
      link := { s.link with line := if ms = 0 then s.link.line else .quiet } } →
    ((s.port.state = .starting ∨ held < s.floor.config.filterTime ∨ utilityOfLevel s.floor.sense = s.floor.utility) →
      o = .next w) ∧
    (s.port.state ≠ .starting → s.floor.config.filterTime ≤ held → s.floor.sense = true → s.floor.utility ≠ .present →
      o = .next { w with
        floor := { w.floor with utility := .present }
        attention := { s.attention with utilityChange := some .present } }) ∧
    (s.Sized → s.port.state ≠ .starting → s.floor.config.filterTime ≤ held → s.floor.sense = false → s.floor.utility ≠ .lost →
      ∃ t, o = .next t ∧ t.floor = { w.floor with utility := .lost } ∧ t.ask = none ∧
        (∀ k, t.permit? k = if s.isGranted k = true then none else s.permit? k) ∧
        (∀ k p x, s.permit? k = some p → p.state = .granted → s.cabinet? p.cabinet = some x →
          ∃ serial, s.link.nextSerial ≤ serial ∧
            t.cabinet? p.cabinet = some { x with notice := some { notice := .withdraw, serial := serial } }) ∧
        (∀ c, (∀ k p, s.permit? k = some p → p.state = .granted → p.cabinet ≠ c) → t.cabinet? c = s.cabinet? c) ∧
        (∀ id, id ∈ t.store.queue ↔ id ∈ s.store.queue ∨ ∃ k, s.isGranted k = true ∧ id = permitImage k) ∧
        (∀ i, i < 8 →
          t.attention.permitChanged.getLsbD i = (s.attention.permitChanged.getLsbD i || s.isGranted (i + 1))) ∧
        { t.attention with permitChanged := s.attention.permitChanged, marginShort := s.attention.marginShort } =
          { s.attention with utilityChange := some .lost } ∧
        (s.ask.isSome = true → t.port = { s.port with
          state := .replyReady, reply := some { code := 0x30, result := 0x07, body := [] } }) ∧
        (s.ask = none → t.port = s.port) ∧
        { t.link with nextSerial := s.link.nextSerial } = w.link ∧ t.groups = (numbers 4).map (t.figures none) ∧
        t.strings = s.strings ∧ t.profiles = s.profiles ∧ t.visits = s.visits ∧ t.store.images = s.store.images ∧
        t.store.writer = s.store.writer))

/-! ## Cabinets -/

/-- CABINET SET creates an Absent entry with the start values, or changes the stored fields of a Present one alone; it
checkpoints on creation and on a change, recomputes, and answers with the entry (R16, R17; the count of the string list in it is log entry 15, an inference; the bytes of
the entry are those of ReadsAnswerFromTheRecords). -/
def Obligations.CabinetSetCreatesOrUpdates : Prop :=
  ∀ (f : RequestFrame) (s : State) (c g p : Nat), s.Takes 4 f → c = field f.body 0 1 → 1 ≤ c → c ≤ 24 →
    g = clampNat 1 4 (field f.body 1 1) → p = clampNat 100 8000 (field f.body 2 2) →
    (s.cabinet? c = none →
      exec (.cabinetSet f) s = .next
        { ({ s with
              cabinets := tset s.cabinets c (some (newCabinet g p))
              store := { s.store with queue := enqueue (cabinetImage c) s.store.queue } } : State).recompute with
          port := s.repliedPort f 0x10 .done (s.cabinetBody c (newCabinet g p)) }) ∧
    (∀ x, s.cabinet? c = some x →
      exec (.cabinetSet f) s = .next
        { ({ s with
              cabinets := tset s.cabinets c (some { x with group := g, rated := p })
              store := { s.store with
                queue := if x.group = g ∧ x.rated = p then s.store.queue else enqueue (cabinetImage c) s.store.queue } } :
              State).recompute with
          port := s.repliedPort f 0x10 .done (s.cabinetBody c { x with group := g, rated := p }) })

/-- CABINET DROP: refused in R18's order, else the entry becomes Absent, the cabinet leaves the cycle, a poll to it on the
line is no longer taken, its image is checkpointed and the groups are recomputed (R18, R27). -/
def Obligations.CabinetDropRemoves : Prop :=
  ∀ (f : RequestFrame) (s : State) (c : Nat), s.Takes 1 f → c = field f.body 0 1 →
    (s.cabinet? c = none → exec (.cabinetDrop f) s = .next { s with port := s.repliedPort f 0x11 .notFound [] }) ∧
    ((s.cabinet? c).isSome = true → (s.permitOf c).isSome = true →
      exec (.cabinetDrop f) s = .next { s with port := s.repliedPort f 0x11 .wrongState [] }) ∧
    ((s.cabinet? c).isSome = true → s.permitOf c = none → (∃ k ∈ s.stringList c, k ≠ 0) →
      exec (.cabinetDrop f) s = .next { s with port := s.repliedPort f 0x11 .wrongState [] }) ∧
    ((s.cabinet? c).isSome = true → s.permitOf c = none → (∀ k ∈ s.stringList c, k = 0) →
      exec (.cabinetDrop f) s = .next
        { ({ s with
              cabinets := tset s.cabinets c none
              link := { s.link with
                remaining := s.link.remaining.filter (fun n => n != c)
                flight := s.link.flight.map (fun l => if l.cabinet = c then { l with live := false } else l) }
              store := { s.store with queue := enqueue (cabinetImage c) s.store.queue } } : State).recompute with
          port := s.repliedPort f 0x11 .done [] }) ∧
    ((s.permitOf c).isSome = true ↔ ∃ k p, s.permit? k = some p ∧ p.cabinet = c) ∧
    ((∃ k ∈ s.stringList c, k ≠ 0) ↔
      ∃ k r, s.string? k = some r ∧ r.cabinet = some c ∧ 1 ≤ r.position ∧ r.position ≤ 4 ∧ r.state ≠ .retired)

/-! ## Profiles and strings -/

/-- PROFILE WRITE fills the profile with the clamped values and answers with them (log entry 15: without its number); every record of
the table that names it and is not Retired is charged and re-derived (R84 to R88; log entry 28: attached or not), raises STRING STATE
CHANGED where its state changed and is checkpointed where a stage asks for it; every other record stays; the profile image is
checkpointed (R46 to R48). -/
def Obligations.ProfileWriteActsOnItsRecords : Prop :=
  ∀ (f : RequestFrame) (s : State) (n : Nat) (p : Profile), s.Sized → s.Takes 31 f → n = field f.body 0 1 → 1 ≤ n → n ≤ 4 →
    p = (profileOfBody f.body).clamp →
    p.InRange ∧
    p = { capacity := max 1 (min 3000 (field f.body 1 2)), voltage := max 12 (min 900 (field f.body 3 2))
          life := max 8760 (min 175200 (field f.body 5 4)), tref := max 150 (min 350 (field f.body 9 2 : Int))
          step := max 50 (min 200 (field f.body 11 1)), cycles := max 50 (min 5000 (field f.body 12 2))
          w1 := max 64 (min 1024 (field f.body 14 2)), w2 := max 64 (min 1024 (field f.body 16 2))
          w3 := max 64 (min 1024 (field f.body 18 2)), w4 := max 64 (min 1024 (field f.body 20 2))
          reol := max 1100 (min 3000 (field f.body 22 2)), watch := max 500 (min 950 (field f.body 24 2))
          replace := max 300 (min (max 500 (min 950 (field f.body 24 2)) - 10) (field f.body 26 2))
          assumed := max (-200) (min 700 (BitVec.ofNat 16 (field f.body 28 2)).toInt)
          interval := max 1 (min 90 (field f.body 30 1)) } ∧
    ∃ t, exec (.profileWrite f) s = .next t ∧ t.port = s.repliedPort f 0x20 .done (profileBody p) ∧
      t.profiles = tset s.profiles n (some p) ∧
      (∀ k, t.string? k = (s.string? k).map (fun r =>
        if r.profile = n ∧ r.state ≠ .retired then (afterProfileWrite p (startWork r)).r else r)) ∧
      (∀ i, i < 64 →
        t.attention.stringStateChanged.getLsbD i = (s.attention.stringStateChanged.getLsbD i ||
          (s.string? (i + 1)).any (fun r =>
            decide (r.profile = n ∧ r.state ≠ .retired) && (afterProfileWrite p (startWork r)).changed))) ∧
      (∀ id, id ∈ t.store.queue ↔ id ∈ s.store.queue ∨ id = profileImage n ∨
        ∃ k r, s.string? k = some r ∧ r.profile = n ∧ r.state ≠ .retired ∧ (afterProfileWrite p (startWork r)).save = true ∧
          id = stringImage k) ∧
      { t.attention with
        stringStateChanged := s.attention.stringStateChanged, marginShort := s.attention.marginShort } = s.attention ∧
      t.groups = (numbers 4).map (t.figures none) ∧
      t.floor = s.floor ∧ t.cabinets = s.cabinets ∧ t.link = s.link ∧ t.permits = s.permits ∧ t.ask = s.ask ∧
      t.visits = s.visits ∧ t.store.images = s.store.images ∧ t.store.writer = s.store.writer

/-- What the stages make of one record. A write of its profile charges an idle bucket that stands at or above C and forms the
resistance indicator, SoH and state anew (R48, R82 to R88, R93), of an unattached record too (log entry 28, the model's choice), with a
checkpoint for a charge or a change of state; a record of an
Empty profile takes its readings and its resistance at the intake and nothing else, and an event held in it is closed without a cycle
step (R53, R63 to R66, R68); a CAPACITY TEST then changes nothing of it and a BASELINE only its Rb (R90, R91). -/
def Obligations.AgeingOfOneRecord : Prop :=
  (∀ (p : Profile) (r q : StringRecord) (w : Work), p.InRange → w = afterProfileWrite p (startWork r) → q = w.r →
    q.life = (if p.capacity ≤ r.bucket then
      min (r.life + r.bucket / p.capacity * (1000000000 / p.cycles * 100 * p.w1 / 256000)) 1500000000 else r.life) ∧
    q.bucket = (if p.capacity ≤ r.bucket then r.bucket % p.capacity else r.bucket) ∧
    q.bucket < p.capacity ∧
    (r.rb = none ∨ r.r = 0 → q.resistanceIndicator = 1000) ∧
    (∀ b rr, r.rb = some b → r.r ≠ 0 → rr = min (r.r * 1000 / b) 5000 →
      (rr ≤ 1000 → q.resistanceIndicator = 1000) ∧
      (1000 < rr → q.resistanceIndicator = 1000 - (rr - 1000) * 1000 / (p.reol - 1000))) ∧
    q.lifeIndicator = 1000 - q.life / 1000000 ∧ q.soh = min q.lifeIndicator q.resistanceIndicator ∧
    q.state = (if r.state = .retiring ∨ r.state = .retired then r.state
      else if r.suspect = true then .suspect
      else if p.watch ≤ q.soh then .good
      else if p.replace ≤ q.soh then .watch
      else .due) ∧
    q = { r with
      life := q.life, bucket := q.bucket, resistanceIndicator := q.resistanceIndicator, lifeIndicator := q.lifeIndicator
      soh := q.soh, state := q.state } ∧
    (q.state ≠ r.state → w.changed = true) ∧
    (r.bucket < p.capacity → (w.changed = true ↔ q.state ≠ r.state)) ∧
    (w.save = true ↔ w.changed = true ∨ p.capacity ≤ r.bucket)) ∧
  (∀ (old new : Mode) (isNew : Bool) (b : Block) (r : StringRecord) (w : Work),
    w = intakeBlock old new isNew b none (startWork r) →
    w.changed = false ∧ (w.save = true ↔ old = .battery ∧ new ≠ .battery ∧ r.event.isSome = true) ∧
    w.r = { r with
      voltage := b.voltage, current := b.current, temperature := max (-200) (min 700 b.temperature)
      r := if b.resistance = 0 then r.r else b.resistance
      sinceR := if b.resistance = 0 then r.sinceR else 0
      event := if old = .battery ∧ new ≠ .battery then none
        else r.event.map (fun e => { e with lowest := min e.lowest b.voltage }) }) ∧
  (∀ (m : Nat) (r : StringRecord), reanchor none m (startWork r) = startWork r) ∧
  (∀ (m : Nat) (p : Option Profile) (r : StringRecord), setBaseline p 0 (startWork r) = startWork r ∧
    (m ≠ 0 → setBaseline none m (startWork r) =
      { r := { r with rb := some (min m 65535) }, changed := false, save := true }))

/-- STRING COMMISSION fills the lowest free slot with a record of SoH 1000, state Good and the given baseline, raises STRING
STATE CHANGED, checkpoints it, recomputes, and answers with slot and record (R57, R58). -/
def Obligations.StringCommissionCreates : Prop :=
  ∀ (f : RequestFrame) (s : State) (c pos n k : Nat) (p : Profile), s.Takes 9 f →
    c = field f.body 0 1 → pos = field f.body 1 1 → n = field f.body 2 1 →
    (s.cabinet? c).isSome = true → 1 ≤ pos → pos ≤ 4 → s.profile? n = some p → p.InRange → s.stringAt c pos = none →
    lowestFree s.strings = some k →
    ∃ r : StringRecord,
      r = { cabinet := some c, position := pos, profile := n, day := field f.body 3 2,
            rb := if field f.body 5 4 = 0 then none else some (min (field f.body 5 4) 65535),
            r := 0, voltage := 0, current := 0, temperature := p.assumed, life := 0, m := 0, s := 0, bucket := 0, event := none,
            soh := 1000, resistanceIndicator := 1000, lifeIndicator := 1000, suspect := false, state := .good, sinceR := 0,
            owner := none } ∧
      exec (.stringCommission f) s = .next
        { ({ s with
              strings := tset s.strings k (some r)
              attention := raiseStringChanged k s.attention
              store := { s.store with queue := enqueue (stringImage k) s.store.queue } } : State).recompute with
          port := s.repliedPort f 0x22 .done (be1 k ++ recordBody r) }

/-- STRING PULSE: refused NOT FOUND for a free slot or a number outside the table and WRONG STATE for an unattached record;
else the position's bit is set in the cabinet's pulse set, nothing else of any record changes, and the reply carries the set
and whether a poll formed now would carry it (R60). -/
def Obligations.StringPulseSetsTheBit : Prop :=
  ∀ (f : RequestFrame) (s : State) (k : Nat), s.Takes 1 f → k = field f.body 0 1 →
    (s.string? k = none → exec (.stringPulse f) s = .next { s with port := s.repliedPort f 0x24 .notFound [] }) ∧
    (∀ r, s.string? k = some r → r.cabinet = none →
      exec (.stringPulse f) s = .next { s with port := s.repliedPort f 0x24 .wrongState [] }) ∧
    (∀ r c x, s.string? k = some r → r.cabinet = some c → s.cabinet? c = some x →
      exec (.stringPulse f) s = .next { s with
        cabinets := tset s.cabinets c (some { x with pulse := x.pulse ||| markOf 4 r.position })
        port := s.repliedPort f 0x24 .done
          (be1 (x.pulse ||| markOf 4 r.position).toNat ++
            be1 (if x.mode = .inverter ∧ s.floor.utility = .present then 1 else 0)) })

/-- STRING DROP: refused in the order of R61, else the slot is freed, its image checkpointed, STRING STATE CHANGED raised,
and no group changes (R61). -/
def Obligations.StringDropFreesTheSlot : Prop :=
  ∀ (f : RequestFrame) (s : State) (k : Nat), s.Takes 1 f → k = field f.body 0 1 →
    ((s.string? k = none ∨ (s.strings.length = 64 ∧ ¬(1 ≤ k ∧ k ≤ 64))) →
      exec (.stringDrop f) s = .next { s with port := s.repliedPort f 0x25 .notFound [] }) ∧
    (∀ r, s.string? k = some r →
      (r.cabinet.isSome = true ∨ r.owner.isSome = true ∨
        (∃ v x it, s.visit? v = some x ∧ it ∈ x.items ∧ it.state ≠ .done ∧ it.state ≠ .abandoned ∧
          it.kind ≠ .inspectCabinet ∧ it.target = k)) →
      exec (.stringDrop f) s = .next { s with port := s.repliedPort f 0x25 .wrongState [] }) ∧
    (∀ r, s.string? k = some r → r.cabinet = none → r.owner = none →
      (∀ v x it, s.visit? v = some x → it ∈ x.items → it.kind ≠ .inspectCabinet → it.target = k →
        it.state = .done ∨ it.state = .abandoned) →
      exec (.stringDrop f) s = .next { s with
        strings := tset s.strings k none
        attention := raiseStringChanged k s.attention
        store := { s.store with queue := enqueue (stringImage k) s.store.queue }
        port := s.repliedPort f 0x25 .done [] })

/-! ## Permits -/

/-- PERMIT ASK that passes its checks puts the port in Working with the wait set of R114; a poll already formed does not
count for it; no record changes (R113 to R115). -/
def Obligations.PermitAskBeginsItsWait : Prop :=
  ∀ (f : RequestFrame) (s : State) (c : Nat) (x : Cabinet) (v : Option Nat), s.Takes 4 f → c = field f.body 0 1 →
    v = (if field f.body 3 1 = 0 then none else some (field f.body 3 1)) →
    s.cabinet? c = some x → s.permitOf c = none → x.link = .online → (x.mode = .inverter ∨ x.mode = .staticBypass) →
    s.floor.hold = false → s.floor.utility = .present → (lowestFree s.permits).isSome = true →
    (∀ n, v = some n → (s.visit? n).isSome = true) →
    exec (.permitAsk f) s = .next { s with
      ask := some
        { cabinet := c, duration := clampNat 10 s.floor.config.maxPermit (field f.body 1 2), visit := v, group := x.group
          waitSet := ((entries s.cabinets).filter (fun e =>
            e.2.group == x.group && (e.2.link == .online || e.2.link == .silent))).map (fun e => e.1) }
      link := { s.link with flight := s.link.flight.map (fun l => { l with afterAsk := false }) }
      port := { s.takenPort f with state := .working } }

/-- PERMIT ASK is refused in the order of R113, each refusal at once and with no record changed (R113). -/
def Obligations.PermitAskRefusedInOrder : Prop :=
  ∀ (f : RequestFrame) (s : State) (c : Nat), s.Takes 4 f → c = field f.body 0 1 →
    (s.cabinet? c = none → exec (.permitAsk f) s = .next { s with port := s.repliedPort f 0x30 .notFound [] }) ∧
    (∀ x, s.cabinet? c = some x →
      ((s.permitOf c).isSome = true ∨ x.link ≠ .online ∨ (x.mode ≠ .inverter ∧ x.mode ≠ .staticBypass)) →
      exec (.permitAsk f) s = .next { s with port := s.repliedPort f 0x30 .wrongState [] }) ∧
    (∀ x, s.cabinet? c = some x → s.permitOf c = none → x.link = .online → (x.mode = .inverter ∨ x.mode = .staticBypass) →
      (s.floor.hold = true → exec (.permitAsk f) s = .next { s with port := s.repliedPort f 0x30 .hold [] }) ∧
      (s.floor.hold = false → s.floor.utility ≠ .present →
        exec (.permitAsk f) s = .next { s with port := s.repliedPort f 0x30 .utilityLost [] }) ∧
      (s.floor.hold = false → s.floor.utility = .present → lowestFree s.permits = none →
        exec (.permitAsk f) s = .next { s with port := s.repliedPort f 0x30 .noRoom [] }) ∧
      (s.floor.hold = false → s.floor.utility = .present → (lowestFree s.permits).isSome = true →
        field f.body 3 1 ≠ 0 → s.visit? (field f.body 3 1) = none →
        exec (.permitAsk f) s = .next { s with port := s.repliedPort f 0x30 .notFound [] }))

/-- PERMIT RECALL posts a new RECALL, sets the recall-asked flag and checkpoints an Active or Overdue permit; PERMIT CANCEL
closes a Granted one with WITHDRAW, frees its slot and recomputes; other states are refused WRONG STATE (R128, R129). -/
def Obligations.PermitRecallAndCancel : Prop :=
  ∀ (f : RequestFrame) (s : State) (k : Nat) (p : Permit) (x : Cabinet), s.Takes 1 f → k = field f.body 0 1 →
    s.permit? k = some p → s.cabinet? p.cabinet = some x →
    ((p.state = .active ∨ p.state = .overdue) →
      exec (.permitRecall f) s = .next { s with
        cabinets := tset s.cabinets p.cabinet (some { x with notice := some { notice := .recall, serial := s.link.nextSerial } })
        link := { s.link with nextSerial := s.link.nextSerial + 1 }
        permits := tset s.permits k (some { p with recallAsked := true })
        store := { s.store with queue := enqueue (permitImage k) s.store.queue }
        port := s.repliedPort f 0x32 .done (permitBody k { p with recallAsked := true }) } ∧
      exec (.permitCancel f) s = .next { s with port := s.repliedPort f 0x33 .wrongState [] }) ∧
    (p.state = .granted →
      exec (.permitCancel f) s = .next
        { ({ s with
              cabinets := tset s.cabinets p.cabinet (some { x with
                notice := some { notice := .withdraw, serial := s.link.nextSerial } })
              link := { s.link with nextSerial := s.link.nextSerial + 1 }
              permits := tset s.permits k none
              store := { s.store with queue := enqueue (permitImage k) s.store.queue } } : State).recompute with
          port := s.repliedPort f 0x33 .done [] } ∧
      exec (.permitRecall f) s = .next { s with port := s.repliedPort f 0x32 .wrongState [] }) ∧
    (p.state = .returning →
      exec (.permitRecall f) s = .next { s with port := s.repliedPort f 0x32 .wrongState [] } ∧
      exec (.permitCancel f) s = .next { s with port := s.repliedPort f 0x33 .wrongState [] })

/-! ## Visits -/

/-- VISIT OPEN fills the lowest free slot with an empty visit; VISIT ADD appends a Pending item to its list. Each checkpoints
the visit and answers with it, and is refused NO ROOM without room (R142 to R144; log entry 15 places the reply's fields). -/
def Obligations.VisitOpenAndAdd : Prop :=
  (∀ (f : RequestFrame) (s : State), s.Takes 4 f →
    (lowestFree s.visits = none → exec (.visitOpen f) s = .next { s with port := s.repliedPort f 0x40 .noRoom [] }) ∧
    (∀ v x, lowestFree s.visits = some v →
      x = { badge := clampNat 1 999999 (field f.body 0 4), opened := s.floor.clock, remaining := s.floor.config.maxVisit
            overtime := false, items := [] } →
      exec (.visitOpen f) s = .next { s with
        visits := tset s.visits v (some x)
        store := { s.store with queue := enqueue (visitImage v) s.store.queue }
        port := s.repliedPort f 0x40 .done (s.visitBody v x) })) ∧
  (∀ (f : RequestFrame) (s : State) (v n : Nat) (k : ItemKind) (x : Visit), s.Takes 3 f → v = field f.body 0 1 →
    s.visit? v = some x → itemKindOfCode (field f.body 1 1) = some k → n = field f.body 2 1 →
    (if k = .inspectCabinet then (s.cabinet? n).isSome = true else ∃ r c, s.string? n = some r ∧ r.cabinet = some c) →
    (12 ≤ x.items.length → exec (.visitAdd f) s = .next { s with port := s.repliedPort f 0x41 .noRoom [] }) ∧
    (x.items.length < 12 →
      (∃ w y it, s.visit? w = some y ∧ it ∈ y.items ∧ it.kind = k ∧ it.target = n ∧ it.state ≠ .done ∧ it.state ≠ .abandoned) →
      exec (.visitAdd f) s = .next { s with port := s.repliedPort f 0x41 .duplicate [] }) ∧
    (x.items.length < 12 →
      (∀ w y it, s.visit? w = some y → it ∈ y.items → it.kind = k → it.target = n → it.state = .done ∨ it.state = .abandoned) →
      exec (.visitAdd f) s = .next { s with
        visits := tset s.visits v (some { x with items :=
          x.items ++ [{ kind := k, target := n, state := .pending, permit := none, result := none }] })
        store := { s.store with queue := enqueue (visitImage v) s.store.queue }
        port := s.repliedPort f 0x41 .done (be1 (x.items.length + 1) ++
          itemBody { kind := k, target := n, state := .pending, permit := none, result := none }) }))

/-- VISIT START of a Pending or Interrupted item makes it In progress, holding the Active or Overdue permit that names the
visit and the item's cabinet where its kind needs one (NO PERMIT without it); a REPLACE STRING makes its target Retiring, owned
by the visit, and recomputes (R54, R145, R146; log entry 15 places the reply's fields, and that the target's image is queued before
the visit's is log entry 38, an inference). The permit found names visit and cabinet and is Active or Overdue, and where none is found
no such permit stands. -/
def Obligations.VisitStartBeginsWork : Prop :=
  ∀ (f : RequestFrame) (s : State) (v n : Nat) (x : Visit) (it : Item), s.Takes 2 f → v = field f.body 0 1 →
    n = field f.body 1 1 → s.itemOf v n = some (x, it) →
    (it.state ≠ .pending → it.state ≠ .interrupted →
      exec (.visitStart f) s = .next { s with port := s.repliedPort f 0x42 .wrongState [] }) ∧
    ((it.state = .pending ∨ it.state = .interrupted) →
      (∀ r c, it.kind = .baseline → s.string? it.target = some r → r.cabinet = some c →
        exec (.visitStart f) s = .next { s with
          visits := tset s.visits v (some { x with items := setItem x.items n { it with state := .inProgress, permit := none } })
          store := { s.store with queue := enqueue (visitImage v) s.store.queue }
          port := s.repliedPort f 0x42 .done (itemBody { it with state := .inProgress, permit := none }) }) ∧
      (∀ c, s.itemCabinet it = some c → it.kind ≠ .baseline → (it.kind = .inspectCabinet → (s.cabinet? c).isSome = true) →
        (s.workPermit v (some c) = none →
          exec (.visitStart f) s = .next { s with port := s.repliedPort f 0x42 .noPermit [] }) ∧
        (∀ k, s.workPermit v (some c) = some k → it.kind ≠ .replaceString →
          exec (.visitStart f) s = .next { s with
            visits := tset s.visits v (some { x with items := setItem x.items n { it with state := .inProgress, permit := some k } })
            store := { s.store with queue := enqueue (visitImage v) s.store.queue }
            port := s.repliedPort f 0x42 .done (itemBody { it with state := .inProgress, permit := some k }) }) ∧
        (∀ k r w, s.workPermit v (some c) = some k → it.kind = .replaceString → s.string? it.target = some r →
          w = ({ s with
              strings := tset s.strings it.target (some { r with state := .retiring, owner := some v })
              attention := if r.state = .retiring then s.attention else raiseStringChanged it.target s.attention
              store := { s.store with queue := enqueue (stringImage it.target) s.store.queue } } : State).recompute →
          exec (.visitStart f) s = .next { w with
            visits := tset s.visits v (some { x with items := setItem x.items n { it with state := .inProgress, permit := some k } })
            store := { w.store with queue := enqueue (visitImage v) w.store.queue }
            port := s.repliedPort f 0x42 .done (itemBody { it with state := .inProgress, permit := some k }) }))) ∧
    (∀ c k, s.workPermit v (some c) = some k →
      ∃ p, s.permit? k = some p ∧ p.cabinet = c ∧ p.visit = some v ∧ (p.state = .active ∨ p.state = .overdue)) ∧
    (∀ c k p, s.workPermit v (some c) = none → s.permit? k = some p → p.cabinet = c → p.visit = some v →
      p.state = .granted ∨ p.state = .returning) ∧
    s.itemCabinet it = (if it.kind = .inspectCabinet then some it.target else (s.string? it.target).bind StringRecord.cabinet)

/-- VISIT FINISH makes an In-progress item Done and hands its result on: none for INSPECT CABINET; a CAPACITY TEST replaces L by
the measured capacity, clears the suspect mark and forms SoH anew; a nonzero BASELINE becomes the record's Rb, and 0 changes no
record; on an Empty profile a CAPACITY TEST changes no record and a BASELINE its Rb alone; STRING STATE CHANGED is raised exactly where
the state changed (R56, R89 to R91, R148, R150; log entry 15 places the reply's fields). -/
def Obligations.VisitFinishHandsOn : Prop :=
  ∀ (f : RequestFrame) (s : State) (v n m : Nat) (x : Visit) (it : Item), s.Takes 7 f → v = field f.body 0 1 →
    n = field f.body 1 1 → m = min (field f.body 3 4) 65535 → s.itemOf v n = some (x, it) →
    (it.state ≠ .inProgress → exec (.visitFinish f) s = .next { s with port := s.repliedPort f 0x43 .wrongState [] }) ∧
    (it.state = .inProgress → it.kind = .inspectCabinet →
      exec (.visitFinish f) s = .next { s with
        visits := tset s.visits v (some { x with items := setItem x.items n { it with state := .done, permit := none, result := none } })
        store := { s.store with queue := enqueue (visitImage v) s.store.queue }
        port := s.repliedPort f 0x43 .done (itemBody { it with state := .done, permit := none, result := none }) }) ∧
    (∀ r p d, it.state = .inProgress → it.kind = .capacityTest → s.string? it.target = some r → s.profile? r.profile = some p →
      d = { it with state := .done, permit := none, result := some { profile := 0, value := m, newSlot := 0 } } →
      ∃ t q, exec (.visitFinish f) s = .next t ∧ t.port = s.repliedPort f 0x43 .done (itemBody d) ∧
        t.visits = tset s.visits v (some { x with items := setItem x.items n d }) ∧
        t.strings = tset s.strings it.target (some q) ∧
        q = { r with
          life := (1000 - min (m * 100 / p.capacity) 1000) * 1000000
          suspect := false
          lifeIndicator := min (m * 100 / p.capacity) 1000
          soh := min (min (m * 100 / p.capacity) 1000) r.resistanceIndicator
          state := if r.state = .retiring ∨ r.state = .retired then r.state
            else derivedState (some p) false (min (min (m * 100 / p.capacity) 1000) r.resistanceIndicator) } ∧
        t.attention.stringStateChanged = (if q.state = r.state then s.attention.stringStateChanged
          else s.attention.stringStateChanged ||| markOf 64 it.target) ∧
        { t.attention with
          stringStateChanged := s.attention.stringStateChanged, marginShort := s.attention.marginShort } = s.attention ∧
        (∀ id, id ∈ t.store.queue ↔ id ∈ s.store.queue ∨ id = stringImage it.target ∨ id = visitImage v) ∧
        t.store.images = s.store.images ∧ t.store.writer = s.store.writer ∧
        t.groups = (numbers 4).map (t.figures none) ∧
        t.cabinets = s.cabinets ∧ t.profiles = s.profiles ∧ t.permits = s.permits ∧ t.ask = s.ask ∧ t.floor = s.floor ∧
        t.link = s.link) ∧
    (∀ r p d, it.state = .inProgress → it.kind = .baseline → s.string? it.target = some r → s.profile? r.profile = some p →
      d = { it with state := .done, permit := none, result := some { profile := 0, value := m, newSlot := 0 } } →
      ∃ t q, exec (.visitFinish f) s = .next t ∧ t.port = s.repliedPort f 0x43 .done (itemBody d) ∧
        t.visits = tset s.visits v (some { x with items := setItem x.items n d }) ∧
        t.string? it.target = some q ∧ (∀ k, k ≠ it.target → t.string? k = s.string? k) ∧
        (m = 0 → q = r) ∧
        (m ≠ 0 → q.rb = some m ∧ q.resistanceIndicator = resistanceIndicatorOf p (some m) r.r ∧
          q.soh = min (lifeIndicatorOf r.life) q.resistanceIndicator ∧ q.life = r.life ∧ q.r = r.r ∧
          q = { r with
            rb := some m, resistanceIndicator := q.resistanceIndicator, lifeIndicator := lifeIndicatorOf r.life, soh := q.soh
            state := if r.state = .retiring ∨ r.state = .retired then r.state else derivedState (some p) r.suspect q.soh }) ∧
        t.attention.stringStateChanged = (if q.state = r.state then s.attention.stringStateChanged
          else s.attention.stringStateChanged ||| markOf 64 it.target) ∧
        { t.attention with
          stringStateChanged := s.attention.stringStateChanged, marginShort := s.attention.marginShort } = s.attention ∧
        (∀ id, id ∈ t.store.queue ↔ id ∈ s.store.queue ∨ id = visitImage v ∨ (m ≠ 0 ∧ id = stringImage it.target)) ∧
        t.store.images = s.store.images ∧ t.store.writer = s.store.writer ∧ t.groups = (numbers 4).map (t.figures none) ∧
        t.cabinets = s.cabinets ∧ t.profiles = s.profiles ∧ t.permits = s.permits ∧ t.ask = s.ask ∧ t.floor = s.floor ∧
        t.link = s.link) ∧
    (∀ r d, it.state = .inProgress → (it.kind = .capacityTest ∨ it.kind = .baseline) → s.string? it.target = some r →
      s.profile? r.profile = none →
      d = { it with state := .done, permit := none, result := some { profile := 0, value := m, newSlot := 0 } } →
      ∃ t, exec (.visitFinish f) s = .next t ∧ t.port = s.repliedPort f 0x43 .done (itemBody d) ∧
        t.visits = tset s.visits v (some { x with items := setItem x.items n d }) ∧
        t.strings = (if it.kind = .baseline ∧ m ≠ 0 then tset s.strings it.target (some { r with rb := some m }) else s.strings) ∧
        (∀ id, id ∈ t.store.queue ↔ id ∈ s.store.queue ∨ id = visitImage v ∨
          (it.kind = .baseline ∧ m ≠ 0 ∧ id = stringImage it.target)) ∧
        { t.attention with marginShort := s.attention.marginShort } = s.attention ∧
        t.store.images = s.store.images ∧ t.store.writer = s.store.writer ∧ t.groups = (numbers 4).map (t.figures none) ∧
        t.cabinets = s.cabinets ∧ t.profiles = s.profiles ∧ t.permits = s.permits ∧ t.ask = s.ask ∧ t.floor = s.floor ∧
        t.link = s.link)

/-- VISIT FINISH of a REPLACE STRING retires the target (event closed with its cycle step, cabinet none, owner kept), commissions a new
record at its cabinet and position in the lowest free slot, makes the item Done with the new slot, raises both slots and no other
cause but MARGIN SHORT, checkpoints both and the visit, and recomputes after both (R55, R56, R58, R68, R71, R149; log entry 15 places the reply's fields). -/
def Obligations.VisitFinishReplacesTheString : Prop :=
  ∀ (f : RequestFrame) (s : State) (v n m k c : Nat) (x : Visit) (it d : Item) (old : StringRecord) (p : Profile),
    s.Takes 7 f → v = field f.body 0 1 → n = field f.body 1 1 → m = min (field f.body 3 4) 65535 →
    s.itemOf v n = some (x, it) → it.state = .inProgress → it.kind = .replaceString →
    s.profile? (field f.body 2 1) = some p → p.InRange → s.otherInProgress it.target = false →
    lowestFree s.strings = some k → s.string? it.target = some old → old.cabinet = some c → old.state ≠ .retired →
    d = { it with
      state := .done, permit := none, result := some { profile := field f.body 2 1, value := m, newSlot := k } } →
    ∃ t q, exec (.visitFinish f) s = .next t ∧ t.port = s.repliedPort f 0x43 .done (itemBody d) ∧
      t.visits = tset s.visits v (some { x with items := setItem x.items n d }) ∧
      t.string? it.target = some q ∧ q.state = .retired ∧ q.cabinet = none ∧ q.event = none ∧ q.owner = old.owner ∧
      q.position = old.position ∧ q.profile = old.profile ∧ q.rb = old.rb ∧ q.r = old.r ∧
      (old.event = none ∨ s.profile? old.profile = none → q.life = old.life ∧ q.soh = old.soh) ∧
      (∀ e po c1, old.event = some e → s.profile? old.profile = some po → c1 = min (e.charge * 100 / po.capacity) 1000 →
        q.life = min (old.life + 1000000000 / po.cycles * c1 *
          (if c1 ≤ 200 then po.w1 else if c1 ≤ 500 then po.w2 else if c1 ≤ 800 then po.w3 else po.w4) / 256000) 1500000000 ∧
        q.lifeIndicator = 1000 - q.life / 1000000 ∧ q.soh = min q.lifeIndicator old.resistanceIndicator) ∧
      t.string? k = some
        { cabinet := some c, position := old.position, profile := field f.body 2 1, day := x.opened.toNat / 86400 % 65536,
          rb := if m = 0 then none else some m, r := 0, voltage := 0, current := 0, temperature := p.assumed, life := 0, m := 0, s := 0, bucket := 0, event := none,
          soh := 1000, resistanceIndicator := 1000, lifeIndicator := 1000, suspect := false, state := .good, sinceR := 0,
          owner := none } ∧
      (∀ j, j ≠ k → j ≠ it.target → t.string? j = s.string? j) ∧
      t.attention.stringStateChanged = s.attention.stringStateChanged ||| markOf 64 it.target ||| markOf 64 k ∧
      { t.attention with
        stringStateChanged := s.attention.stringStateChanged, marginShort := s.attention.marginShort } = s.attention ∧
      (∀ id, id ∈ t.store.queue ↔
        id ∈ s.store.queue ∨ id = stringImage it.target ∨ id = stringImage k ∨ id = visitImage v) ∧
      t.store.images = s.store.images ∧ t.store.writer = s.store.writer ∧
      t.groups = (numbers 4).map (t.figures none) ∧
      t.cabinets = s.cabinets ∧ t.profiles = s.profiles ∧ t.permits = s.permits ∧ t.ask = s.ask ∧ t.floor = s.floor ∧
      t.link = s.link

/-- VISIT ABANDON makes an item that is neither Done nor Abandoned Abandoned; an In-progress REPLACE STRING returns its target from
Retiring to its derived state, removes its owner and raises STRING STATE CHANGED; no permit changes and no other cause but MARGIN
SHORT (R54, R56, R152; log entry 15 places the reply's fields). -/
def Obligations.VisitAbandonReleases : Prop :=
  ∀ (f : RequestFrame) (s : State) (v n : Nat) (x : Visit) (it d : Item), s.Takes 2 f → v = field f.body 0 1 →
    n = field f.body 1 1 → s.itemOf v n = some (x, it) → d = { it with state := .abandoned, permit := none, result := none } →
    ((it.state = .done ∨ it.state = .abandoned) →
      exec (.visitAbandon f) s = .next { s with port := s.repliedPort f 0x44 .wrongState [] }) ∧
    (it.state ≠ .done → it.state ≠ .abandoned →
      ∃ t, exec (.visitAbandon f) s = .next t ∧ t.port = s.repliedPort f 0x44 .done (itemBody d) ∧
        t.visits = tset s.visits v (some { x with items := setItem x.items n d }) ∧
        { t.attention with
          stringStateChanged := s.attention.stringStateChanged, marginShort := s.attention.marginShort } = s.attention ∧
        t.store.images = s.store.images ∧ t.store.writer = s.store.writer ∧
        (¬(it.state = .inProgress ∧ it.kind = .replaceString) →
          t.strings = s.strings ∧ t.attention.stringStateChanged = s.attention.stringStateChanged ∧
          (∀ id, id ∈ t.store.queue ↔ id ∈ s.store.queue ∨ id = visitImage v)) ∧
        (∀ r, it.state = .inProgress → it.kind = .replaceString → s.string? it.target = some r → r.state = .retiring →
          t.strings = tset s.strings it.target (some { r with
            state := derivedState (s.profile? r.profile) r.suspect r.soh, owner := none }) ∧
          (∀ id, id ∈ t.store.queue ↔ id ∈ s.store.queue ∨ id = stringImage it.target ∨ id = visitImage v) ∧
          t.attention.stringStateChanged = s.attention.stringStateChanged ||| markOf 64 it.target) ∧
        t.groups = (numbers 4).map (t.figures none) ∧
        t.cabinets = s.cabinets ∧ t.profiles = s.profiles ∧ t.permits = s.permits ∧ t.ask = s.ask ∧ t.floor = s.floor ∧
        t.link = s.link)

/-- VISIT CLOSE is refused while an item is In progress or a permit of the visit is not Granted; else the visit's permits close with
WITHDRAW and no cause, the Retired records it owns are freed, Pending and Interrupted items of other visits on those slots become
Abandoned, every other item stays, and the reply carries the count of permits and the slots freed (R126, R136, R156, R157; log entry 31 orders the slots in
the reply, and log entry 15 gives their one count byte). -/
def Obligations.VisitCloseFrees : Prop :=
  ∀ (f : RequestFrame) (s : State) (v : Nat) (x : Visit), s.Sized → s.Takes 1 f → v = field f.body 0 1 →
    s.visit? v = some x →
    (((∃ it ∈ x.items, it.state = .inProgress) ∨ (∃ k p, s.permit? k = some p ∧ p.visit = some v ∧ p.state ≠ .granted)) →
      exec (.visitClose f) s = .next { s with port := s.repliedPort f 0x45 .wrongState [] }) ∧
    ((∀ it ∈ x.items, it.state ≠ .inProgress) → (∀ k p, s.permit? k = some p → p.visit = some v → p.state = .granted) →
      ∃ t, exec (.visitClose f) s = .next t ∧
        t.port = s.repliedPort f 0x45 .done
          (be1 (s.permitsOfVisit v).length ++ be1 (s.retiredOf v).length ++ (s.retiredOf v).flatMap be1) ∧
        t.visit? v = none ∧
        (∀ w, w ≠ v → t.visit? w = (s.visit? w).map (fun y =>
          { y with items := y.items.map (fun it =>
              if it.kind ≠ .inspectCabinet ∧ it.target ∈ s.retiredOf v ∧ (it.state = .pending ∨ it.state = .interrupted) then
                { it with state := .abandoned, permit := none, result := none }
              else it) })) ∧
        (∀ k, t.permit? k = (s.permit? k).bind (fun p => if p.visit = some v then none else some p)) ∧
        (∀ k, t.string? k = (s.string? k).bind (fun r => if r.state = .retired ∧ r.owner = some v then none else some r)) ∧
        (s.retiredOf v).Pairwise (· < ·) ∧ ((s.permitsOfVisit v).map Prod.fst).Pairwise (· < ·) ∧
        (∀ k p, (k, p) ∈ s.permitsOfVisit v ↔ s.permit? k = some p ∧ p.visit = some v) ∧
        (∀ k, k ∈ s.retiredOf v ↔ ∃ r, s.string? k = some r ∧ r.state = .retired ∧ r.owner = some v) ∧
        (∀ id, id ∈ t.store.queue ↔ id ∈ s.store.queue ∨ id = visitImage v ∨ (∃ k ∈ s.retiredOf v, id = stringImage k) ∨
          (∃ k p, s.permit? k = some p ∧ p.visit = some v ∧ id = permitImage k) ∨
          (∃ w y it, w ≠ v ∧ s.visit? w = some y ∧ it ∈ y.items ∧ it.kind ≠ .inspectCabinet ∧ it.target ∈ s.retiredOf v ∧
            (it.state = .pending ∨ it.state = .interrupted) ∧ id = visitImage w)) ∧
        (∀ i, i < 64 → t.attention.stringStateChanged.getLsbD i =
          (s.attention.stringStateChanged.getLsbD i || decide (i + 1 ∈ s.retiredOf v))) ∧
        { t.attention with
          stringStateChanged := s.attention.stringStateChanged, marginShort := s.attention.marginShort } = s.attention ∧
        t.groups = (numbers 4).map (t.figures none) ∧
        (∀ k p y, s.permit? k = some p → p.visit = some v → s.cabinet? p.cabinet = some y →
          ∃ serial, s.link.nextSerial ≤ serial ∧
            t.cabinet? p.cabinet = some { y with notice := some { notice := .withdraw, serial := serial } }) ∧
        (∀ c, (∀ k p, s.permit? k = some p → p.visit = some v → p.cabinet ≠ c) → t.cabinet? c = s.cabinet? c) ∧
        { t.link with nextSerial := s.link.nextSerial } = s.link ∧
        t.profiles = s.profiles ∧ t.ask = s.ask ∧ t.floor = s.floor ∧ t.store.images = s.store.images ∧
        t.store.writer = s.store.writer)

/-! ## Frames that are no request -/

/-- A status peek or a disregarded frame changes only what a frame leaves (that zeros follow the status byte in a disregarded frame is
log entry 40, the model's choice); the assertion of chip-select captures the status
byte, whose eight bits show the port's state, the urgent slot, the flags and ATTN, and the frame that shifts it out sets the
overrun-seen mark where it shows OVERRUN (R176, R177, R180). ATTN is asserted exactly while the part runs and a present cause is
enabled in the mask (R187). URGENT CANCEL removes the order
that the slot holds and sets URGENT DROPPED, or sets URGENT LATE on an empty slot; the other flag stays (R185). PORT RESET empties
buffers, urgent slot and flags and goes to Idle, except in Starting; in Working it abandons the ask; no record, cause or configuration
changes (R117, R189). Without power and while RESET is held no frame is taken and SDO shifts out zeros, one for each byte (R190). -/
def Obligations.FramesThatAreNoRequest : Prop :=
  (∀ (b : Byte) (s : State), s.phase = .running → exec (.statusPeek b) s = .next { s with port := s.framedPort 1 [] }) ∧
  (∀ (b : Byte) (rest : List Byte) (s : State), s.phase = .running →
    exec (.disregardedFrame b rest) s = .next { s with port := s.framedPort (1 + rest.length) [] }) ∧
  (∀ s : State, s.phase = .running →
    exec .chipSelectAssertion s = .next { s with port := { s.port with frame := some s.statusByte } }) ∧
  (∀ (b status : Byte) (s : State), s.phase = .running → s.port.frame = some status →
    exec (.statusPeek b) s = .next { s with port :=
      { s.port with
        overrunSeen := s.port.overrunSeen || status.getLsbD 1, frame := none, request := [], sdo := [status] } }) ∧
  (∀ s : State,
    s.statusByte.getLsbD 7 = (s.port.state == .replyReady) ∧ s.statusByte.getLsbD 6 = (s.port.state == .working) ∧
    s.statusByte.getLsbD 5 = (s.port.state == .starting) ∧ s.statusByte.getLsbD 4 = s.port.urgent.isSome ∧
    s.statusByte.getLsbD 3 = s.port.late ∧ s.statusByte.getLsbD 2 = s.port.dropped ∧
    s.statusByte.getLsbD 1 = s.port.overrun ∧ s.statusByte.getLsbD 0 = s.attn) ∧
  (∀ (s : State) (a : Attention) (m : BitVec 12), a = s.attention → m = s.floor.config.mask →
    (s.attn = true ↔ s.phase = .running ∧
      ((m.getLsbD 0 = true ∧ a.utilityChange ≠ none) ∨ (m.getLsbD 1 = true ∧ a.marginShort ≠ 0) ∨
        (m.getLsbD 2 = true ∧ a.unauthorisedBypass ≠ 0) ∨ (m.getLsbD 3 = true ∧ a.permitOverdue ≠ 0) ∨
        (m.getLsbD 4 = true ∧ a.permitChanged ≠ 0) ∨ (m.getLsbD 5 = true ∧ a.cabinetLost ≠ 0) ∨
        (m.getLsbD 6 = true ∧ a.cabinetBack ≠ 0) ∨ (m.getLsbD 7 = true ∧ a.visitItemInterrupted ≠ 0) ∨
        (m.getLsbD 8 = true ∧ a.visitOvertime ≠ 0) ∨ (m.getLsbD 9 = true ∧ a.stringStateChanged ≠ 0) ∨
        (m.getLsbD 10 = true ∧ a.storeFault = true) ∨ (m.getLsbD 11 = true ∧ a.start ≠ none)))) ∧
  (∀ (rest : List Byte) (o : Order) (s : State), s.phase = .running → s.port.urgent = some o →
    ∃ t, exec (.urgentCancel rest) s = .next t ∧ t.statusByte.getLsbD 4 = false ∧ t.statusByte.getLsbD 2 = true ∧
      t = { s with port := { s.framedPort (1 + rest.length) [] with urgent := none, dropped := true } }) ∧
  (∀ (rest : List Byte) (s : State), s.phase = .running → s.port.urgent = none →
    ∃ t, exec (.urgentCancel rest) s = .next t ∧ t.statusByte.getLsbD 3 = true ∧
      t = { s with port := { s.framedPort (1 + rest.length) [] with late := true } }) ∧
  (∀ (rest : List Byte) (s : State), s.phase = .running →
    exec (.portReset rest) s = .next { s with
      ask := if s.port.state = .working then none else s.ask
      port := { s.framedPort (1 + rest.length) [] with
        state := if s.port.state = .starting then .starting else .idle
        reply := none, request := [], urgent := none, late := false, dropped := false, overrun := false, overrunSeen := false } }) ∧
  (∀ (i : Instr) (bs : List Byte) (s : State), encodeFrame i = some bs → s.phase ≠ .running →
    exec i s = .next { s with port := { s.port with frame := none, sdo := List.replicate bs.length 0 } })

/-- FETCH in ReplyReady shifts out the whole reply and then zeros, and empties the buffer and goes to Idle exactly when every
byte was clocked out; elsewhere it shifts out the NOT READY marker and changes nothing (R181, R191; that the bytes are those of one moment is log entry
7, the model's choice). -/
def Obligations.FetchGivesTheReply : Prop :=
  (∀ (rest : List Byte) (r : Reply) (s : State), s.phase = .running → s.port.state = .replyReady → s.port.reply = some r →
    exec (.fetch rest) s = .next { s with
      port :=
        if 3 + r.body.length ≤ rest.length then
        { s.framedPort (1 + rest.length) (r.code :: r.result :: BitVec.ofNat 8 r.body.length :: r.body) with
          reply := none, state := .idle }
      else s.framedPort (1 + rest.length) (r.code :: r.result :: BitVec.ofNat 8 r.body.length :: r.body) }) ∧
  (∀ (rest : List Byte) (s : State), s.phase = .running → s.port.state ≠ .replyReady →
    exec (.fetch rest) s = .next { s with port := s.framedPort (1 + rest.length) [0xFF] })

/-- URGENT places its order in any port state, replacing what the slot held, sets PENDING and clears LATE and DROPPED; an order
byte that names none is disregarded; the request path stays as it was (R183). -/
def Obligations.UrgentPlacesItsOrder : Prop :=
  ∀ (b : Byte) (rest : List Byte) (s : State), s.phase = .running →
    (∀ o : Order, (b = 1 ∧ o = .hold) ∨ (b = 2 ∧ o = .release) ∨ (b = 3 ∧ o = .recallAll) →
      ∃ t, exec (.urgent b rest) s = .next t ∧ t.statusByte.getLsbD 4 = true ∧
        t = { s with port :=
          { s.framedPort (2 + rest.length) [] with urgent := some o, late := false, dropped := false } }) ∧
    (b ≠ 1 → b ≠ 2 → b ≠ 3 → exec (.urgent b rest) s = .next { s with port := s.framedPort (2 + rest.length) [] })

/-! ## The cabinet link -/

/-- A poll slot takes the next cabinet of the cycle, which it begins where no cabinet is left: the counter goes on, Lost
cabinets join at 0, SYNC goes to Unsynced and Lost cabinets, and the three characters carry the toggle, the notice and the pulse
set; LINK DIR is at transmit for the 33 bit times of the message and LINK TX carries its bits (R20, R21, R23, R26, R28, R44, R195). -/
def Obligations.PollSlotFormsThePoll : Prop :=
  ∀ (first : Bool) (s : State) (n c : Nat) (rest : List Nat) (x : Cabinet) (ctl : Byte), s.operating = true →
    s.link.flight = none → s.link.breakDue = false → s.port.urgent = none →
    ((s.link.remaining = c :: rest ∧ n = s.link.counter) ∨
      (s.link.remaining = [] ∧ n = (s.link.counter + 1) % 8 ∧
        ((entries s.cabinets).filter (fun e => e.2.link != .lost || n == 0)).map (fun e => e.1) = c :: rest)) →
    s.cabinet? c = some x →
    ctl = BitVec.ofNat 8
      ((if x.ack then 1 else 0) + (if x.link = .unsynced ∨ x.link = .lost then 2 else 0) +
        4 * (match x.notice.map Posting.notice with
          | none => 0
          | some .grant => 1
          | some .withdraw => 2
          | some .recall => 3) +
        16 * (if x.mode = .inverter ∧ s.floor.utility = .present then x.pulse.toNat else 0)) →
    ∃ t, exec (.pollSlot first) s = .next t ∧ (∀ bit, t.linkDir bit = decide (bit < 33)) ∧
      (∀ bit, 33 ≤ bit → t.linkTx bit = true) ∧ t.linkTx 0 = false ∧
      (∀ i, i < 8 → t.linkTx (1 + i) = (BitVec.ofNat 8 c).getLsbD i) ∧ t.linkTx 9 = true ∧ t.linkTx 10 = true ∧
      (∀ i, i < 8 → t.linkTx (12 + i) = ctl.getLsbD i) ∧ t.linkTx 20 = false ∧ t = { s with
        cabinets := tset s.cabinets c (some (if x.link = .unsynced ∨ x.link = .lost then { x with expected := false } else x))
        link := { s.link with
          counter := n, remaining := rest
          flight := some
            { cabinet := c, sync := decide (x.link = .unsynced ∨ x.link = .lost), posting := x.notice, live := true
              afterAsk := true }
          line := .poll [{ mark := true, data := BitVec.ofNat 8 c }, { mark := false, data := ctl },
            { mark := false, data := ~~~(BitVec.ofNat 8 c + ctl) }] } }

/-- A break slot puts a break on the line for 24 bit times and an idle slot nothing; neither changes a cabinet. Every slot start takes
the order that waits, a poll slot before or after it forms its poll: HOLD sets the flag and ends a waiting ask, RELEASE clears it,
RECALL ALL closes every Granted permit with WITHDRAW and PERMIT CHANGED, posts RECALL for every Active or Overdue one, marks it
recalled and checkpoints it, and recomputes (R7, R20, R24 to R26, R126, R132, R133, R184). The model's choices: a poll slot that is not
due changes nothing (log entries 2 and 3), and which of order and poll comes first is the operand (log entry 4). -/
def Obligations.SlotStartTakesTheOrder : Prop :=
  (∀ s w : State, s.operating = true → s.link.flight = none → s.link.breakDue = true →
    w = { s with link := { s.link with breakDue := false, line := .linkBreak } } →
    exec .breakSlot s = .next w.takeUrgent ∧
    (∀ bit, w.linkDir bit = decide (bit < 24) ∧ w.linkTx bit = !decide (bit < 24))) ∧
  (∀ s : State, s.operating = true → s.link.flight = none → s.link.breakDue = false →
    s.link.remaining = [] → (∀ c x, s.cabinet? c = some x → x.link = .lost ∧ (s.link.counter + 1) % 8 ≠ 0) →
    exec .idleSlot s = .next
      ({ s with link := { s.link with counter := (s.link.counter + 1) % 8, line := .quiet } } : State).takeUrgent) ∧
  (∀ s : State, exec (.pollSlot true) s =
    (if s.pollDue = true then exec (.pollSlot true) s.takeUrgent else .next s)) ∧
  (∀ s t : State, s.pollDue = true →
    exec (.pollSlot false) { s with port := { s.port with urgent := none } } = .next t →
    exec (.pollSlot false) s = .next ({ t with port := s.port } : State).takeUrgent) ∧
  (∀ s : State, s.port.urgent = none → s.takeUrgent = s) ∧
  (∀ s : State, s.port.urgent = some .release →
    s.takeUrgent = { s with port := { s.port with urgent := none }, floor := { s.floor with hold := false } }) ∧
  (∀ s : State, s.port.urgent = some .hold →
    s.takeUrgent = { s with
      floor := { s.floor with hold := true }
      ask := none
      port := if s.ask.isSome then
          { s.port with
            urgent := none, state := .replyReady, reply := some { code := 0x30, result := 0x06, body := [] } }
        else { s.port with urgent := none } }) ∧
  (∀ s t : State, s.Sized → s.port.urgent = some .recallAll → t = s.takeUrgent →
      t.port = { s.port with urgent := none } ∧ t.floor = s.floor ∧ t.ask = s.ask ∧
      (∀ k, t.permit? k = (s.permit? k).bind (fun p =>
        match p.state with
        | .granted => none
        | .active => some { p with recallAsked := true }
        | .overdue => some { p with recallAsked := true }
        | .returning => some p)) ∧
      (∀ k p x, s.permit? k = some p → p.state ≠ .returning → s.cabinet? p.cabinet = some x →
        (∀ j q, s.permit? j = some q → q.cabinet = p.cabinet → j = k) →
        ∃ serial, s.link.nextSerial ≤ serial ∧
          t.cabinet? p.cabinet = some { x with
            notice := some { notice := if p.state = .granted then .withdraw else .recall, serial := serial } }) ∧
      (∀ c, (∀ k p, s.permit? k = some p → p.state ≠ .returning → p.cabinet ≠ c) → t.cabinet? c = s.cabinet? c) ∧
      (∀ id, id ∈ t.store.queue ↔ id ∈ s.store.queue ∨
        ∃ k p, s.permit? k = some p ∧ p.state ≠ .returning ∧ id = permitImage k) ∧
      (∀ i, i < 8 → t.attention.permitChanged.getLsbD i = (s.attention.permitChanged.getLsbD i || s.isGranted (i + 1))) ∧
      { t.attention with permitChanged := s.attention.permitChanged, marginShort := s.attention.marginShort } = s.attention ∧
      t.groups = (numbers 4).map (t.figures none) ∧
      { t.link with nextSerial := s.link.nextSerial } = s.link ∧
      t.strings = s.strings ∧ t.visits = s.visits ∧ t.profiles = s.profiles ∧ t.store.images = s.store.images ∧
      t.store.writer = s.store.writer)

/-- A poll that fails, for want of a reply, of its end in time, or of soundness, adds one cumulative error and one to the run
count (the sixth makes a break slot due), and moves the link state by R33; the third in a row raises CABINET LOST, recomputes, and
takes the cabinet out of the wait of an ask, which is judged if no other is left; a poll whose cabinet was dropped ends with its window
alone (R24, R27, R29 to R31, R33, R34, R115). -/
def Obligations.FailedPollCounts : Prop :=
  (∀ (i : Instr) (s : State) (fl : Flight) (x y : Cabinet) (l : Link),
    (i = .noReply ∨ i = .noReplyInTime ∨
      ∃ chars, i = .replyEnd chars ∧ judgeReply fl.cabinet (chars.map receive) = .failed) →
    s.link.flight = some fl → fl.live = true → s.cabinet? fl.cabinet = some x →
    y = { x with
      errors := min (x.errors + 1) 255
      link := match x.link with
        | .unsynced => .unsynced
        | .online => .silent
        | .silent => if 3 ≤ x.failures + 1 then .lost else .silent
        | .lost => .lost
      failures := match x.link with
        | .unsynced => 0
        | .online => 1
        | .silent => if 3 ≤ x.failures + 1 then 3 else x.failures + 1
        | .lost => 3 } →
    l = { s.link with
      flight := none
      line := .quiet
      failureRun := if 5 ≤ s.link.failureRun then 0 else s.link.failureRun + 1
      breakDue := s.link.breakDue || decide (5 ≤ s.link.failureRun) } →
    (¬(x.link = .silent ∧ 2 ≤ x.failures) →
      exec i s = .next { s with cabinets := tset s.cabinets fl.cabinet (some y), link := l }) ∧
    (∀ w, x.link = .silent → 2 ≤ x.failures →
      w = ({ s with
        cabinets := tset s.cabinets fl.cabinet (some y), link := l
        attention := raiseCabinetLost fl.cabinet s.attention } : State).recompute →
      (s.ask = none → exec i s = .next w) ∧
      (∀ a, s.ask = some a →
        exec i s = exec .askWaitEnd { w with
          ask := some { a with waitSet := a.waitSet.filter (fun n => n != fl.cabinet) } }))) ∧
  (∀ (i : Instr) (s : State) (fl : Flight), (i = .noReply ∨ i = .noReplyInTime ∨ ∃ chars, i = .replyEnd chars) →
    s.link.flight = some fl → (fl.live = false ∨ s.cabinet? fl.cabinet = none) →
    exec i s = .next { s with link := { s.link with flight := none, line := .quiet } })

/-- A character's bits are the majorities of their samples, least significant first; a stop bit at space is a framing error, and three
samples of a bit that differ are noise (R21, R22). A reply with a framing, noise or mark error in any character, a wrong address, a code
of 0, a wrong length for its code or a wrong check value is judged failed; a sound one is judged by its code (R22, R23, R30). A report's
fields stand at R193's places, low character first, and its mode character names a mode by R194 (R13, R36). -/
def Obligations.UnsoundRepliesFail : Prop :=
  (∀ (c : RawChar) (two : Sample → Bool),
    (∀ x, two x = true ↔ (x.first = true ∧ x.second = true) ∨ (x.first = true ∧ x.third = true) ∨
      (x.second = true ∧ x.third = true)) →
    (∀ i x, [c.d0, c.d1, c.d2, c.d3, c.d4, c.d5, c.d6, c.d7][i]? = some x → (receive c).data.getLsbD i = two x) ∧
    (receive c).mark = two c.mark ∧ ((receive c).framing = true ↔ two c.stop = false) ∧
    ((receive c).noise = false ↔
      ∀ x ∈ [c.start, c.d0, c.d1, c.d2, c.d3, c.d4, c.d5, c.d6, c.d7, c.mark, c.stop], x.first = x.second ∧ x.second = x.third)) ∧
  (∀ (halted : Bool) (data : List Byte) (rep : Report), data.length = 46 → rep = reportOf halted data →
    rep.halted = halted ∧
    (∀ a, data[1]? = some a → rep.toggle = a.getLsbD 2 ∧ rep.noticeTaken = a.getLsbD 3) ∧
    (∀ a, data[2]? = some a → rep.mode = a.toNat) ∧
    (∀ low high, data[3]? = some low → data[4]? = some high → rep.load = low.toNat + 256 * high.toNat) ∧
    (∀ (p : Nat) (v : Nat → Nat), 1 ≤ p → p ≤ 4 →
      (∀ j low high, j < 5 → data[5 + 10 * (p - 1) + 2 * j]? = some low → data[6 + 10 * (p - 1) + 2 * j]? = some high →
        v j = low.toNat + 256 * high.toNat) →
      rep.block p =
        { voltage := v 0, current := if v 1 < 32768 then (v 1 : Int) else (v 1 : Int) - 65536
          temperature := if v 2 < 32768 then (v 2 : Int) else (v 2 : Int) - 65536, delta := v 3, resistance := v 4 })) ∧
  (∀ n : Nat, modeOfCode n =
    (if n = 1 then .inverter else if n = 2 then .battery else if n = 3 then .staticBypass
    else if n = 4 then .maintenanceBypass else if n = 5 then .off else .faulted)) ∧
  (∀ (c : Nat) (cs : List RxChar),
    ((∃ d ∈ cs, d.framing = true ∨ d.noise = true) ∨ (∃ d ∈ cs.tail, d.mark = true) ∨
      (∀ d, cs.head? = some d → d.mark = false ∨ d.data ≠ BitVec.ofNat 8 c) ∨
      (cs.length ≠ 6 ∧ cs.length ≠ 46) ∨
      (∀ d, (cs.map RxChar.data)[1]? = some d → d.toNat % 4 = 0 ∨ (d.toNat % 4 = 2 ∧ cs.length ≠ 6) ∨
        ((d.toNat % 4 = 1 ∨ d.toNat % 4 = 3) ∧ cs.length ≠ 46)) ∨
      (∀ d, (cs.map RxChar.data).getLast? = some d → d ≠ ~~~((cs.map RxChar.data).dropLast.foldl (· + ·) 0))) →
    judgeReply c cs = .failed) ∧
  (∀ (c : Nat) (a code : RxChar) (rest : List RxChar),
    a.mark = true → a.data = BitVec.ofNat 8 c → (∀ d ∈ a :: code :: rest, d.framing = false ∧ d.noise = false) →
    (∀ d ∈ code :: rest, d.mark = false) →
    (((a :: code :: rest).map RxChar.data).getLast? =
      some (~~~(((a :: code :: rest).map RxChar.data).dropLast.foldl (· + ·) 0))) →
    (code.data.toNat % 4 = 2 → rest.length = 4 → judgeReply c (a :: code :: rest) = .busy) ∧
    (code.data.toNat % 4 = 1 → rest.length = 44 →
      judgeReply c (a :: code :: rest) = .report (reportOf false ((a :: code :: rest).map RxChar.data))) ∧
    (code.data.toNat % 4 = 3 → rest.length = 44 →
      judgeReply c (a :: code :: rest) = .report (reportOf true ((a :: code :: rest).map RxChar.data))))

/-- A BUSY reply is good contact with no data: it moves the link state by R35's table, returns the run count to 0, takes the
cabinet out of the wait of an ask taken before the poll was formed, which is then judged if no other is left, and changes nothing else
(R32, R35, R115). -/
def Obligations.BusyReplyIsGoodContact : Prop :=
  ∀ (chars : List RawChar) (s w : State) (fl : Flight) (x y : Cabinet),
    s.link.flight = some fl → fl.live = true → s.cabinet? fl.cabinet = some x →
    judgeReply fl.cabinet (chars.map receive) = .busy →
    y = { x with
      link := match x.link with
        | .unsynced => .unsynced
        | .online => .online
        | .silent => .online
        | .lost => .lost
      failures := if x.link = .lost then 3 else 0 } →
    w = { s with
      cabinets := tset s.cabinets fl.cabinet (some y)
      link := { s.link with flight := none, line := .quiet, failureRun := 0 } } →
    ((s.ask = none ∨ fl.afterAsk = false) → exec (.replyEnd chars) s = .next w) ∧
    (∀ a b, s.ask = some a → fl.afterAsk = true →
      b = { a with waitSet := a.waitSet.filter (fun n => n != fl.cabinet) } →
      ((∃ n ∈ a.waitSet, n ≠ fl.cabinet) → exec (.replyEnd chars) s = .next { w with ask := some b }) ∧
      exec (.replyEnd chars) s = exec .askWaitEnd { w with ask := some b })

/-- An accepted report from a cabinet that no permit names: the entry takes mode, load and age 0, comes Online with its toggles and
its notice and pulse set settled, each attached record takes its block in the order of R62 with its cause and its checkpoint, CABINET
BACK is raised for a Lost cabinet, a MaintenanceBypass is flagged as unauthorised, and the groups are recomputed; `w` is the state
before the waiting ask is looked at, which the mode of its cabinet ends WRONG STATE and which else loses the cabinet from its wait set
(R13, R33, R36, R38, R41, R44, R56, R62, R71, R115, R116, R134, R135). -/
def Obligations.AcceptedReportIsTaken : Prop :=
  ∀ (chars : List RawChar) (s : State) (fl : Flight) (x : Cabinet) (rep : Report) (m : Mode),
    s.Sized → s.link.flight = some fl → fl.live = true → s.cabinet? fl.cabinet = some x →
    judgeReply fl.cabinet (chars.map receive) = .report rep → s.permitOf fl.cabinet = none →
    m = (if rep.halted then .faulted else modeOfCode rep.mode) →
    ∃ w : State,
      (s.ask = none → exec (.replyEnd chars) s = .next w) ∧
      (∀ a, s.ask = some a →
        (a.cabinet = fl.cabinet → m ≠ .inverter → m ≠ .staticBypass →
          exec (.replyEnd chars) s = .next { w with
            ask := none
            port := { s.port with state := .replyReady, reply := some { code := 0x30, result := 0x03, body := [] } } }) ∧
        (a.cabinet ≠ fl.cabinet ∨ m = .inverter ∨ m = .staticBypass →
          (fl.afterAsk = false → exec (.replyEnd chars) s = .next w) ∧
          (fl.afterAsk = true → exec (.replyEnd chars) s = exec .askWaitEnd { w with
            ask := some { a with waitSet := a.waitSet.filter (fun n => n != fl.cabinet) } }))) ∧
      w.cabinet? fl.cabinet = some { x.reported rep m with
        notice := x.reportedNotice rep fl.posting
        unauthorised := if m = .maintenanceBypass then true else if m = .off then x.unauthorised else false } ∧
      (∀ c, c ≠ fl.cabinet → w.cabinet? c = s.cabinet? c) ∧
      (∀ k, w.string? k = (s.string? k).map (fun r => (s.reportWork fl.cabinet x rep k r).r)) ∧
      (∀ i, i < 64 → w.attention.stringStateChanged.getLsbD i = (s.attention.stringStateChanged.getLsbD i ||
        (s.string? (i + 1)).any (fun r => (s.reportWork fl.cabinet x rep (i + 1) r).changed))) ∧
      (∀ id, id ∈ w.store.queue ↔ id ∈ s.store.queue ∨
        ∃ k r, s.string? k = some r ∧ (s.reportWork fl.cabinet x rep k r).save = true ∧ id = stringImage k) ∧
      w.attention.cabinetBack = (if x.link = .lost then s.attention.cabinetBack ||| markOf 24 fl.cabinet
        else s.attention.cabinetBack) ∧
      w.attention.unauthorisedBypass = (if m = .maintenanceBypass ∧ x.unauthorised = false then
        s.attention.unauthorisedBypass ||| markOf 24 fl.cabinet else s.attention.unauthorisedBypass) ∧
      { w.attention with
        stringStateChanged := s.attention.stringStateChanged, cabinetBack := s.attention.cabinetBack
        unauthorisedBypass := s.attention.unauthorisedBypass, marginShort := s.attention.marginShort } = s.attention ∧
      w.link = { s.link with flight := none, line := .quiet, failureRun := 0 } ∧
      w.groups = (numbers 4).map (w.figures none) ∧
      w.permits = s.permits ∧ w.visits = s.visits ∧ w.profiles = s.profiles ∧ w.floor = s.floor ∧ w.port = s.port ∧
      w.ask = s.ask ∧ w.store.images = s.store.images ∧ w.store.writer = s.store.writer

/-- The five steps of the intake of one block on a Filled profile take the readings, keep a repeat's charge out of the record, and put
a new report's delta in the open event or the idle bucket, which charges itself at or above C; an event opens when the mode becomes
Battery and closes with its cycle step when it leaves; a stage forms SoH and state anew, and the record is checkpointed for a change of
state, an event opened or closed, and a charge (R38, R56, R62 to R68, R71, R82 to R88). -/
def Obligations.IntakeOfOneBlock : Prop :=
  ∀ (old new : Mode) (isNew : Bool) (b : Block) (p : Profile) (r q : StringRecord) (w : Work), p.InRange → r.state ≠ .retired →
    w = intakeBlock old new isNew b (some p) (startWork r) → q = w.r →
    q.voltage = b.voltage ∧ q.current = b.current ∧ q.temperature = max (-200) (min 700 b.temperature) ∧
    (b.resistance = 0 → q.r = r.r ∧ q.sinceR = r.sinceR ∧ q.resistanceIndicator = r.resistanceIndicator) ∧
    (b.resistance ≠ 0 → q.r = b.resistance ∧ q.sinceR = 0 ∧
      q.resistanceIndicator = resistanceIndicatorOf p r.rb b.resistance) ∧
    (isNew = false ∨ b.delta = 0 → q.bucket = r.bucket) ∧
    (∀ total, isNew = true → (new ≠ .battery ∨ old = .battery) → r.event = none → b.delta ≠ 0 →
      total = min (r.bucket + b.delta) 65535 →
      q.event = none ∧
      (total < p.capacity → q.bucket = total ∧ q.life = r.life) ∧
      (p.capacity ≤ total → q.bucket = total % p.capacity ∧
        q.life = min (r.life + total / p.capacity * (1000000000 / p.cycles * 100 * p.w1 / 256000)) 1500000000)) ∧
    (∀ e, (new = .battery ↔ old = .battery) → r.event = some e →
      q.event = some { e with
        charge := if isNew = true ∧ b.delta ≠ 0 then min (e.charge + b.delta) 65535 else e.charge
        lowest := min e.lowest b.voltage } ∧
      q.bucket = r.bucket ∧ q.life = r.life) ∧
    (new = .battery → old ≠ .battery →
      q.event = some
        { minutes := 0, charge := if isNew = true then min b.delta 65535 else 0, lowest := b.voltage } ∧
      q.life = r.life ∧ q.bucket = r.bucket) ∧
    (∀ e, old = .battery → new ≠ .battery → r.event = some e → e.charge ≤ 65535 →
      q.event = none ∧ q.bucket = r.bucket ∧
      ∀ charge d, charge = (if isNew = true then min (e.charge + b.delta) 65535 else e.charge) →
        d = min (charge * 100 / p.capacity) 1000 →
        q.life = min (r.life + 1000000000 / p.cycles * d *
          (if d ≤ 200 then p.w1 else if d ≤ 500 then p.w2 else if d ≤ 800 then p.w3 else p.w4) / 256000) 1500000000) ∧
    (∀ opened charged closed : Prop,
      (opened ↔ new = .battery ∧ old ≠ .battery) →
      (charged ↔ isNew = true ∧ b.delta ≠ 0 ∧ r.event = none ∧ ¬opened ∧ p.capacity ≤ min (r.bucket + b.delta) 65535) →
      (closed ↔ old = .battery ∧ new ≠ .battery ∧ r.event.isSome = true) →
      (w.save = true ↔ w.changed = true ∨ opened ∨ charged ∨ closed) ∧
      (q.state ≠ r.state → w.changed = true) ∧
      (b.resistance = 0 → (w.changed = true ↔ q.state ≠ r.state)) ∧
      (b.resistance ≠ 0 ∨ charged ∨ closed →
        q.lifeIndicator = 1000 - q.life / 1000000 ∧ q.soh = min q.lifeIndicator q.resistanceIndicator ∧
        q.state = (if r.state = .retiring then .retiring
          else if r.suspect = true then .suspect
          else if p.watch ≤ q.soh then .good
          else if p.replace ≤ q.soh then .watch
          else .due)) ∧
      (¬(b.resistance ≠ 0 ∨ charged ∨ closed) → q.soh = r.soh ∧ q.lifeIndicator = r.lifeIndicator ∧ q.state = r.state)) ∧
    q.cabinet = r.cabinet ∧ q.position = r.position ∧ q.profile = r.profile ∧ q.day = r.day ∧ q.rb = r.rb ∧ q.m = r.m ∧
    q.s = r.s ∧ q.suspect = r.suspect ∧ q.owner = r.owner

/-- An accepted report moves the permit that names its cabinet by at most one row of the tables of R121, R124 and R125, raises the
cause of the row and checkpoints the permit; it retracts GRANT where the bypass begins, posts WITHDRAW where a Returning permit closes
and RECALL again where a recalled one goes back on bypass; where the permit leaves Active or Overdue, the In-progress items that hold it
are interrupted with their cause and checkpoint and their targets come back from Retiring; the entry, the intake and the waiting ask are
as without a permit, but that no bypass is unauthorised (R56, R62, R115, R116, R120, R121, R124 to R126, R153). -/
def Obligations.ReportMovesThePermit : Prop :=
  ∀ (chars : List RawChar) (s : State) (fl : Flight) (x : Cabinet) (rep : Report) (m : Mode) (k : Nat) (p : Permit)
    (leaves begins : Prop) (freed : Nat → Prop),
    s.Sized → s.link.flight = some fl → fl.live = true → s.cabinet? fl.cabinet = some x →
    judgeReply fl.cabinet (chars.map receive) = .report rep → s.permitOf fl.cabinet = some (k, p) →
    m = (if rep.halted then .faulted else modeOfCode rep.mode) →
    (leaves ↔ (p.state = .active ∨ p.state = .overdue) ∧ (m = .inverter ∨ m = .staticBypass ∨ m = .battery)) →
    (begins ↔ (p.state = .granted ∨ p.state = .returning) ∧ m = .maintenanceBypass) →
    (∀ j, freed j ↔ leaves ∧ (∃ r, s.string? j = some r ∧ r.state = .retiring) ∧
      ∃ v y it, s.visit? v = some y ∧ it ∈ y.items ∧ it.holds k = true ∧ it.kind = .replaceString ∧ it.target = j) →
    ∃ w : State,
      (s.ask = none → exec (.replyEnd chars) s = .next w) ∧
      (∀ a, s.ask = some a →
        (a.cabinet = fl.cabinet → m ≠ .inverter → m ≠ .staticBypass →
          exec (.replyEnd chars) s = .next { w with
            ask := none
            port := { s.port with state := .replyReady, reply := some { code := 0x30, result := 0x03, body := [] } } }) ∧
        (a.cabinet ≠ fl.cabinet ∨ m = .inverter ∨ m = .staticBypass →
          (fl.afterAsk = false → exec (.replyEnd chars) s = .next w) ∧
          (fl.afterAsk = true → exec (.replyEnd chars) s = exec .askWaitEnd { w with
            ask := some { a with waitSet := a.waitSet.filter (fun n => n != fl.cabinet) } }))) ∧
      w.permit? k = (match p.state, m with
        | .granted, .maintenanceBypass =>
          some { p with state := if p.remaining = 0 then .overdue else .active, timeout := none }
        | .active, .inverter => some { p with state := .returning }
        | .active, .staticBypass => some { p with state := .returning }
        | .active, .battery => some { p with state := .returning }
        | .overdue, .inverter => some { p with state := .returning }
        | .overdue, .staticBypass => some { p with state := .returning }
        | .overdue, .battery => some { p with state := .returning }
        | .returning, .inverter => none
        | .returning, .maintenanceBypass =>
          some { p with state := if p.remaining = 0 then .overdue else .active, timeout := none }
        | _, _ => some p) ∧
      (∀ j, j ≠ k → w.permit? j = s.permit? j) ∧
      ∃ slot : Option Posting, ∃ serial : Nat, serial = s.link.nextSerial ∧
      w.cabinet? fl.cabinet = some { x.reported rep m with
        notice := slot, unauthorised := if m = .maintenanceBypass ∨ m = .off then x.unauthorised else false } ∧
      slot = (if p.state = .granted ∧ m = .maintenanceBypass then retracted .grant (x.reportedNotice rep fl.posting)
        else if p.state = .returning ∧ m = .inverter then some { notice := .withdraw, serial := serial }
        else if p.state = .returning ∧ m = .maintenanceBypass ∧ p.recallAsked = true then
          some { notice := .recall, serial := serial }
        else x.reportedNotice rep fl.posting) ∧
      (∀ c, c ≠ fl.cabinet → w.cabinet? c = s.cabinet? c) ∧
      (begins ∧ p.remaining = 0 → w.attention.permitOverdue = s.attention.permitOverdue ||| markOf 8 k) ∧
      (¬(begins ∧ p.remaining = 0) → w.attention.permitOverdue = s.attention.permitOverdue) ∧
      ((begins ∧ p.remaining ≠ 0) ∨ leaves ∨ (p.state = .returning ∧ m = .inverter) →
        w.attention.permitChanged = s.attention.permitChanged ||| markOf 8 k) ∧
      (¬((begins ∧ p.remaining ≠ 0) ∨ leaves ∨ (p.state = .returning ∧ m = .inverter)) →
        w.attention.permitChanged = s.attention.permitChanged) ∧
      (∀ v, (¬leaves → w.visit? v = s.visit? v) ∧
        (leaves → w.visit? v = (s.visit? v).map (fun y => { y with items := y.items.map (interruptItem k) }))) ∧
      (∀ i, i < 4 → (w.attention.visitItemInterrupted.getLsbD i = true ↔ s.attention.visitItemInterrupted.getLsbD i = true ∨
        (leaves ∧ ∃ y it, s.visit? (i + 1) = some y ∧ it ∈ y.items ∧ it.holds k = true))) ∧
      (∀ j r q, s.string? j = some r → q = (s.reportWork fl.cabinet x rep j r).r →
        (¬freed j → w.string? j = some q) ∧
        (freed j → w.string? j = some { q with
          state := derivedState (s.profile? q.profile) q.suspect q.soh, owner := none })) ∧
      (∀ j, s.string? j = none → w.string? j = none) ∧
      (∀ i, i < 64 → (w.attention.stringStateChanged.getLsbD i = true ↔ s.attention.stringStateChanged.getLsbD i = true ∨
        freed (i + 1) ∨ ∃ r, s.string? (i + 1) = some r ∧ (s.reportWork fl.cabinet x rep (i + 1) r).changed = true)) ∧
      (∀ id, id ∈ w.store.queue ↔ id ∈ s.store.queue ∨
        ((begins ∨ leaves ∨ (p.state = .returning ∧ m = .inverter)) ∧ id = permitImage k) ∨
        (leaves ∧ ∃ v y it, s.visit? v = some y ∧ it ∈ y.items ∧ it.holds k = true ∧ id = visitImage v) ∨
        (∃ j, freed j ∧ id = stringImage j) ∨
        ∃ j r, s.string? j = some r ∧ (s.reportWork fl.cabinet x rep j r).save = true ∧ id = stringImage j) ∧
      w.attention.cabinetBack = (if x.link = .lost then s.attention.cabinetBack ||| markOf 24 fl.cabinet
        else s.attention.cabinetBack) ∧
      w.attention.unauthorisedBypass = s.attention.unauthorisedBypass ∧
      { w.link with nextSerial := s.link.nextSerial } = { s.link with flight := none, line := .quiet, failureRun := 0 } ∧
      w.floor = s.floor ∧ w.profiles = s.profiles ∧ w.port = s.port ∧ w.ask = s.ask ∧ w.store.images = s.store.images ∧
      w.store.writer = s.store.writer ∧ w.groups = (numbers 4).map (w.figures none)

/-! ## The end of an ask -/

/-- An ask whose wait set is empty is judged on the hypothetical figures: refused WRONG STATE for a Lost cabinet, MARGIN SHORT or
AUTONOMY SHORT with the figures, else granted into the lowest free slot with GRANT posted, a checkpoint, a recomputation and the
reply. One that a loss of the utility, HOLD or the mode of its cabinet stops ends with that refusal and no figures; an ask that waits
on, or none, is left as it is (R106, R116, R118, R119; that the two rows act on an ask still waiting is log entry 14, and that ASK
EARLY END without one of the three conditions, and ASK WAIT END with a cabinet still to wait for or no ask, change nothing is log entry
2, the model's choices). -/
def Obligations.TheAskEnds : Prop :=
  (∀ (s : State) (a : Ask) (x : Cabinet) (g : Group), s.ask = some a → a.waitSet = [] → s.cabinet? a.cabinet = some x →
      g = s.figures (some a.cabinet) x.group →
      (x.link = .lost →
        exec .askWaitEnd s = .next { s with
          ask := none
          port := { s.port with state := .replyReady, reply := some { code := 0x30, result := 0x03, body := [] } } }) ∧
      (x.link ≠ .lost → g.spare < (g.required : Int) →
        exec .askWaitEnd s = .next { s with
          ask := none
          port := { s.port with
            state := .replyReady
            reply := some { code := 0x30, result := 0x04, body := figuresBody s.floor.config.autonomyFloor g } } }) ∧
      (x.link ≠ .lost → (g.required : Int) ≤ g.spare → g.autonomy < s.floor.config.autonomyFloor →
        exec .askWaitEnd s = .next { s with
          ask := none
          port := { s.port with
            state := .replyReady
            reply := some { code := 0x30, result := 0x05, body := figuresBody s.floor.config.autonomyFloor g } } }) ∧
      (∀ k p, x.link ≠ .lost → (g.required : Int) ≤ g.spare → s.floor.config.autonomyFloor ≤ g.autonomy →
        lowestFree s.permits = some k →
        p = { cabinet := a.cabinet, visit := a.visit, state := .granted, remaining := a.duration
              timeout := some s.floor.config.grantTimeout, recallAsked := false, spare := g.spare, autonomy := g.autonomy } →
        exec .askWaitEnd s = .next
          { ({ s with
                ask := none
                permits := tset s.permits k (some p)
                cabinets := tset s.cabinets a.cabinet
                  (some { x with notice := some { notice := .grant, serial := s.link.nextSerial } })
                link := { s.link with nextSerial := s.link.nextSerial + 1 }
                store := { s.store with queue := enqueue (permitImage k) s.store.queue } } : State).recompute with
            port := { s.port with
              state := .replyReady
              reply := some
                { code := 0x30, result := 0x00, body := permitBody k p ++ figuresBody s.floor.config.autonomyFloor g } } })) ∧
  (∀ s : State, (∀ a, s.ask = some a → a.waitSet ≠ []) → exec .askWaitEnd s = .next s) ∧
  (∀ s : State, s.ask = none → exec .askEarlyEnd s = .next s) ∧
  (∀ (s : State) (a : Ask) (x : Cabinet) (e : ResultCode → State), s.ask = some a → s.cabinet? a.cabinet = some x →
      (∀ res, e res = { s with
        ask := none
        port := { s.port with state := .replyReady, reply := some { code := 0x30, result := resultCode res, body := [] } } }) →
      (s.floor.utility = .lost → exec .askEarlyEnd s = .next (e .utilityLost)) ∧
      (s.floor.utility ≠ .lost → s.floor.hold = true → exec .askEarlyEnd s = .next (e .hold)) ∧
      (s.floor.utility ≠ .lost → s.floor.hold = false → x.mode ≠ .inverter → x.mode ≠ .staticBypass →
        exec .askEarlyEnd s = .next (e .wrongState)) ∧
      (s.floor.utility ≠ .lost → s.floor.hold = false → (x.mode = .inverter ∨ x.mode = .staticBypass) →
        exec .askEarlyEnd s = .next s))

/-! ## Time -/

/-- The minute tick: ages, the records' counts and windows and the pulses that fall due, the permits by R111's table and the visits by
R155, each with its causes, postings and checkpoints; during the start-up procedure it is held, and without power or while RESET is held
the command changes nothing, which is log entry 2, the model's choice (R3, R14, R67, R70, R74 to R76, R111, R122, R123, R126,
R155). -/
def Obligations.MinuteTickCountsEverything : Prop :=
  (∀ s : State, s.phase = .running → s.port.state = .starting →
    exec .minuteTick s = .next { s with floor := { s.floor with tickHeld := true } }) ∧
  (∀ s : State, s.phase ≠ .running → exec .minuteTick s = .next s) ∧
  (∀ s : State, s.Sized → s.operating = true →
    ∃ t, exec .minuteTick s = .next t ∧ t.floor = s.floor ∧ t.port = s.port ∧ t.ask = s.ask ∧ t.profiles = s.profiles ∧
      t.store.images = s.store.images ∧ t.store.writer = s.store.writer ∧
      { t.link with nextSerial := s.link.nextSerial } = s.link ∧ (∀ c, s.cabinet? c = none → t.cabinet? c = none) ∧
      (∀ c x, s.cabinet? c = some x → ∃ y, t.cabinet? c = some y ∧
        y = { x with age := min (x.age + 1) 65535, pulse := y.pulse, notice := y.notice } ∧
        (∀ i, i < 4 → (y.pulse.getLsbD i = true ↔ x.pulse.getLsbD i = true ∨
          ∃ k r p, s.string? k = some r ∧ r.cabinet = some c ∧ r.position = i + 1 ∧ r.state ≠ .retired ∧
            s.profile? r.profile = some p ∧ p.interval * 1440 ≤ min (r.sinceR + 1) 999999)) ∧
        ((∃ k p, s.permit? k = some p ∧ p.cabinet = c ∧ p.state = .granted ∧ p.timeout.getD 0 ≤ 1) →
          ∃ serial, s.link.nextSerial ≤ serial ∧ y.notice = some { notice := .withdraw, serial := serial }) ∧
        ((∀ k p, s.permit? k = some p → p.cabinet = c → p.state = .granted → 1 < p.timeout.getD 0) → y.notice = x.notice)) ∧
      (∀ k, s.string? k = none → t.string? k = none) ∧
      (∀ k r, s.string? k = some r → ∃ q, t.string? k = some q ∧
        q.event = r.event.map (fun e => { e with minutes := min (e.minutes + 1) 65535 }) ∧
        q.sinceR = (if r.cabinet.isSome = true ∧ r.state ≠ .retired then min (r.sinceR + 1) 999999 else r.sinceR) ∧
        ((∀ c x p, r.cabinet = some c → s.cabinet? c = some x → s.profile? r.profile = some p →
            x.mode = .battery ∨ r.state = .retiring ∨ r.state = .retired) →
          q = { r with event := q.event, sinceR := q.sinceR }) ∧
        (∀ c x p temp, r.cabinet = some c → s.cabinet? c = some x → s.profile? r.profile = some p →
          x.mode ≠ .battery → r.state ≠ .retiring → r.state ≠ .retired →
          temp = (if x.link = .online ∨ x.link = .silent then r.temperature else p.assumed) →
          (r.m < 59 → q = { r with event := q.event, sinceR := q.sinceR, m := r.m + 1, s := r.s + temp }) ∧
          (59 ≤ r.m → q = { r with
            event := q.event, sinceR := q.sinceR, m := 0, s := 0, life := min (r.life + calendarShare p (r.s + temp)) 1500000000
            lifeIndicator := 1000 - q.life / 1000000, soh := min (1000 - q.life / 1000000) r.resistanceIndicator
            state := derivedState (some p) r.suspect q.soh } ∧
            stringImage k ∈ t.store.queue ∧
            (q.state ≠ r.state → t.attention.stringStateChanged &&& markOf 64 k = markOf 64 k)))) ∧
      (∀ k, t.permit? k = (s.permit? k).bind (fun p =>
        match p.state with
        | .granted =>
          if p.timeout.getD 0 ≤ 1 then none
          else some { p with remaining := p.remaining - 1, timeout := p.timeout.map (fun m => m - 1) }
        | .active =>
          if p.remaining ≤ 1 then some { p with state := .overdue, remaining := 0 }
          else some { p with remaining := p.remaining - 1 }
        | .overdue => some p
        | .returning => some { p with remaining := p.remaining - 1 })) ∧
      (∀ v, t.visit? v = (s.visit? v).map (fun x =>
        { x with remaining := x.remaining - 1, overtime := x.overtime || x.remaining == 1 })) ∧
      (∀ i, i < 8 → t.attention.permitChanged.getLsbD i = (s.attention.permitChanged.getLsbD i ||
        (s.permit? (i + 1)).any (fun p => p.state == .granted && decide (p.timeout.getD 0 ≤ 1)))) ∧
      (∀ i, i < 8 → t.attention.permitOverdue.getLsbD i = (s.attention.permitOverdue.getLsbD i ||
        (s.permit? (i + 1)).any (fun p => p.state == .active && decide (p.remaining ≤ 1)))) ∧
      (∀ i, i < 4 → t.attention.visitOvertime.getLsbD i = (s.attention.visitOvertime.getLsbD i ||
        (s.visit? (i + 1)).any (fun x => x.remaining == 1))) ∧
      (∀ i, i < 64 → t.attention.stringStateChanged.getLsbD i = (s.attention.stringStateChanged.getLsbD i ||
        (s.string? (i + 1)).any (fun r => (t.string? (i + 1)).any (fun q => decide (q.state ≠ r.state))))) ∧
      { t.attention with
        permitChanged := s.attention.permitChanged, permitOverdue := s.attention.permitOverdue
        visitOvertime := s.attention.visitOvertime, stringStateChanged := s.attention.stringStateChanged
        marginShort := s.attention.marginShort } = s.attention ∧
      (∀ id, id ∈ t.store.queue ↔ id ∈ s.store.queue ∨
        (∃ k p, s.permit? k = some p ∧ id = permitImage k ∧
          ((p.state = .granted ∧ p.timeout.getD 0 ≤ 1) ∨ (p.state = .active ∧ p.remaining ≤ 1))) ∨
        (∃ v x, s.visit? v = some x ∧ id = visitImage v ∧ x.remaining = 1) ∨
        (∃ k r, s.string? k = some r ∧ id = stringImage k ∧ s.countsMinute r = true ∧ 59 ≤ r.m)) ∧
      (s.GroupsCurrent → t.GroupsCurrent))

/-- The tick that completes a record's calendar window adds Lc to L, with the acceleration of R80 at the window's mean, forms SoH
and state anew, and empties the window; a changed state raises STRING STATE CHANGED, the record is checkpointed, the groups are formed
anew, and nothing else changes (R56, R71, R76, R79 to R81, R87, R88). -/
def Obligations.CalendarStepAges : Prop :=
  ∀ (s : State) (k : Nat) (r : StringRecord) (p : Profile) (total n rest : Int) (a : Nat), p.InRange → s.operating = true →
    s.string? k = some r → s.profile? r.profile = some p → s.countsMinute r = true → r.m = 59 →
    total = r.s + s.minuteTemperature p r → total / 60 - p.tref = n * p.step + rest → 0 ≤ rest → rest < p.step →
    a = clampNat 16 4096
      (if 0 ≤ n then 256 * (p.step + rest.toNat) / p.step * 2 ^ n.toNat
        else 256 * (p.step + rest.toNat) / p.step / 2 ^ (-n).toNat) →
    ∃ t q, exec (.calendarStep k) s = .next t ∧ t.strings = tset s.strings k (some q) ∧
      q = { r with
        m := 0, s := 0
        life := min (r.life + 1000000000 / p.life * a / 256) 1500000000
        lifeIndicator := q.lifeIndicator, soh := q.soh, state := q.state } ∧
      q.lifeIndicator = 1000 - q.life / 1000000 ∧ q.soh = min q.lifeIndicator r.resistanceIndicator ∧
      q.state = derivedState (some p) r.suspect q.soh ∧
      t.store = { s.store with queue := enqueue (stringImage k) s.store.queue } ∧
      t.attention.stringStateChanged = (if q.state = r.state then s.attention.stringStateChanged
        else s.attention.stringStateChanged ||| markOf 64 k) ∧
      { t.attention with
        stringStateChanged := s.attention.stringStateChanged, marginShort := s.attention.marginShort } = s.attention ∧
      t.groups = (numbers 4).map (t.figures none) ∧
      t = { s with strings := t.strings, attention := t.attention, store := t.store, groups := t.groups }

/-- The ticks that reach one object at its last minute: the pulse interval sets the pulse bit, the grant timeout closes with
WITHDRAW, an Active permit becomes Overdue, a visit runs into overtime (R70, R122, R123, R155). -/
def Obligations.LastMinutesOfOneObject : Prop :=
  (∀ (s : State) (k c : Nat) (r : StringRecord) (p : Profile) (x : Cabinet), s.operating = true → s.string? k = some r →
    s.profile? r.profile = some p → r.cabinet = some c → s.cabinet? c = some x → r.state ≠ .retired →
    r.sinceR + 1 = p.interval * 1440 →
    exec (.automaticPulse k) s = .next { s with
      strings := tset s.strings k (some { r with sinceR := p.interval * 1440 })
      cabinets := tset s.cabinets c (some { x with pulse := x.pulse ||| markOf 4 r.position }) }) ∧
  (∀ (s : State) (k : Nat) (p : Permit) (x : Cabinet), s.operating = true → s.permit? k = some p → p.state = .granted →
    p.timeout = some 1 → s.cabinet? p.cabinet = some x →
    exec (.grantTimeout k) s = .next ({ s with
      cabinets := tset s.cabinets p.cabinet (some { x with
        notice := some { notice := .withdraw, serial := s.link.nextSerial } })
      link := { s.link with nextSerial := s.link.nextSerial + 1 }
      permits := tset s.permits k none
      attention := { s.attention with permitChanged := s.attention.permitChanged ||| markOf 8 k }
      store := { s.store with queue := enqueue (permitImage k) s.store.queue } } : State).recompute) ∧
  (∀ (s : State) (k : Nat) (p : Permit), s.operating = true → s.permit? k = some p → p.state = .active → p.remaining = 1 →
    exec (.permitOverdue k) s = .next { s with
      permits := tset s.permits k (some { p with state := .overdue, remaining := 0 })
      attention := { s.attention with permitOverdue := s.attention.permitOverdue ||| markOf 8 k }
      store := { s.store with queue := enqueue (permitImage k) s.store.queue } }) ∧
  (∀ (s : State) (v : Nat) (x : Visit), s.operating = true → s.visit? v = some x → x.remaining = 1 →
    exec (.visitOvertime v) s = .next { s with
      visits := tset s.visits v (some { x with remaining := 0, overtime := true })
      attention := { s.attention with visitOvertime := s.attention.visitOvertime ||| markOf 4 v }
      store := { s.store with queue := enqueue (visitImage v) s.store.queue } })

/-! ## The margin -/

/-- The spare count is the largest number of the largest counted cabinets that can be taken away with the rest at or above the
required capacity, at most 23; it is -1 when all of them fall short (R100). -/
def Obligations.SpareCountIsTheLargest : Prop :=
  ∀ (creq : Nat) (rated sorted : List Nat), sorted.Perm rated → sorted.Pairwise (fun a b => b ≤ a) →
    (rated.sum < creq → spareCount creq rated = -1) ∧
    (creq ≤ rated.sum → ∃ k ≤ rated.length,
      creq ≤ rated.sum - (sorted.take k).sum ∧
      (∀ j ≤ rated.length, creq ≤ rated.sum - (sorted.take j).sum → j ≤ k) ∧
      spareCount creq rated = (min k 23 : Nat)) ∧
    -1 ≤ spareCount creq rated ∧ spareCount creq rated ≤ 23

/-- What the figures of a group are: its load, the required capacity rounded up, the rated powers and the spare count of its counted
cabinets, the energy of their strings, the autonomy and the status, `out` being the cabinet an ask takes out; and a recomputation forms
them for every group and raises MARGIN SHORT for a group that goes from Met to Short, and for no other (R94 to R106). -/
def Obligations.FiguresOfAGroup : Prop :=
  (∀ (s : State) (out : Option Nat) (g : Nat) (members counted : List (Nat × Cabinet)) (G : Group),
    members = (entries s.cabinets).filter (fun e => e.2.group == g) →
    counted = members.filter (fun e =>
      (e.2.link == .online || e.2.link == .silent) && (e.2.mode == .inverter || e.2.mode == .battery) &&
        !(entries s.permits).any (fun q => q.2.cabinet == e.1) && out != some e.1) →
    G = s.figures out g →
    G.required = s.floor.config.requiredSpare g ∧
    G.load = (members.map (fun e => e.2.load)).sum ∧
    G.load * (1000 + s.floor.config.headroom) ≤ G.creq * 1000 ∧
    G.creq * 1000 < G.load * (1000 + s.floor.config.headroom) + 1000 ∧
    G.capacity = (counted.map (fun e => e.2.rated)).sum ∧
    G.spare = spareCount G.creq (counted.map (fun e => e.2.rated)) ∧
    G.energy = ((entries s.strings).map (fun e =>
      match s.profile? e.2.profile with
      | none => 0
      | some p =>
        if e.2.state ≠ .retiring ∧ e.2.state ≠ .retired ∧ counted.any (fun q => e.2.cabinet == some q.1) = true then
          p.capacity * p.voltage * e.2.soh / 1000 - (e.2.event.map (fun d => d.charge * p.voltage / 10)).getD 0
        else 0)).sum ∧
    G.autonomy = (if G.load = 0 then 9999
      else min (G.energy * s.floor.config.efficiency * 60 / (G.load * 100 * 1000)) 9999) ∧
    (members = [] → G.status = .met) ∧
    (members ≠ [] →
      (G.status = .short ↔ G.spare < (G.required : Int) ∨ G.autonomy < s.floor.config.autonomyFloor))) ∧
  (∀ s : State, s.groups.length = 4 →
    s.recompute.groups = (numbers 4).map (s.figures none) ∧
    (∀ i, i < 4 → (s.recompute.attention.marginShort.getLsbD i = true ↔ s.attention.marginShort.getLsbD i = true ∨
      (s.figures none (i + 1)).status = .short ∧ ∃ G, s.groups[i]? = some G ∧ G.status = .met)) ∧
    s.recompute = { s with
      groups := s.recompute.groups
      attention := { s.attention with marginShort := s.recompute.attention.marginShort } })

/-! ## The store, power and the starts -/

/-- The idle writer takes the oldest entry, the content of its record as it stands and the next write number; an image holds the fields
that R161 names for its kind and "empty" for no record; at the end of the write the image holds them and every other image stays, and
a read-back that differs raises STORE FAULT and queues the image again; a write that ends while RESET is held leaves its image and
raises and queues nothing (R161 to R166, R168). The model's choices: what a failed write leaves is an operand (log entry 11), and
STORE WRITE END with no write in flight changes nothing (log entry 2). -/
def Obligations.StoreWritesInOrder : Prop :=
  (∀ (s : State) (id : ImageId) (rest : List ImageId), s.phase = .running → s.store.writer = none →
    s.store.queue = id :: rest →
    exec .storeWriteBegin s = .next { s with store := { s.store with
      queue := rest
      writer := some { id := id, number := s.store.nextNumber, content := s.contentOf id }
      nextNumber := s.store.nextNumber + 1 } }) ∧
  (∀ (s : State) (o : WriteOutcome) (w : ImageWrite), s.phase = .inReset → s.store.writer = some w →
    exec (.storeWriteEnd o) s = .next { s with store := { s.store with
      writer := none
      images := putImage s.store.images w.id.number (decide (o ≠ .differs false)) w.number w.content } }) ∧
  (∀ (s : State) (o : WriteOutcome), s.store.writer = none → exec (.storeWriteEnd o) s = .next s) ∧
  (∀ (s : State) (w : ImageWrite), s.phase = .running → s.store.writer = some w →
    exec (.storeWriteEnd .matched) s = .next { s with store := { s.store with
      writer := none, images := putImage s.store.images w.id.number true w.number w.content } }) ∧
  (∀ (s : State) (w : ImageWrite) (good : Bool), s.phase = .running → s.store.writer = some w →
    exec (.storeWriteEnd (.differs good)) s = .next { s with
      attention := { s.attention with storeFault := true }
      store := { s.store with
        writer := none, images := putImage s.store.images w.id.number good w.number w.content
        queue := enqueue w.id s.store.queue } }) ∧
  (∀ (id : ImageId) (q : List ImageId), enqueue id q = if id ∈ q then q else q ++ [id]) ∧
  (∀ s : State, s.contentOf configImage = .config s.floor.config ∧
    (∀ n, s.contentOf (profileImage n) = .profile (s.profile? n)) ∧
    (∀ c, s.contentOf (cabinetImage c) = .cabinet ((s.cabinet? c).map (fun x => { group := x.group, rated := x.rated }))) ∧
    (∀ k, s.contentOf (stringImage k) =
      .string ((s.string? k).map (fun r => { r with voltage := 0, current := 0, temperature := 0 }))) ∧
    (∀ k, s.contentOf (permitImage k) = .permit ((s.permit? k).map (fun p => { p with timeout := none }))) ∧
    (∀ v, s.contentOf (visitImage v) = .visit (s.visit? v))) ∧
  (∀ (im : Images) (n number : Nat) (good : Bool), im.Sized →
    (∀ c, putImage im n good number (.config c) = { im with config := { good := good, number := number, content := c } }) ∧
    (∀ c t, t = putImage im n good number (.profile c) → t = { im with profiles := t.profiles } ∧
      (1 ≤ n → n ≤ 4 → imageAt t.profiles n = some { good := good, number := number, content := c }) ∧
      (∀ j, j ≠ n → imageAt t.profiles j = imageAt im.profiles j)) ∧
    (∀ c t, t = putImage im n good number (.cabinet c) → t = { im with cabinets := t.cabinets } ∧
      (1 ≤ n → n ≤ 24 → imageAt t.cabinets n = some { good := good, number := number, content := c }) ∧
      (∀ j, j ≠ n → imageAt t.cabinets j = imageAt im.cabinets j)) ∧
    (∀ c t, t = putImage im n good number (.string c) → t = { im with strings := t.strings } ∧
      (1 ≤ n → n ≤ 64 → imageAt t.strings n = some { good := good, number := number, content := c }) ∧
      (∀ j, j ≠ n → imageAt t.strings j = imageAt im.strings j)) ∧
    (∀ c t, t = putImage im n good number (.permit c) → t = { im with permits := t.permits } ∧
      (1 ≤ n → n ≤ 8 → imageAt t.permits n = some { good := good, number := number, content := c }) ∧
      (∀ j, j ≠ n → imageAt t.permits j = imageAt im.permits j)) ∧
    (∀ c t, t = putImage im n good number (.visit c) → t = { im with visits := t.visits } ∧
      (1 ≤ n → n ≤ 4 → imageAt t.visits n = some { good := good, number := number, content := c }) ∧
      (∀ j, j ≠ n → imageAt t.visits j = imageAt im.visits j)))

/-- A loss of power spoils the image in flight and keeps every other image, also while RESET is held and the write has not ended; the
RESET line lets the write go on to its end, at the latest before the start; a POWER ON start clears the clock and a RESET LINE start
keeps it; each leaves an empty port in Starting with START alone or with STORE FAULT and the string slots of the check, the Group Table
at R108's values, the link with counter 0, run count 0, no poll and an empty list, every Present cabinet Unsynced, and the write
count past every good image (R1, R11, R24, R26, R45, R108, R162, R167 to R170, R190; that RESET ASSERT says how a write ends that is still in flight at the
release is log entry 8). -/
def Obligations.PowerResetAndStarts : Prop :=
  (∀ s : State, s.phase ≠ .unpowered →
    ∃ t, exec .powerLoss s = .next t ∧ t.phase = .unpowered ∧ t.store.queue = [] ∧ t.store.writer = none ∧
      (s.store.writer = none → t.store.images = s.store.images) ∧
      (∀ w, s.store.writer = some w → t.store.images = putImage s.store.images w.id.number false w.number w.content)) ∧
  (∀ (o : WriteOutcome) (s : State), s.phase = .running →
    ∃ t, exec (.resetAssert o) s = .next t ∧ t.phase = .inReset ∧ t.store.completion = o ∧ t.store.queue = [] ∧
      t.store.writer = s.store.writer ∧
      t.store.images = s.store.images ∧ t.floor.clock = s.floor.clock ∧ t.floor.clockSet = s.floor.clockSet ∧ t.attn = false ∧
      (∀ bit, t.linkDir bit = false ∧ t.linkTx bit = true)) ∧
  (∀ s : State, s.phase = .inReset → s.store.writer ≠ none →
    ∃ t, exec (.storeWriteEnd s.store.completion) s = .next t ∧ exec .resetLine s = exec .resetLine t) ∧
  (∀ (s : State) (i : Instr) (cause : StartCause),
    ((s.phase = .unpowered ∧ i = .powerOn ∧ cause = .powerOn) ∨
      (s.phase = .inReset ∧ s.store.writer = none ∧ i = .resetLine ∧ cause = .resetLine)) →
    ∃ t, exec i s = .next t ∧ t.phase = .running ∧ t.port =
        { state := .starting, reply := none, request := [], urgent := none, late := false, dropped := false, overrun := false
          overrunSeen := false, frame := none, sdo := [] } ∧
      t.groups = [t.floor.config.spare1, t.floor.config.spare2, t.floor.config.spare3, t.floor.config.spare4].map (fun n =>
        { required := n, load := 0, creq := 0, capacity := 0, spare := 0, energy := 0, autonomy := 9999, status := .short }) ∧
      t.link = { counter := 0, remaining := [], failureRun := 0, breakDue := false, flight := none, line := .quiet
                 nextSerial := t.link.nextSerial } ∧
      t.ask = none ∧ t.floor.cause = cause ∧
      t.floor.utility = .unknown ∧ t.floor.hold = false ∧
      t.floor.clock = (if cause = .powerOn then 0 else s.floor.clock) ∧
      t.floor.clockSet = (if cause = .powerOn then false else s.floor.clockSet) ∧
      t.floor.config = (if s.store.images.config.good = true then s.store.images.config.content.clamp else FloorConfig.default) ∧
      t.store.images = s.store.images ∧ (∀ n ∈ allGoodNumbers s.store.images, n < t.store.nextNumber) ∧
      t.attention.start = some (cause, (badImages s.store.images).length) ∧
      t.attention =
        { utilityChange := none, marginShort := 0, unauthorisedBypass := 0, permitOverdue := 0, permitChanged := 0
          cabinetLost := 0, cabinetBack := 0, visitItemInterrupted := 0, visitOvertime := 0
          stringStateChanged := t.attention.stringStateChanged, storeFault := !s.store.images.config.good
          start := some (cause, (badImages s.store.images).length) } ∧
      (∀ c x, t.cabinet? c = some x → x.link = .unsynced ∧ x.mode = .unknown ∧ x.load = 0 ∧ x.age = 65535 ∧ x.notice = none ∧
        x.pulse = 0 ∧ x.unauthorised = false) ∧
      (∀ id ∈ badImages s.store.images, id ∈ t.store.queue))

/-- Steps 2 and 3 of a start. A good image gives back its record, each field clamped to its range (R162; the fields that no host write
sets, log entry 20), and a bad or "empty" one an Absent, Empty or free entry (R11, R46, R72, R137, R160, R170). The string check then
makes a record unattached and Suspect whose cabinet is Absent or whose place a later image names too, marks one with an Empty profile,
re-derives the state, and raises and checkpoints what changed (R52, R53, R171). -/
def Obligations.StartLoadsTheImages : Prop :=
  ∀ (s t : State) (i : Instr) (im : Images), s.Sized → im = s.store.images →
    ((s.phase = .unpowered ∧ i = .powerOn) ∨ (s.phase = .inReset ∧ s.store.writer = none ∧ i = .resetLine)) →
    exec i s = .next t →
    t.Sized ∧
    (∀ n j, imageAt im.profiles n = some j →
      ((j.good = false ∨ j.content = none) → t.profile? n = none) ∧
      (∀ p, j.good = true → j.content = some p → ∃ q, t.profile? n = some q ∧ q.InRange ∧ (p.InRange → q = p))) ∧
    (∀ c j, imageAt im.cabinets c = some j →
      ((j.good = false ∨ j.content = none) → t.cabinet? c = none) ∧
      (∀ y, j.good = true → j.content = some y → t.cabinet? c = some
        { group := max 1 (min 4 y.group), rated := max 100 (min 8000 y.rated), mode := .unknown, load := 0, age := 65535
          unauthorised := false, link := .unsynced, expected := false, ack := false, notice := none, pulse := 0, errors := 0
          failures := 0 })) ∧
    (∀ k j, imageAt im.permits k = some j →
      ((j.good = false ∨ j.content = none) → t.permit? k = none) ∧
      (∀ p, j.good = true → j.content = some p → t.permit? k = some
        { cabinet := max 1 (min 24 p.cabinet), visit := p.visit.map (fun v => max 1 (min 4 v)), state := p.state
          remaining := min p.remaining 720
          timeout := if p.state = .granted then some t.floor.config.grantTimeout else none
          recallAsked := p.recallAsked, spare := max (-1) (min 23 p.spare), autonomy := min p.autonomy 9999 })) ∧
    (∀ v j, imageAt im.visits v = some j →
      ((j.good = false ∨ j.content = none) → t.visit? v = none) ∧
      (∀ x, j.good = true → j.content = some x → t.visit? v = some
        { badge := max 1 (min 999999 x.badge), opened := x.opened, remaining := min x.remaining 1440, overtime := x.overtime
          items := (x.items.take 12).map (fun it => { it with
            target := max 1 (min (if it.kind = .inspectCabinet then 24 else 64) it.target)
            permit := it.permit.map (fun k => max 1 (min 8 k))
            result := it.result.map (fun a =>
              { profile := min a.profile 4, value := min a.value 65535, newSlot := min a.newSlot 64 }) }) })) ∧
    (∀ k j, imageAt im.strings k = some j → (j.good = false ∨ j.content = none) → t.string? k = none) ∧
    (∀ k number (r : StringRecord), imageAt im.strings k = some { good := true, number := number, content := some r } →
      ∃ (q : StringRecord) (gone : Bool), t.string? k = some q ∧
      (gone = true ↔ ∃ c pos, r.cabinet = some c ∧ r.state ≠ .retired ∧ pos = max 1 (min 4 r.position) ∧
        (t.cabinet? (max 1 (min 24 c)) = none ∨
          ∃ (l later : Nat) (a : StringRecord) (d : Nat), l ≠ k ∧
            imageAt im.strings l = some { good := true, number := later, content := some a } ∧ a.state ≠ .retired ∧
            a.cabinet = some d ∧ max 1 (min 24 d) = max 1 (min 24 c) ∧ max 1 (min 4 a.position) = pos ∧
            (number < later ∨ number = later ∧ l < k))) ∧
      q = { r with
        cabinet := if gone = true ∨ r.state = .retired then none else r.cabinet.map (fun c => max 1 (min 24 c))
        position := max 1 (min 4 r.position), profile := max 1 (min 4 r.profile), day := min r.day 65535
        rb := r.rb.map (fun b => max 1 (min 65535 b)), r := min r.r 65535, voltage := 0, current := 0
        temperature := ((t.profile? (max 1 (min 4 r.profile))).map Profile.assumed).getD 0
        life := min r.life 1500000000, m := min r.m 59
        s := max (-200 * (min r.m 59 : Nat)) (min (700 * (min r.m 59 : Nat)) r.s), bucket := min r.bucket 65535
        event := r.event.map (fun e =>
          { minutes := min e.minutes 65535, charge := min e.charge 65535, lowest := min e.lowest 65535 })
        soh := min r.soh 1000, resistanceIndicator := min r.resistanceIndicator 1000
        lifeIndicator := min r.lifeIndicator 1000, sinceR := min r.sinceR 999999
        owner := r.owner.map (fun v => max 1 (min 4 v))
        suspect := r.suspect || gone || (t.profile? q.profile).isNone
        state := if r.state = .retiring ∨ r.state = .retired then r.state
          else derivedState (t.profile? q.profile) q.suspect q.soh } ∧
      (q.state ≠ r.state ↔ t.attention.stringStateChanged &&& markOf 64 k = markOf 64 k) ∧
      (stringImage k ∈ t.store.queue ↔ gone = true ∨ q.suspect ≠ r.suspect ∨ q.state ≠ r.state))

/-- The first judgement of the utility ends the start: Unknown where the level moved, else the level with UTILITY CHANGE; then one
permit at most names any cabinet and each a Present one, none is Granted unless the utility is Present, no event is open, the
groups are formed with no MARGIN SHORT, since all stood Short, a break is on the line and the port is Idle (R108, R137, R172 to R175). A minute tick held back in the procedure comes
after it, and then the order that waits (R3, R175, R184; their order is log entry 10). -/
def Obligations.FirstJudgementEndsTheStart : Prop :=
  (∀ s : State, s.Sized → s.PortAgrees → s.phase = .running → s.port.state = .starting → s.floor.tickHeld = false →
    s.port.urgent = none →
    ∃ t, exec .firstUtilityJudgement s = .next t ∧
      t.port = { s.port with state := .idle } ∧
      t.floor = { s.floor with
        utility := if s.floor.senseMoved = true then .unknown else if s.floor.sense = true then .present else .lost } ∧
      (s.floor.senseMoved = false →
        t.attention.utilityChange = some (if s.floor.sense = true then .present else .lost)) ∧
      (s.floor.senseMoved = true → t.attention.utilityChange = s.attention.utilityChange) ∧
      ((∀ g ∈ s.groups, g.status = .short) → t.attention.marginShort = s.attention.marginShort) ∧
      t.OnePermitEach ∧ (∀ k p, t.permit? k = some p → (t.cabinet? p.cabinet).isSome = true) ∧
      t.GrantsNeedUtility ∧
      (∀ k p, t.permit? k = some p → p.state = .granted → p.timeout = some s.floor.config.grantTimeout) ∧
      (∀ k r, t.string? k = some r → r.event = none) ∧
      t.GroupsCurrent ∧ t.link.line = .linkBreak ∧ t.profiles = s.profiles ∧ t.store.images = s.store.images) ∧
  (∀ s t0 t1 : State, s.phase = .running → s.port.state = .starting →
    exec .firstUtilityJudgement
      { s with floor := { s.floor with tickHeld := false }, port := { s.port with urgent := none } } = .next t0 →
    (if s.floor.tickHeld = true then exec .minuteTick t0 else .next t0) = .next t1 →
    exec .firstUtilityJudgement s = .next
      ({ t1 with port := { t1.port with urgent := s.port.urgent } } : State).takeUrgent)

/-- Steps 5 to 7 of a start, with no tick held and no order waiting. A permit that names an Absent cabinet, or a cabinet that a permit
with a later image names, is closed without a notice; a Granted one is kept with GRANT posted and its timeout in full where the utility
is Present, and closed with WITHDRAW else; Active, Overdue and Returning ones are kept; a visit that is not open is lost (R137, R173).
Items are abandoned, interrupted or kept by R160's table with their cause and checkpoint; a record is Retiring exactly while an
In-progress REPLACE STRING names it, and a Retired one loses an owner that is gone (R54, R160, R173); an event stored in a record is
closed with its cycle step (R68, R174). -/
def Obligations.StartUpRestores : Prop :=
  ∀ (s t : State) (u : UtilityState) (dropped : Nat → Permit → Prop), s.Sized → s.PortAgrees → s.phase = .running →
    s.port.state = .starting → s.floor.tickHeld = false → s.port.urgent = none →
    u = (if s.floor.senseMoved = true then .unknown else if s.floor.sense = true then .present else .lost) →
    (∀ k p, dropped k p ↔ s.cabinet? p.cabinet = none ∨
      ∃ j q, j ≠ k ∧ s.permit? j = some q ∧ q.cabinet = p.cabinet ∧
        (s.permitNumber k < s.permitNumber j ∨ s.permitNumber k = s.permitNumber j ∧ j < k)) →
    exec .firstUtilityJudgement s = .next t →
    (∀ k p, s.permit? k = some p →
      (dropped k p ∨ (p.state = .granted ∧ u ≠ .present) →
        t.permit? k = none ∧ permitImage k ∈ t.store.queue ∧ t.attention.permitChanged &&& markOf 8 k = markOf 8 k) ∧
      (¬dropped k p → (p.state = .granted → u = .present) →
        t.permit? k = some { p with
          visit := if (p.visit.bind s.visit?).isSome = true then p.visit else none
          timeout := if p.state = .granted then some s.floor.config.grantTimeout else p.timeout } ∧
        ((p.visit.isSome = true ∧ p.visit.bind s.visit? = none) → permitImage k ∈ t.store.queue)) ∧
      (∀ x, ¬dropped k p → p.state = .granted → s.cabinet? p.cabinet = some x →
        ∃ serial, s.link.nextSerial ≤ serial ∧ t.cabinet? p.cabinet = some { x with
          notice := some { notice := if u = .present then .grant else .withdraw, serial := serial } })) ∧
    (∀ k, s.permit? k = none → t.permit? k = none) ∧
    (∀ c, (∀ k p, s.permit? k = some p → p.cabinet = c → p.state = .granted → dropped k p) → t.cabinet? c = s.cabinet? c) ∧
    (∀ i, i < 8 → (t.attention.permitChanged.getLsbD i = true ↔ s.attention.permitChanged.getLsbD i = true ∨
      ∃ p, s.permit? (i + 1) = some p ∧ t.permit? (i + 1) = none)) ∧
    (∀ v, s.visit? v = none → t.visit? v = none) ∧
    (∀ v x, s.visit? v = some x → ∃ y, t.visit? v = some y ∧ y = { x with items := y.items } ∧
      y.items.length = x.items.length ∧
      (∀ n it (cab : Option Nat), itemAt x.items n = some it →
        cab = (if it.kind = .inspectCabinet then some it.target else (s.string? it.target).bind StringRecord.cabinet) →
        itemAt y.items n = some
          (if it.state = .done ∨ it.state = .abandoned then it
          else if it.kind ≠ .inspectCabinet ∧ s.string? it.target = none then
            { it with state := .abandoned, permit := none, result := none }
          else if it.state = .inProgress ∧
              ((it.kind ≠ .baseline ∧ ¬(it.permit.bind t.permit?).any (fun p => p.visit == some v && some p.cabinet == cab &&
                (p.state == .active || p.state == .overdue)) = true) ∨ cab = none) then
            { it with state := .interrupted, permit := none }
          else it)) ∧
      (y ≠ x → visitImage v ∈ t.store.queue) ∧
      ((∃ n a b, itemAt x.items n = some a ∧ itemAt y.items n = some b ∧ a.state = .inProgress ∧ b.state = .interrupted) →
        t.attention.visitItemInterrupted &&& markOf 4 v = markOf 4 v)) ∧
    (s.ItemsDistinct → t.RetiringHeld) ∧
    (∀ k, s.string? k = none → t.string? k = none) ∧
    (∀ k r (q : StringRecord), s.string? k = some r → t.string? k = some q →
      (q.event = none ∧ q.suspect = r.suspect ∧ q.cabinet = r.cabinet ∧ q.position = r.position ∧ q.bucket = r.bucket ∧
        q.m = r.m ∧ q.s = r.s ∧ q.resistanceIndicator = r.resistanceIndicator) ∧
      (r.state = .retired → t.replacing k = false → q.state = .retired ∧
        q.owner = if (r.owner.bind s.visit?).isSome = true then r.owner else none) ∧
      (r.state = .retiring → t.replacing k = false → q.owner = none ∧ q.state = derivedState (s.profile? r.profile) r.suspect q.soh ∧
        stringImage k ∈ t.store.queue ∧ t.attention.stringStateChanged &&& markOf 64 k = markOf 64 k) ∧
      (r.event = none ∨ s.profile? r.profile = none → q.life = r.life ∧ q.soh = r.soh) ∧
      (∀ e p d, r.event = some e → s.profile? r.profile = some p → d = min (e.charge * 100 / p.capacity) 1000 →
        q.life = min (r.life + 1000000000 / p.cycles * d *
          (if d ≤ 200 then p.w1 else if d ≤ 500 then p.w2 else if d ≤ 800 then p.w3 else p.w4) / 256000) 1500000000 ∧
        q.soh = min (1000 - q.life / 1000000) r.resistanceIndicator ∧ stringImage k ∈ t.store.queue) ∧
      (r.event = none → r.state ≠ .retiring → r.state ≠ .retired → t.replacing k = false → q = r))
end

