-- ==== Sys2Proof/Laws/State.lean ====
section
/-! SUPPORT. One lemma per field per update of the state, true by `rfl`, so that no later proof unfolds a record update. -/

namespace Sys2Proof.Machine

/-! ### setCabinet -/

@[simp] theorem State.setCabinet_phase (c : Nat) (x : Option Cabinet) (s : State) : (s.setCabinet c x).phase = s.phase := rfl
@[simp] theorem State.setCabinet_floor (c : Nat) (x : Option Cabinet) (s : State) : (s.setCabinet c x).floor = s.floor := rfl
@[simp] theorem State.setCabinet_cabinets (c : Nat) (x : Option Cabinet) (s : State) : (s.setCabinet c x).cabinets = tset s.cabinets c x := rfl
@[simp] theorem State.setCabinet_link (c : Nat) (x : Option Cabinet) (s : State) : (s.setCabinet c x).link = s.link := rfl
@[simp] theorem State.setCabinet_profiles (c : Nat) (x : Option Cabinet) (s : State) : (s.setCabinet c x).profiles = s.profiles := rfl
@[simp] theorem State.setCabinet_strings (c : Nat) (x : Option Cabinet) (s : State) : (s.setCabinet c x).strings = s.strings := rfl
@[simp] theorem State.setCabinet_groups (c : Nat) (x : Option Cabinet) (s : State) : (s.setCabinet c x).groups = s.groups := rfl
@[simp] theorem State.setCabinet_permits (c : Nat) (x : Option Cabinet) (s : State) : (s.setCabinet c x).permits = s.permits := rfl
@[simp] theorem State.setCabinet_ask (c : Nat) (x : Option Cabinet) (s : State) : (s.setCabinet c x).ask = s.ask := rfl
@[simp] theorem State.setCabinet_visits (c : Nat) (x : Option Cabinet) (s : State) : (s.setCabinet c x).visits = s.visits := rfl
@[simp] theorem State.setCabinet_store (c : Nat) (x : Option Cabinet) (s : State) : (s.setCabinet c x).store = s.store := rfl
@[simp] theorem State.setCabinet_port (c : Nat) (x : Option Cabinet) (s : State) : (s.setCabinet c x).port = s.port := rfl
@[simp] theorem State.setCabinet_attention (c : Nat) (x : Option Cabinet) (s : State) : (s.setCabinet c x).attention = s.attention := rfl
@[simp] theorem State.setCabinet_pending (c : Nat) (x : Option Cabinet) (s : State) : (s.setCabinet c x).pending = s.pending := rfl

/-! ### setProfile -/

@[simp] theorem State.setProfile_phase (n : Nat) (p : Option Profile) (s : State) : (s.setProfile n p).phase = s.phase := rfl
@[simp] theorem State.setProfile_floor (n : Nat) (p : Option Profile) (s : State) : (s.setProfile n p).floor = s.floor := rfl
@[simp] theorem State.setProfile_cabinets (n : Nat) (p : Option Profile) (s : State) : (s.setProfile n p).cabinets = s.cabinets := rfl
@[simp] theorem State.setProfile_link (n : Nat) (p : Option Profile) (s : State) : (s.setProfile n p).link = s.link := rfl
@[simp] theorem State.setProfile_profiles (n : Nat) (p : Option Profile) (s : State) : (s.setProfile n p).profiles = tset s.profiles n p := rfl
@[simp] theorem State.setProfile_strings (n : Nat) (p : Option Profile) (s : State) : (s.setProfile n p).strings = s.strings := rfl
@[simp] theorem State.setProfile_groups (n : Nat) (p : Option Profile) (s : State) : (s.setProfile n p).groups = s.groups := rfl
@[simp] theorem State.setProfile_permits (n : Nat) (p : Option Profile) (s : State) : (s.setProfile n p).permits = s.permits := rfl
@[simp] theorem State.setProfile_ask (n : Nat) (p : Option Profile) (s : State) : (s.setProfile n p).ask = s.ask := rfl
@[simp] theorem State.setProfile_visits (n : Nat) (p : Option Profile) (s : State) : (s.setProfile n p).visits = s.visits := rfl
@[simp] theorem State.setProfile_store (n : Nat) (p : Option Profile) (s : State) : (s.setProfile n p).store = s.store := rfl
@[simp] theorem State.setProfile_port (n : Nat) (p : Option Profile) (s : State) : (s.setProfile n p).port = s.port := rfl
@[simp] theorem State.setProfile_attention (n : Nat) (p : Option Profile) (s : State) : (s.setProfile n p).attention = s.attention := rfl
@[simp] theorem State.setProfile_pending (n : Nat) (p : Option Profile) (s : State) : (s.setProfile n p).pending = s.pending := rfl

/-! ### setString -/

@[simp] theorem State.setString_phase (k : Nat) (r : Option StringRecord) (s : State) : (s.setString k r).phase = s.phase := rfl
@[simp] theorem State.setString_floor (k : Nat) (r : Option StringRecord) (s : State) : (s.setString k r).floor = s.floor := rfl
@[simp] theorem State.setString_cabinets (k : Nat) (r : Option StringRecord) (s : State) : (s.setString k r).cabinets = s.cabinets := rfl
@[simp] theorem State.setString_link (k : Nat) (r : Option StringRecord) (s : State) : (s.setString k r).link = s.link := rfl
@[simp] theorem State.setString_profiles (k : Nat) (r : Option StringRecord) (s : State) : (s.setString k r).profiles = s.profiles := rfl
@[simp] theorem State.setString_strings (k : Nat) (r : Option StringRecord) (s : State) : (s.setString k r).strings = tset s.strings k r := rfl
@[simp] theorem State.setString_groups (k : Nat) (r : Option StringRecord) (s : State) : (s.setString k r).groups = s.groups := rfl
@[simp] theorem State.setString_permits (k : Nat) (r : Option StringRecord) (s : State) : (s.setString k r).permits = s.permits := rfl
@[simp] theorem State.setString_ask (k : Nat) (r : Option StringRecord) (s : State) : (s.setString k r).ask = s.ask := rfl
@[simp] theorem State.setString_visits (k : Nat) (r : Option StringRecord) (s : State) : (s.setString k r).visits = s.visits := rfl
@[simp] theorem State.setString_store (k : Nat) (r : Option StringRecord) (s : State) : (s.setString k r).store = s.store := rfl
@[simp] theorem State.setString_port (k : Nat) (r : Option StringRecord) (s : State) : (s.setString k r).port = s.port := rfl
@[simp] theorem State.setString_attention (k : Nat) (r : Option StringRecord) (s : State) : (s.setString k r).attention = s.attention := rfl
@[simp] theorem State.setString_pending (k : Nat) (r : Option StringRecord) (s : State) : (s.setString k r).pending = s.pending := rfl

/-! ### setPermit -/

@[simp] theorem State.setPermit_phase (k : Nat) (p : Option Permit) (s : State) : (s.setPermit k p).phase = s.phase := rfl
@[simp] theorem State.setPermit_floor (k : Nat) (p : Option Permit) (s : State) : (s.setPermit k p).floor = s.floor := rfl
@[simp] theorem State.setPermit_cabinets (k : Nat) (p : Option Permit) (s : State) : (s.setPermit k p).cabinets = s.cabinets := rfl
@[simp] theorem State.setPermit_link (k : Nat) (p : Option Permit) (s : State) : (s.setPermit k p).link = s.link := rfl
@[simp] theorem State.setPermit_profiles (k : Nat) (p : Option Permit) (s : State) : (s.setPermit k p).profiles = s.profiles := rfl
@[simp] theorem State.setPermit_strings (k : Nat) (p : Option Permit) (s : State) : (s.setPermit k p).strings = s.strings := rfl
@[simp] theorem State.setPermit_groups (k : Nat) (p : Option Permit) (s : State) : (s.setPermit k p).groups = s.groups := rfl
@[simp] theorem State.setPermit_permits (k : Nat) (p : Option Permit) (s : State) : (s.setPermit k p).permits = tset s.permits k p := rfl
@[simp] theorem State.setPermit_ask (k : Nat) (p : Option Permit) (s : State) : (s.setPermit k p).ask = s.ask := rfl
@[simp] theorem State.setPermit_visits (k : Nat) (p : Option Permit) (s : State) : (s.setPermit k p).visits = s.visits := rfl
@[simp] theorem State.setPermit_store (k : Nat) (p : Option Permit) (s : State) : (s.setPermit k p).store = s.store := rfl
@[simp] theorem State.setPermit_port (k : Nat) (p : Option Permit) (s : State) : (s.setPermit k p).port = s.port := rfl
@[simp] theorem State.setPermit_attention (k : Nat) (p : Option Permit) (s : State) : (s.setPermit k p).attention = s.attention := rfl
@[simp] theorem State.setPermit_pending (k : Nat) (p : Option Permit) (s : State) : (s.setPermit k p).pending = s.pending := rfl

/-! ### setVisit -/

@[simp] theorem State.setVisit_phase (v : Nat) (x : Option Visit) (s : State) : (s.setVisit v x).phase = s.phase := rfl
@[simp] theorem State.setVisit_floor (v : Nat) (x : Option Visit) (s : State) : (s.setVisit v x).floor = s.floor := rfl
@[simp] theorem State.setVisit_cabinets (v : Nat) (x : Option Visit) (s : State) : (s.setVisit v x).cabinets = s.cabinets := rfl
@[simp] theorem State.setVisit_link (v : Nat) (x : Option Visit) (s : State) : (s.setVisit v x).link = s.link := rfl
@[simp] theorem State.setVisit_profiles (v : Nat) (x : Option Visit) (s : State) : (s.setVisit v x).profiles = s.profiles := rfl
@[simp] theorem State.setVisit_strings (v : Nat) (x : Option Visit) (s : State) : (s.setVisit v x).strings = s.strings := rfl
@[simp] theorem State.setVisit_groups (v : Nat) (x : Option Visit) (s : State) : (s.setVisit v x).groups = s.groups := rfl
@[simp] theorem State.setVisit_permits (v : Nat) (x : Option Visit) (s : State) : (s.setVisit v x).permits = s.permits := rfl
@[simp] theorem State.setVisit_ask (v : Nat) (x : Option Visit) (s : State) : (s.setVisit v x).ask = s.ask := rfl
@[simp] theorem State.setVisit_visits (v : Nat) (x : Option Visit) (s : State) : (s.setVisit v x).visits = tset s.visits v x := rfl
@[simp] theorem State.setVisit_store (v : Nat) (x : Option Visit) (s : State) : (s.setVisit v x).store = s.store := rfl
@[simp] theorem State.setVisit_port (v : Nat) (x : Option Visit) (s : State) : (s.setVisit v x).port = s.port := rfl
@[simp] theorem State.setVisit_attention (v : Nat) (x : Option Visit) (s : State) : (s.setVisit v x).attention = s.attention := rfl
@[simp] theorem State.setVisit_pending (v : Nat) (x : Option Visit) (s : State) : (s.setVisit v x).pending = s.pending := rfl

/-! ### checkpoint -/

@[simp] theorem State.checkpoint_phase (id : ImageId) (s : State) : (s.checkpoint id).phase = s.phase := rfl
@[simp] theorem State.checkpoint_floor (id : ImageId) (s : State) : (s.checkpoint id).floor = s.floor := rfl
@[simp] theorem State.checkpoint_cabinets (id : ImageId) (s : State) : (s.checkpoint id).cabinets = s.cabinets := rfl
@[simp] theorem State.checkpoint_link (id : ImageId) (s : State) : (s.checkpoint id).link = s.link := rfl
@[simp] theorem State.checkpoint_profiles (id : ImageId) (s : State) : (s.checkpoint id).profiles = s.profiles := rfl
@[simp] theorem State.checkpoint_strings (id : ImageId) (s : State) : (s.checkpoint id).strings = s.strings := rfl
@[simp] theorem State.checkpoint_groups (id : ImageId) (s : State) : (s.checkpoint id).groups = s.groups := rfl
@[simp] theorem State.checkpoint_permits (id : ImageId) (s : State) : (s.checkpoint id).permits = s.permits := rfl
@[simp] theorem State.checkpoint_ask (id : ImageId) (s : State) : (s.checkpoint id).ask = s.ask := rfl
@[simp] theorem State.checkpoint_visits (id : ImageId) (s : State) : (s.checkpoint id).visits = s.visits := rfl
@[simp] theorem State.checkpoint_store (id : ImageId) (s : State) : (s.checkpoint id).store = { s.store with queue := enqueue id s.store.queue } := rfl
@[simp] theorem State.checkpoint_port (id : ImageId) (s : State) : (s.checkpoint id).port = s.port := rfl
@[simp] theorem State.checkpoint_attention (id : ImageId) (s : State) : (s.checkpoint id).attention = s.attention := rfl
@[simp] theorem State.checkpoint_pending (id : ImageId) (s : State) : (s.checkpoint id).pending = s.pending := rfl

/-! ### attend -/

@[simp] theorem State.attend_phase (f : Attention → Attention) (s : State) : (s.attend f).phase = s.phase := rfl
@[simp] theorem State.attend_floor (f : Attention → Attention) (s : State) : (s.attend f).floor = s.floor := rfl
@[simp] theorem State.attend_cabinets (f : Attention → Attention) (s : State) : (s.attend f).cabinets = s.cabinets := rfl
@[simp] theorem State.attend_link (f : Attention → Attention) (s : State) : (s.attend f).link = s.link := rfl
@[simp] theorem State.attend_profiles (f : Attention → Attention) (s : State) : (s.attend f).profiles = s.profiles := rfl
@[simp] theorem State.attend_strings (f : Attention → Attention) (s : State) : (s.attend f).strings = s.strings := rfl
@[simp] theorem State.attend_groups (f : Attention → Attention) (s : State) : (s.attend f).groups = s.groups := rfl
@[simp] theorem State.attend_permits (f : Attention → Attention) (s : State) : (s.attend f).permits = s.permits := rfl
@[simp] theorem State.attend_ask (f : Attention → Attention) (s : State) : (s.attend f).ask = s.ask := rfl
@[simp] theorem State.attend_visits (f : Attention → Attention) (s : State) : (s.attend f).visits = s.visits := rfl
@[simp] theorem State.attend_store (f : Attention → Attention) (s : State) : (s.attend f).store = s.store := rfl
@[simp] theorem State.attend_port (f : Attention → Attention) (s : State) : (s.attend f).port = s.port := rfl
@[simp] theorem State.attend_attention (f : Attention → Attention) (s : State) : (s.attend f).attention = f s.attention := rfl
@[simp] theorem State.attend_pending (f : Attention → Attention) (s : State) : (s.attend f).pending = s.pending := rfl

/-! ### setHold -/

@[simp] theorem State.setHold_phase (b : Bool) (s : State) : (s.setHold b).phase = s.phase := rfl
@[simp] theorem State.setHold_floor (b : Bool) (s : State) : (s.setHold b).floor = { s.floor with hold := b } := rfl
@[simp] theorem State.setHold_cabinets (b : Bool) (s : State) : (s.setHold b).cabinets = s.cabinets := rfl
@[simp] theorem State.setHold_link (b : Bool) (s : State) : (s.setHold b).link = s.link := rfl
@[simp] theorem State.setHold_profiles (b : Bool) (s : State) : (s.setHold b).profiles = s.profiles := rfl
@[simp] theorem State.setHold_strings (b : Bool) (s : State) : (s.setHold b).strings = s.strings := rfl
@[simp] theorem State.setHold_groups (b : Bool) (s : State) : (s.setHold b).groups = s.groups := rfl
@[simp] theorem State.setHold_permits (b : Bool) (s : State) : (s.setHold b).permits = s.permits := rfl
@[simp] theorem State.setHold_ask (b : Bool) (s : State) : (s.setHold b).ask = s.ask := rfl
@[simp] theorem State.setHold_visits (b : Bool) (s : State) : (s.setHold b).visits = s.visits := rfl
@[simp] theorem State.setHold_store (b : Bool) (s : State) : (s.setHold b).store = s.store := rfl
@[simp] theorem State.setHold_port (b : Bool) (s : State) : (s.setHold b).port = s.port := rfl
@[simp] theorem State.setHold_attention (b : Bool) (s : State) : (s.setHold b).attention = s.attention := rfl
@[simp] theorem State.setHold_pending (b : Bool) (s : State) : (s.setHold b).pending = s.pending := rfl

/-! ### closeWindow -/

@[simp] theorem State.closeWindow_phase (s : State) : (s.closeWindow).phase = s.phase := rfl
@[simp] theorem State.closeWindow_floor (s : State) : (s.closeWindow).floor = s.floor := rfl
@[simp] theorem State.closeWindow_cabinets (s : State) : (s.closeWindow).cabinets = s.cabinets := rfl
@[simp] theorem State.closeWindow_link (s : State) : (s.closeWindow).link = { s.link with flight := none, line := .quiet } := rfl
@[simp] theorem State.closeWindow_profiles (s : State) : (s.closeWindow).profiles = s.profiles := rfl
@[simp] theorem State.closeWindow_strings (s : State) : (s.closeWindow).strings = s.strings := rfl
@[simp] theorem State.closeWindow_groups (s : State) : (s.closeWindow).groups = s.groups := rfl
@[simp] theorem State.closeWindow_permits (s : State) : (s.closeWindow).permits = s.permits := rfl
@[simp] theorem State.closeWindow_ask (s : State) : (s.closeWindow).ask = s.ask := rfl
@[simp] theorem State.closeWindow_visits (s : State) : (s.closeWindow).visits = s.visits := rfl
@[simp] theorem State.closeWindow_store (s : State) : (s.closeWindow).store = s.store := rfl
@[simp] theorem State.closeWindow_port (s : State) : (s.closeWindow).port = s.port := rfl
@[simp] theorem State.closeWindow_attention (s : State) : (s.closeWindow).attention = s.attention := rfl
@[simp] theorem State.closeWindow_pending (s : State) : (s.closeWindow).pending = s.pending := rfl

/-! ### countTime -/

@[simp] theorem State.countTime_phase (ms : Nat) (s : State) : (s.countTime ms).phase = s.phase := rfl
@[simp] theorem State.countTime_floor (ms : Nat) (s : State) : (s.countTime ms).floor = { s.floor with senseHeld := min (s.floor.senseHeld + ms) Config.filterLimit } := rfl
@[simp] theorem State.countTime_cabinets (ms : Nat) (s : State) : (s.countTime ms).cabinets = s.cabinets := rfl
@[simp] theorem State.countTime_link (ms : Nat) (s : State) : (s.countTime ms).link = { s.link with line := if ms = 0 then s.link.line else .quiet } := rfl
@[simp] theorem State.countTime_profiles (ms : Nat) (s : State) : (s.countTime ms).profiles = s.profiles := rfl
@[simp] theorem State.countTime_strings (ms : Nat) (s : State) : (s.countTime ms).strings = s.strings := rfl
@[simp] theorem State.countTime_groups (ms : Nat) (s : State) : (s.countTime ms).groups = s.groups := rfl
@[simp] theorem State.countTime_permits (ms : Nat) (s : State) : (s.countTime ms).permits = s.permits := rfl
@[simp] theorem State.countTime_ask (ms : Nat) (s : State) : (s.countTime ms).ask = s.ask := rfl
@[simp] theorem State.countTime_visits (ms : Nat) (s : State) : (s.countTime ms).visits = s.visits := rfl
@[simp] theorem State.countTime_store (ms : Nat) (s : State) : (s.countTime ms).store = s.store := rfl
@[simp] theorem State.countTime_port (ms : Nat) (s : State) : (s.countTime ms).port = s.port := rfl
@[simp] theorem State.countTime_attention (ms : Nat) (s : State) : (s.countTime ms).attention = s.attention := rfl
@[simp] theorem State.countTime_pending (ms : Nat) (s : State) : (s.countTime ms).pending = s.pending := rfl

/-! ### finishWrite -/

@[simp] theorem State.finishWrite_phase (w : ImageWrite) (o : WriteOutcome) (s : State) : (s.finishWrite w o).phase = s.phase := rfl
@[simp] theorem State.finishWrite_floor (w : ImageWrite) (o : WriteOutcome) (s : State) : (s.finishWrite w o).floor = s.floor := rfl
@[simp] theorem State.finishWrite_cabinets (w : ImageWrite) (o : WriteOutcome) (s : State) : (s.finishWrite w o).cabinets = s.cabinets := rfl
@[simp] theorem State.finishWrite_link (w : ImageWrite) (o : WriteOutcome) (s : State) : (s.finishWrite w o).link = s.link := rfl
@[simp] theorem State.finishWrite_profiles (w : ImageWrite) (o : WriteOutcome) (s : State) : (s.finishWrite w o).profiles = s.profiles := rfl
@[simp] theorem State.finishWrite_strings (w : ImageWrite) (o : WriteOutcome) (s : State) : (s.finishWrite w o).strings = s.strings := rfl
@[simp] theorem State.finishWrite_groups (w : ImageWrite) (o : WriteOutcome) (s : State) : (s.finishWrite w o).groups = s.groups := rfl
@[simp] theorem State.finishWrite_permits (w : ImageWrite) (o : WriteOutcome) (s : State) : (s.finishWrite w o).permits = s.permits := rfl
@[simp] theorem State.finishWrite_ask (w : ImageWrite) (o : WriteOutcome) (s : State) : (s.finishWrite w o).ask = s.ask := rfl
@[simp] theorem State.finishWrite_visits (w : ImageWrite) (o : WriteOutcome) (s : State) : (s.finishWrite w o).visits = s.visits := rfl
@[simp] theorem State.finishWrite_store (w : ImageWrite) (o : WriteOutcome) (s : State) : (s.finishWrite w o).store = { s.store with images := endWrite w o s.store.images, writer := none } := rfl
@[simp] theorem State.finishWrite_port (w : ImageWrite) (o : WriteOutcome) (s : State) : (s.finishWrite w o).port = s.port := rfl
@[simp] theorem State.finishWrite_attention (w : ImageWrite) (o : WriteOutcome) (s : State) : (s.finishWrite w o).attention = s.attention := rfl
@[simp] theorem State.finishWrite_pending (w : ImageWrite) (o : WriteOutcome) (s : State) : (s.finishWrite w o).pending = s.pending := rfl

/-! ### goodContact -/

@[simp] theorem State.goodContact_phase (s : State) : (s.goodContact).phase = s.phase := rfl
@[simp] theorem State.goodContact_floor (s : State) : (s.goodContact).floor = s.floor := rfl
@[simp] theorem State.goodContact_cabinets (s : State) : (s.goodContact).cabinets = s.cabinets := rfl
@[simp] theorem State.goodContact_link (s : State) : (s.goodContact).link = { s.link with failureRun := 0 } := rfl
@[simp] theorem State.goodContact_profiles (s : State) : (s.goodContact).profiles = s.profiles := rfl
@[simp] theorem State.goodContact_strings (s : State) : (s.goodContact).strings = s.strings := rfl
@[simp] theorem State.goodContact_groups (s : State) : (s.goodContact).groups = s.groups := rfl
@[simp] theorem State.goodContact_permits (s : State) : (s.goodContact).permits = s.permits := rfl
@[simp] theorem State.goodContact_ask (s : State) : (s.goodContact).ask = s.ask := rfl
@[simp] theorem State.goodContact_visits (s : State) : (s.goodContact).visits = s.visits := rfl
@[simp] theorem State.goodContact_store (s : State) : (s.goodContact).store = s.store := rfl
@[simp] theorem State.goodContact_port (s : State) : (s.goodContact).port = s.port := rfl
@[simp] theorem State.goodContact_attention (s : State) : (s.goodContact).attention = s.attention := rfl
@[simp] theorem State.goodContact_pending (s : State) : (s.goodContact).pending = s.pending := rfl

/-! ### recompute -/

@[simp] theorem State.recompute_phase (s : State) : s.recompute.phase = s.phase := rfl
@[simp] theorem State.recompute_floor (s : State) : s.recompute.floor = s.floor := rfl
@[simp] theorem State.recompute_cabinets (s : State) : s.recompute.cabinets = s.cabinets := rfl
@[simp] theorem State.recompute_link (s : State) : s.recompute.link = s.link := rfl
@[simp] theorem State.recompute_profiles (s : State) : s.recompute.profiles = s.profiles := rfl
@[simp] theorem State.recompute_strings (s : State) : s.recompute.strings = s.strings := rfl
@[simp] theorem State.recompute_permits (s : State) : s.recompute.permits = s.permits := rfl
@[simp] theorem State.recompute_ask (s : State) : s.recompute.ask = s.ask := rfl
@[simp] theorem State.recompute_visits (s : State) : s.recompute.visits = s.visits := rfl
@[simp] theorem State.recompute_store (s : State) : s.recompute.store = s.store := rfl
@[simp] theorem State.recompute_port (s : State) : s.recompute.port = s.port := rfl
@[simp] theorem State.recompute_pending (s : State) : s.recompute.pending = s.pending := rfl
@[simp] theorem State.recompute_groups (s : State) :
    s.recompute.groups = (numbers Config.groupCount).map (s.figures none) := rfl
@[simp] theorem State.recompute_attention (s : State) :
    s.recompute.attention =
      raiseMarginShort (enteredShort 1 s.groups ((numbers Config.groupCount).map (s.figures none))) s.attention := rfl

/-! ### enterReset -/

@[simp] theorem State.enterReset_phase (o : WriteOutcome) (s : State) : (s.enterReset o).phase = .inReset := rfl
@[simp] theorem State.enterReset_ask (o : WriteOutcome) (s : State) : (s.enterReset o).ask = none := rfl
@[simp] theorem State.enterReset_port (o : WriteOutcome) (s : State) : (s.enterReset o).port = Port.starting := rfl
@[simp] theorem State.enterReset_attention (o : WriteOutcome) (s : State) : (s.enterReset o).attention = Attention.empty := rfl
@[simp] theorem State.enterReset_link (o : WriteOutcome) (s : State) : (s.enterReset o).link = Link.start := rfl
@[simp] theorem State.enterReset_pending (o : WriteOutcome) (s : State) : (s.enterReset o).pending = s.pending := rfl
@[simp] theorem State.enterReset_images (o : WriteOutcome) (s : State) : (s.enterReset o).store.images = s.store.images := rfl
@[simp] theorem State.enterReset_writer (o : WriteOutcome) (s : State) : (s.enterReset o).store.writer = s.store.writer := rfl
@[simp] theorem State.enterReset_completion (o : WriteOutcome) (s : State) : (s.enterReset o).store.completion = o := rfl
@[simp] theorem State.enterReset_queue (o : WriteOutcome) (s : State) : (s.enterReset o).store.queue = [] := rfl
@[simp] theorem State.enterReset_clock (o : WriteOutcome) (s : State) : (s.enterReset o).floor.clock = s.floor.clock := rfl
@[simp] theorem State.enterReset_clockSet (o : WriteOutcome) (s : State) : (s.enterReset o).floor.clockSet = s.floor.clockSet := rfl

/-! ### reply -/

@[simp] theorem State.reply_phase (code : Byte) (res : ResultCode) (body : List Byte) (s : State) :
    (s.reply code res body).phase = s.phase := rfl
@[simp] theorem State.reply_floor (code : Byte) (res : ResultCode) (body : List Byte) (s : State) :
    (s.reply code res body).floor = s.floor := rfl
@[simp] theorem State.reply_cabinets (code : Byte) (res : ResultCode) (body : List Byte) (s : State) :
    (s.reply code res body).cabinets = s.cabinets := rfl
@[simp] theorem State.reply_link (code : Byte) (res : ResultCode) (body : List Byte) (s : State) :
    (s.reply code res body).link = s.link := rfl
@[simp] theorem State.reply_profiles (code : Byte) (res : ResultCode) (body : List Byte) (s : State) :
    (s.reply code res body).profiles = s.profiles := rfl
@[simp] theorem State.reply_strings (code : Byte) (res : ResultCode) (body : List Byte) (s : State) :
    (s.reply code res body).strings = s.strings := rfl
@[simp] theorem State.reply_groups (code : Byte) (res : ResultCode) (body : List Byte) (s : State) :
    (s.reply code res body).groups = s.groups := rfl
@[simp] theorem State.reply_permits (code : Byte) (res : ResultCode) (body : List Byte) (s : State) :
    (s.reply code res body).permits = s.permits := rfl
@[simp] theorem State.reply_ask (code : Byte) (res : ResultCode) (body : List Byte) (s : State) :
    (s.reply code res body).ask = s.ask := rfl
@[simp] theorem State.reply_visits (code : Byte) (res : ResultCode) (body : List Byte) (s : State) :
    (s.reply code res body).visits = s.visits := rfl
@[simp] theorem State.reply_store (code : Byte) (res : ResultCode) (body : List Byte) (s : State) :
    (s.reply code res body).store = s.store := rfl
@[simp] theorem State.reply_attention (code : Byte) (res : ResultCode) (body : List Byte) (s : State) :
    (s.reply code res body).attention = s.attention := rfl
@[simp] theorem State.reply_pending (code : Byte) (res : ResultCode) (body : List Byte) (s : State) :
    (s.reply code res body).pending = s.pending := rfl
@[simp] theorem State.reply_port (code : Byte) (res : ResultCode) (body : List Byte) (s : State) :
    (s.reply code res body).port =
      { s.port with reply := some { code := code, result := resultCode res, body := body }, state := .replyReady } := rfl

end Sys2Proof.Machine
end

