-- ==== Sys2Proof/Laws/Tables.lean ====
section
/-! SUPPORT. The laws of the numbered tables: reading after a write, sizes, occupied entries, the lowest free slot, and
the dirty queue. -/

namespace Sys2Proof.Machine

variable {α : Type}

/-! ## Reading and writing an entry -/

@[simp] theorem tget_zero (t : List (Option α)) : tget t 0 = none := rfl

@[simp] theorem tset_zero (t : List (Option α)) (v : Option α) : tset t 0 v = t := rfl

@[simp] theorem tset_length (t : List (Option α)) (n : Nat) (v : Option α) : (tset t n v).length = t.length := by
  cases n <;> simp [tset]

/-- Reading the entry just written, when the number is in the table. -/
theorem tget_tset_same (t : List (Option α)) (n : Nat) (v : Option α) (h1 : 1 ≤ n) (h2 : n ≤ t.length) :
    tget (tset t n v) n = v := by
  obtain ⟨k, rfl⟩ : ∃ k, n = k + 1 := ⟨n - 1, by omega⟩
  simp [tget, tset, show k < t.length by omega]

/-- Reading another entry than the one written. -/
theorem tget_tset_ne (t : List (Option α)) (n m : Nat) (v : Option α) (h : m ≠ n) : tget (tset t n v) m = tget t m := by
  cases n with
  | zero => rfl
  | succ n =>
    cases m with
    | zero => rfl
    | succ m => simp [tget, tset, show n ≠ m by omega]

/-- An occupied entry has a number in the table. -/
theorem tget_some (t : List (Option α)) (n : Nat) (a : α) (h : tget t n = some a) : 1 ≤ n ∧ n ≤ t.length := by
  cases n with
  | zero => simp at h
  | succ n =>
    refine ⟨by omega, ?_⟩
    by_contra hn
    simp [tget, List.getElem?_eq_none (show t.length ≤ n by omega)] at h

/-- Writing over an occupied entry and reading it back. -/
theorem tget_tset_some (t : List (Option α)) (n : Nat) (a : α) (v : Option α) (h : tget t n = some a) :
    tget (tset t n v) n = v := tget_tset_same t n v (tget_some t n a h).1 (tget_some t n a h).2

/-- What any entry reads after a write of an occupied one. -/
theorem tget_tset_of_some (t : List (Option α)) (n m : Nat) (a : α) (v : Option α) (h : tget t n = some a) :
    tget (tset t n v) m = if m = n then v else tget t m := by
  split
  · subst_vars; exact tget_tset_some t _ a v h
  · exact tget_tset_ne t n m v ‹_›

/-- Writing back what is read changes nothing. -/
theorem tset_tget (t : List (Option α)) (n : Nat) (a : α) (h : tget t n = some a) : tset t n (some a) = t := by
  have hn := tget_some t n a h
  obtain ⟨k, rfl⟩ : ∃ k, n = k + 1 := ⟨n - 1, by omega⟩
  have hk : k < t.length := by omega
  simp only [tget, List.getElem?_eq_getElem hk] at h
  simp only [tset]
  have : t[k] = some a := by simpa using h
  rw [← this]; simp

/-! ## Occupied entries -/

theorem mem_entriesFrom (t : List (Option α)) (k n : Nat) (a : α) :
    (n, a) ∈ entriesFrom k t ↔ k ≤ n ∧ t[n - k]? = some (some a) := by
  induction t generalizing k with
  | nil => simp [entriesFrom]
  | cons o t ih =>
    have step : ∀ h : k + 1 ≤ n, t[n - (k + 1)]? = (o :: t)[n - k]? := by
      intro h
      rw [show n - k = (n - (k + 1)) + 1 by omega]; simp
    cases o with
    | none =>
      simp only [entriesFrom, ih]
      constructor
      · rintro ⟨h1, h2⟩; exact ⟨by omega, by rw [← step h1]; exact h2⟩
      · rintro ⟨h1, h2⟩
        by_cases h : n = k
        · subst h; simp at h2
        · exact ⟨by omega, by rw [step (by omega)]; exact h2⟩
    | some b =>
      simp only [entriesFrom, List.mem_cons, Prod.mk.injEq, ih]
      constructor
      · rintro (⟨rfl, rfl⟩ | ⟨h1, h2⟩)
        · simp
        · exact ⟨by omega, by rw [← step h1]; exact h2⟩
      · rintro ⟨h1, h2⟩
        by_cases h : n = k
        · subst h; simp at h2; exact .inl ⟨rfl, h2.symm⟩
        · exact .inr ⟨by omega, by rw [step (by omega)]; exact h2⟩

/-- The occupied entries are what reading each number gives. -/
theorem mem_entries (t : List (Option α)) (n : Nat) (a : α) : (n, a) ∈ entries t ↔ tget t n = some a := by
  unfold entries
  rw [mem_entriesFrom]
  cases n with
  | zero => simp
  | succ n => simp [tget, Option.join_eq_some_iff]

/-! ## The lowest free slot -/

theorem lowestFreeFrom_spec (t : List (Option α)) (k n : Nat) (h : lowestFreeFrom k t = some n) :
    k ≤ n ∧ n < k + t.length ∧ t[n - k]? = some none := by
  induction t generalizing k with
  | nil => simp [lowestFreeFrom] at h
  | cons o t ih =>
    cases o with
    | none => simp [lowestFreeFrom] at h; subst h; simp
    | some b =>
      simp only [lowestFreeFrom] at h
      obtain ⟨h1, h2, h3⟩ := ih (k + 1) h
      refine ⟨by omega, by simp; omega, ?_⟩
      rw [show n - k = (n - (k + 1)) + 1 by omega]; simpa using h3

/-- The lowest free slot is in the table and free. -/
theorem lowestFree_spec (t : List (Option α)) (n : Nat) (h : lowestFree t = some n) :
    1 ≤ n ∧ n ≤ t.length ∧ tget t n = none := by
  obtain ⟨h1, h2, h3⟩ := lowestFreeFrom_spec t 1 n h
  refine ⟨h1, by omega, ?_⟩
  obtain ⟨k, rfl⟩ : ∃ k, n = k + 1 := ⟨n - 1, by omega⟩
  have h4 : t[k]? = some none := by simpa using h3
  simp [tget, h4]

/-! ## The dirty queue (R163) -/

/-- A checkpoint keeps the queue free of repeats. -/
theorem enqueue_nodup (id : ImageId) (q : List ImageId) (h : q.Nodup) : (enqueue id q).Nodup := by
  unfold enqueue
  split
  · exact h
  · rename_i hn
    rw [List.nodup_append]
    refine ⟨h, by simp, ?_⟩
    rintro a ha b hb rfl
    simp at hb; exact hn (hb ▸ ha)

/-- The image checkpointed stands in the queue. -/
@[simp] theorem mem_enqueue_self (id : ImageId) (q : List ImageId) : id ∈ enqueue id q := by
  unfold enqueue
  split <;> simp_all

/-- What stands in the queue after a checkpoint. -/
@[simp] theorem mem_enqueue (i id : ImageId) (q : List ImageId) : i ∈ enqueue id q ↔ i ∈ q ∨ i = id := by
  unfold enqueue
  split <;> simp_all

end Sys2Proof.Machine
end

