-- ==== Sys2Proof/Laws/Blind.lean ====
section
/-! SUPPORT. The record operations neither read nor write the request port: each commutes with a change of the port. A request's
effect on the records is therefore the same whatever the frame that brought it left in the port. -/

namespace Sys2Proof.Machine

/-- The state with its port replaced. -/
def State.withPort (p : Port) (s : State) : State := { s with port := p }

/-- An operation that neither reads nor writes the port. -/
def PortBlind (f : State → State) : Prop := ∀ p s, f (s.withPort p) = (f s).withPort p

@[simp] theorem State.withPort_withPort (p q : Port) (s : State) : (s.withPort p).withPort q = s.withPort q := rfl
@[simp] theorem State.withPort_port (p : Port) (s : State) : (s.withPort p).port = p := rfl
@[simp] theorem State.withPort_self (s : State) : s.withPort s.port = s := rfl

theorem PortBlind.comp {f g : State → State} (hf : PortBlind f) (hg : PortBlind g) : PortBlind (fun s => f (g s)) := by
  intro p s; simp only [hg p s, hf p]

theorem PortBlind.foldl {α : Type} (f : State → α → State) (h : ∀ a, PortBlind (fun s => f s a)) (l : List α) :
    PortBlind (fun s => l.foldl f s) := by
  induction l with
  | nil => intro p s; rfl
  | cons a l ih =>
    intro p s
    simp only [List.foldl_cons]
    have h1 := h a p s
    simp only at h1
    rw [h1]
    exact ih p (f s a)

theorem blind_setCabinet (c : Nat) (x : Option Cabinet) : PortBlind (State.setCabinet c x) := fun _ _ => rfl
theorem blind_setProfile (n : Nat) (x : Option Profile) : PortBlind (State.setProfile n x) := fun _ _ => rfl
theorem blind_setString (k : Nat) (x : Option StringRecord) : PortBlind (State.setString k x) := fun _ _ => rfl
theorem blind_setPermit (k : Nat) (x : Option Permit) : PortBlind (State.setPermit k x) := fun _ _ => rfl
theorem blind_setVisit (v : Nat) (x : Option Visit) : PortBlind (State.setVisit v x) := fun _ _ => rfl
theorem blind_checkpoint (id : ImageId) : PortBlind (State.checkpoint id) := fun _ _ => rfl
theorem blind_attend (f : Attention → Attention) : PortBlind (State.attend f) := fun _ _ => rfl
theorem blind_recompute : PortBlind State.recompute := fun _ _ => rfl

theorem blind_post (c : Nat) (n : Notice) : PortBlind (State.post c n) := by
  intro p s
  change (match s.cabinet? c with | none => _ | some x => _) = _
  unfold State.post
  cases s.cabinet? c <;> rfl

theorem blind_retract (c : Nat) (n : Notice) : PortBlind (State.retract c n) := by
  intro p s
  change (match s.cabinet? c with | none => _ | some x => _) = _
  unfold State.retract
  cases s.cabinet? c <;> rfl

theorem blind_commit (k : Nat) (w : Work) : PortBlind (State.commit k w) := by
  intro p s
  unfold State.commit
  cases w.changed <;> cases w.save <;> rfl

theorem blind_workOn (k : Nat) (f : Option Profile → Work → Work) : PortBlind (State.workOn k f) := by
  intro p s
  change (match s.string? k with | none => _ | some r => _) = _
  unfold State.workOn
  cases s.string? k with
  | none => rfl
  | some r => exact blind_commit k _ p s

theorem blind_commission (k : Nat) (r : StringRecord) : PortBlind (State.commission k r) := blind_commit k _

theorem blind_freeString (k : Nat) : PortBlind (State.freeString k) := fun _ _ => rfl

theorem blind_setPulse (c pos : Nat) : PortBlind (State.setPulse c pos) := by
  intro p s
  change (match s.cabinet? c with | none => _ | some x => _) = _
  unfold State.setPulse
  cases s.cabinet? c <;> rfl

theorem blind_freePermit (k : Nat) : PortBlind (State.freePermit k) := fun _ _ => rfl

theorem blind_closePermit (k : Nat) : PortBlind (State.closePermit k) := by
  intro p s
  change (match s.permit? k with | none => _ | some x => _) = _
  unfold State.closePermit
  cases s.permit? k with
  | none => rfl
  | some q =>
    simp only
    split
    · rw [blind_post]; rfl
    · rfl

theorem blind_recallPermit (k : Nat) (q : Permit) : PortBlind (State.recallPermit k q) := by
  intro p s
  unfold State.recallPermit
  rw [blind_post]; rfl

theorem blind_releaseTarget (it : Item) : PortBlind (State.releaseTarget it) := by
  intro p s
  unfold State.releaseTarget
  split
  · exact blind_workOn _ _ p s
  · rfl

theorem blind_storeItem (v n : Nat) (it : Item) : PortBlind (State.storeItem v n it) := by
  intro p s
  change (match s.visit? v with | none => _ | some r => _) = _
  unfold State.storeItem
  cases s.visit? v <;> rfl

theorem blind_profileWriteOn (n : Nat) (q : Profile) (k : Nat) : PortBlind (fun s => State.profileWriteOn n q s k) := by
  intro p s
  change (match s.string? k with | none => _ | some r => _) = _
  simp only [State.profileWriteOn]
  cases s.string? k with
  | none => rfl
  | some r =>
    simp only
    split
    · exact blind_workOn _ _ p s
    · rfl

theorem blind_writeProfile (n : Nat) (q : Profile) : PortBlind (State.writeProfile n q) :=
  PortBlind.comp (f := State.recompute) blind_recompute
    (PortBlind.comp (f := fun s => (numbers Config.stringCount).foldl (State.profileWriteOn n q) s)
      (PortBlind.foldl _ (fun k => blind_profileWriteOn n q k) _) (fun _ _ => rfl))

theorem blind_handResult (it : Item) (value : Nat) : PortBlind (State.handResult it value) := by
  intro p s
  unfold State.handResult
  cases it.kind
  · rfl
  · rfl
  · simp only; rw [blind_workOn]; rfl
  · simp only; rw [blind_workOn]; rfl

theorem blind_abandonIn (freed : List Nat) (w : Nat) : PortBlind (fun s => State.abandonIn freed s w) := by
  intro p s
  change (match s.visit? w with | none => _ | some r => _) = _
  simp only [State.abandonIn]
  cases s.visit? w with
  | none => rfl
  | some x => simp only; split <;> rfl

theorem blind_closeVisit (v : Nat) : PortBlind (State.closeVisit v) := by
  intro p s
  unfold State.closeVisit
  have h1 := PortBlind.foldl State.closeVisitPermit (fun e => blind_closePermit e.1) (s.permitsOfVisit v) p s
  have h2 := PortBlind.foldl (fun t k => State.freeString k t) (fun k => blind_freeString k) (s.retiredOf v) p
  have h3 := PortBlind.foldl (State.abandonIn (s.retiredOf v)) (fun w => blind_abandonIn _ w)
    ((numbers Config.visitCount).filter (fun w => w != v)) p
  simp only at h1 h2 h3
  change State.recompute (State.checkpoint _ (State.setVisit v none (List.foldl (State.abandonIn (s.retiredOf v))
    (List.foldl (fun t k => State.freeString k t) (List.foldl State.closeVisitPermit (s.withPort p) (s.permitsOfVisit v))
      (s.retiredOf v)) _))) = _
  rw [h1, h2, h3]
  rfl

end Sys2Proof.Machine
end

