-- ==== Sys2Proof/Laws/Ops.lean ====
section
/-! SUPPORT. One lemma for each shared operation that says what it can do, so that proofs cite it instead of unfolding
the operation. -/

namespace Sys2Proof.Machine

/-! ## Notices (R40) -/

/-- A posting to a Present cabinet fills its slot with a new serial and changes nothing else. -/
theorem State.post_present (c : Nat) (n : Notice) (s : State) (x : Cabinet) (h : s.cabinet? c = some x) :
    s.post c n = { s with
      cabinets := tset s.cabinets c (some { x with notice := some { notice := n, serial := s.link.nextSerial } })
      link := { s.link with nextSerial := s.link.nextSerial + 1 } } := by
  simp [State.post, h, State.setCabinet]

/-- A posting to an Absent cabinet changes nothing. -/
theorem State.post_absent (c : Nat) (n : Notice) (s : State) (h : s.cabinet? c = none) : s.post c n = s := by
  simp [State.post, h]

/-- A retraction from a Present cabinet changes its notice slot alone. -/
theorem State.retract_present (c : Nat) (n : Notice) (s : State) (x : Cabinet) (h : s.cabinet? c = some x) :
    s.retract c n = { s with cabinets := tset s.cabinets c (some { x with notice := retracted n x.notice }) } := by
  simp [State.retract, h, State.setCabinet]

/-! ## Records of the String Table -/

/-- What a commit of worked fields changes: the slot, the cause where the state changed, the queue where an image is due. -/
theorem State.commit_eq (k : Nat) (w : Work) (s : State) :
    s.commit k w = { s with
      strings := tset s.strings k (some w.r)
      attention := if w.changed = true then raiseStringChanged k s.attention else s.attention
      store := { s.store with queue := if w.save = true then enqueue (stringImage k) s.store.queue else s.store.queue } } := by
  unfold State.commit
  cases w.changed <;> cases w.save <;> rfl

/-- Work on a free slot does nothing. -/
theorem State.workOn_free (k : Nat) (f : Option Profile → Work → Work) (s : State) (h : s.string? k = none) :
    s.workOn k f = s := by
  simp [State.workOn, h]

/-- Work on a record is the commit of what the work makes of it and of its profile. -/
theorem State.workOn_record (k : Nat) (f : Option Profile → Work → Work) (s : State) (r : StringRecord)
    (h : s.string? k = some r) : s.workOn k f = s.commit k (f (s.profile? r.profile) (startWork r)) := by
  simp [State.workOn, h]

/-- A freed string slot: the entry, its image and its cause (R55, R61). -/
theorem State.freeString_eq (k : Nat) (s : State) :
    s.freeString k = { s with
      strings := tset s.strings k none
      attention := raiseStringChanged k s.attention
      store := { s.store with queue := enqueue (stringImage k) s.store.queue } } := rfl

/-! ## Permits (R126) -/

/-- A freed permit slot: the entry and its image. -/
theorem State.freePermit_eq (k : Nat) (s : State) :
    s.freePermit k = { s with
      permits := tset s.permits k none
      store := { s.store with queue := enqueue (permitImage k) s.store.queue } } := rfl

/-- A close of a Granted or Returning permit posts WITHDRAW and frees the slot; of another, it frees the slot. -/
theorem State.closePermit_standing (k : Nat) (s : State) (p : Permit) (h : s.permit? k = some p) :
    s.closePermit k =
      (if p.state = .granted ∨ p.state = .returning then s.post p.cabinet .withdraw else s).freePermit k := by
  simp [State.closePermit, h]

/-- A close of a free slot does nothing. -/
theorem State.closePermit_free (k : Nat) (s : State) (h : s.permit? k = none) : s.closePermit k = s := by
  simp [State.closePermit, h]

/-- A close of a Granted permit leaves every other slot of the table as it was, and its own slot free. -/
theorem State.closeIfGranted_permit (s : State) (k j : Nat) :
    (s.closeIfGranted k).permit? j = if j = k ∧ s.isGranted k = true then none else s.permit? j := by
  unfold State.closeIfGranted
  by_cases hg : s.isGranted k = true
  · obtain ⟨p, hp, hs⟩ : ∃ p, s.permit? k = some p ∧ p.state = .granted := by
      cases h : s.permit? k with
      | none => simp [State.isGranted, h] at hg
      | some p => exact ⟨p, rfl, by simpa [State.isGranted, h] using hg⟩
    have hpost : (s.post p.cabinet .withdraw).permits = s.permits := by
      cases hc : s.cabinet? p.cabinet with
      | none => rw [State.post_absent _ _ _ hc]
      | some x => rw [State.post_present _ _ _ _ hc]
    rw [if_pos hg, State.closeRaising, State.closePermit_standing k s p hp, if_pos (Or.inl hs)]
    simp only [State.freePermit, State.permit?, State.attend, State.checkpoint, State.setPermit, hpost, hg, and_true]
    by_cases hj : j = k
    · subst hj
      rw [if_pos rfl, tget_tset_some _ _ p none hp]
    · rw [if_neg hj, tget_tset_ne _ _ _ _ hj]
  · rw [if_neg hg, if_neg (fun h => hg h.2)]

/-! ## The ask and the port -/

/-- A reply changes the port alone (R178, R179). -/
theorem State.reply_eq (code : Byte) (res : ResultCode) (body : List Byte) (s : State) :
    s.reply code res body = { s with port := { s.port with
      state := .replyReady, reply := some { code := code, result := resultCode res, body := body } } } := rfl

/-- Without a waiting ask nothing ends (R116). -/
theorem State.endAsk_none (res : ResultCode) (s : State) (h : s.ask = none) : s.endAsk res = s := by
  simp [State.endAsk, h]

/-- The end of a waiting ask takes the ask away and gives the port its refusal (R116). -/
theorem State.endAsk_some (res : ResultCode) (s : State) (a : Ask) (h : s.ask = some a) :
    s.endAsk res = { s with
      ask := none
      port := { s.port with
        state := .replyReady, reply := some { code := askCode, result := resultCode res, body := [] } } } := by
  simp [State.endAsk, h, State.reply]

/-- A recomputation forms the Group Table anew and can only add MARGIN SHORT marks (R96, R105). -/
theorem State.recompute_eq (s : State) :
    s.recompute = { s with
      groups := (numbers Config.groupCount).map (s.figures none)
      attention :=
        raiseMarginShort (enteredShort 1 s.groups ((numbers Config.groupCount).map (s.figures none))) s.attention } := rfl

/-- The figures of a group read the configuration, the cabinets, the strings, the profiles and the permits, and nothing
else (R97). -/
theorem State.figures_congr (s t : State) (out : Option Nat) (g : Nat) (h1 : s.floor.config = t.floor.config)
    (h2 : s.cabinets = t.cabinets) (h3 : s.strings = t.strings) (h4 : s.profiles = t.profiles) (h5 : s.permits = t.permits) :
    s.figures out g = t.figures out g := by
  have hm : s.members = t.members := by funext g; simp [State.members, h2]
  have hw : s.withheld = t.withheld := by funext c; simp [State.withheld, h5]
  have hc : s.counted = t.counted := by funext o c x; simp [State.counted, hw]
  have hl : s.groupLoad g = t.groupLoad g := by simp [State.groupLoad, hm]
  have hr : s.countedRated out g = t.countedRated out g := by simp [State.countedRated, hm, hc]
  have he : s.energyTerm out g = t.energyTerm out g := by
    funext r; simp [State.energyTerm, State.cabinet?, State.profile?, h2, h4, hc]
  have hu : s.usableEnergy out g = t.usableEnergy out g := by simp [State.usableEnergy, h3, he]
  simp only [State.figures, h1, hm, hl, hr, hu]

/-! ## Time and the utility filter (R4) -/

/-- The filter accepts a differing level that has held for the filter time, and else leaves no trace. -/
theorem State.judgeFilter_eq (s : State) :
    s.judgeFilter =
      if s.operating = true ∧ s.floor.config.filterTime ≤ s.floor.senseHeld ∧ utilityOfLevel s.floor.sense ≠ s.floor.utility
      then s.acceptUtility (utilityOfLevel s.floor.sense) else s := rfl

/-- Time passes for the running part alone: it is counted, and the filter judges. -/
theorem State.passTime_running (ms : Nat) (s : State) (h : s.phase = .running) :
    s.passTime ms = (s.countTime ms).judgeFilter := by
  simp [State.passTime, h]

/-- Without power and while RESET is held nothing is timed. -/
theorem State.passTime_off (ms : Nat) (s : State) (h : s.phase ≠ .running) : s.passTime ms = s := by
  unfold State.passTime
  cases hp : s.phase <;> simp_all

/-- Where the level is the accepted one, or has not held for the filter time, the passing of time is the count of it alone. -/
theorem State.passTime_counts (ms : Nat) (s : State) (h : s.phase = .running)
    (hn : (s.countTime ms).operating = true → s.floor.config.filterTime ≤ min (s.floor.senseHeld + ms) Config.filterLimit →
      utilityOfLevel s.floor.sense = s.floor.utility) : s.passTime ms = s.countTime ms := by
  rw [State.passTime_running ms s h, State.judgeFilter_eq, if_neg]
  rintro ⟨h1, h2, h3⟩
  exact h3 (hn h1 h2)

/-! ## The store (R164 to R168) -/

/-- The end of a write while the part runs. -/
theorem State.endRunningWrite_writing (o : WriteOutcome) (s : State) (w : ImageWrite) (h : s.store.writer = some w) :
    s.endRunningWrite o =
      match o with
      | .matched => s.finishWrite w o
      | .differs _ => ((s.finishWrite w o).attend raiseStoreFault).checkpoint w.id := by
  cases o <;> simp [State.endRunningWrite, h]

/-- With the writer idle no write ends. -/
theorem State.endRunningWrite_idle (o : WriteOutcome) (s : State) (h : s.store.writer = none) : s.endRunningWrite o = s := by
  simp [State.endRunningWrite, h]

/-- The end of a write while RESET is held: its image, and an idle writer. -/
theorem State.endResetWrite_writing (o : WriteOutcome) (s : State) (w : ImageWrite) (h : s.store.writer = some w) :
    s.endResetWrite o = s.finishWrite w o := by
  simp [State.endResetWrite, h]

/-- With the writer idle no write ends. -/
theorem State.endResetWrite_idle (o : WriteOutcome) (s : State) (h : s.store.writer = none) : s.endResetWrite o = s := by
  simp [State.endResetWrite, h]

/-- After the end of its write the writer is idle. -/
theorem State.endResetWrite_writer (o : WriteOutcome) (s : State) : (s.endResetWrite o).store.writer = none := by
  unfold State.endResetWrite
  cases h : s.store.writer <;> simp [State.finishWrite, h]

/-- Putting an image keeps the sizes of the image tables. -/
theorem putImage_sized (im : Images) (n : Nat) (good : Bool) (number : Nat) (c : Content) (h : im.Sized) :
    (putImage im n good number c).Sized := by
  have hs : ∀ {α : Type} (t : List (Image (Option α))) (v : Image (Option α)), (setImageAt t n v).length = t.length := by
    intro α t v
    cases n <;> simp [setImageAt]
  cases c <;> constructor <;> simp [putImage, hs, h.profiles, h.cabinets, h.strings, h.permits, h.visits]

end Sys2Proof.Machine
end

