-- ==== Sys2Proof/Laws/PerInstr.lean ====
section
/-! SUPPORT. The per-command family `FrameEncoding`: what the catalogue of R192 says of a command's frame, one lemma for
each constructor. -/

namespace Sys2Proof.Laws

/-- A request of the catalogue has a frame, its code names it, and its body fits in a REQUEST frame (R179, R192); the bytes
of a frame are never none. -/
def FrameEncoding.Statement (i : Instr) : Prop :=
  (∀ code need, requestRow i = some (code, need) →
    need ≤ Config.bodyLimit ∧ ∃ f, requestFrame i = some f ∧ requestOfCode code f = some i) ∧
  (∀ bs, encodeFrame i = some bs → bs ≠ [])

/-- The statement for a request of the catalogue, from its row. -/
theorem frameEncoding_of_row {i : Instr} {c : Byte} {n : Nat} {f : RequestFrame} (hr : requestRow i = some (c, n))
    (hf : requestFrame i = some f) (hn : n ≤ Config.bodyLimit) (hc : requestOfCode c f = some i) :
    FrameEncoding.Statement i := by
  refine ⟨fun code need h => ?_, fun bs h => ?_⟩
  · rw [hr] at h
    cases h
    exact ⟨hn, f, hf, hc⟩
  · simp only [encodeFrame, hr, hf, Option.some.injEq] at h
    simp [← h]

/-- The statement for a command outside the catalogue, from its other frame. -/
theorem frameEncoding_of_other {i : Instr} (hr : requestRow i = none)
    (ho : ∀ bs, encodeOtherFrame i = some bs → bs ≠ []) : FrameEncoding.Statement i := by
  refine ⟨fun code need h => ?_, fun bs h => ho bs ?_⟩
  · rw [hr] at h
    cases h
  · simpa only [encodeFrame, hr] using h

/-- FLOOR_READ. -/
theorem FrameEncoding.floorRead (f : RequestFrame) : FrameEncoding.Statement (.floorRead f) :=
  frameEncoding_of_row rfl rfl (by decide) rfl

/-- FLOOR_CONFIG_WRITE. -/
theorem FrameEncoding.floorConfigWrite (f : RequestFrame) : FrameEncoding.Statement (.floorConfigWrite f) :=
  frameEncoding_of_row rfl rfl (by decide) rfl

/-- CLOCK_SET. -/
theorem FrameEncoding.clockSet (f : RequestFrame) : FrameEncoding.Statement (.clockSet f) :=
  frameEncoding_of_row rfl rfl (by decide) rfl

/-- ATTENTION_READ. -/
theorem FrameEncoding.attentionRead (f : RequestFrame) : FrameEncoding.Statement (.attentionRead f) :=
  frameEncoding_of_row rfl rfl (by decide) rfl

/-- CABINET_SET. -/
theorem FrameEncoding.cabinetSet (f : RequestFrame) : FrameEncoding.Statement (.cabinetSet f) :=
  frameEncoding_of_row rfl rfl (by decide) rfl

/-- CABINET_DROP. -/
theorem FrameEncoding.cabinetDrop (f : RequestFrame) : FrameEncoding.Statement (.cabinetDrop f) :=
  frameEncoding_of_row rfl rfl (by decide) rfl

/-- CABINET_READ. -/
theorem FrameEncoding.cabinetRead (f : RequestFrame) : FrameEncoding.Statement (.cabinetRead f) :=
  frameEncoding_of_row rfl rfl (by decide) rfl

/-- PROFILE_WRITE. -/
theorem FrameEncoding.profileWrite (f : RequestFrame) : FrameEncoding.Statement (.profileWrite f) :=
  frameEncoding_of_row rfl rfl (by decide) rfl

/-- PROFILE_READ. -/
theorem FrameEncoding.profileRead (f : RequestFrame) : FrameEncoding.Statement (.profileRead f) :=
  frameEncoding_of_row rfl rfl (by decide) rfl

/-- STRING_COMMISSION. -/
theorem FrameEncoding.stringCommission (f : RequestFrame) : FrameEncoding.Statement (.stringCommission f) :=
  frameEncoding_of_row rfl rfl (by decide) rfl

/-- STRING_READ. -/
theorem FrameEncoding.stringRead (f : RequestFrame) : FrameEncoding.Statement (.stringRead f) :=
  frameEncoding_of_row rfl rfl (by decide) rfl

/-- STRING_PULSE. -/
theorem FrameEncoding.stringPulse (f : RequestFrame) : FrameEncoding.Statement (.stringPulse f) :=
  frameEncoding_of_row rfl rfl (by decide) rfl

/-- STRING_DROP. -/
theorem FrameEncoding.stringDrop (f : RequestFrame) : FrameEncoding.Statement (.stringDrop f) :=
  frameEncoding_of_row rfl rfl (by decide) rfl

/-- PERMIT_ASK. -/
theorem FrameEncoding.permitAsk (f : RequestFrame) : FrameEncoding.Statement (.permitAsk f) :=
  frameEncoding_of_row rfl rfl (by decide) rfl

/-- PERMIT_READ. -/
theorem FrameEncoding.permitRead (f : RequestFrame) : FrameEncoding.Statement (.permitRead f) :=
  frameEncoding_of_row rfl rfl (by decide) rfl

/-- PERMIT_RECALL. -/
theorem FrameEncoding.permitRecall (f : RequestFrame) : FrameEncoding.Statement (.permitRecall f) :=
  frameEncoding_of_row rfl rfl (by decide) rfl

/-- PERMIT_CANCEL. -/
theorem FrameEncoding.permitCancel (f : RequestFrame) : FrameEncoding.Statement (.permitCancel f) :=
  frameEncoding_of_row rfl rfl (by decide) rfl

/-- VISIT_OPEN. -/
theorem FrameEncoding.visitOpen (f : RequestFrame) : FrameEncoding.Statement (.visitOpen f) :=
  frameEncoding_of_row rfl rfl (by decide) rfl

/-- VISIT_ADD. -/
theorem FrameEncoding.visitAdd (f : RequestFrame) : FrameEncoding.Statement (.visitAdd f) :=
  frameEncoding_of_row rfl rfl (by decide) rfl

/-- VISIT_START. -/
theorem FrameEncoding.visitStart (f : RequestFrame) : FrameEncoding.Statement (.visitStart f) :=
  frameEncoding_of_row rfl rfl (by decide) rfl

/-- VISIT_FINISH. -/
theorem FrameEncoding.visitFinish (f : RequestFrame) : FrameEncoding.Statement (.visitFinish f) :=
  frameEncoding_of_row rfl rfl (by decide) rfl

/-- VISIT_ABANDON. -/
theorem FrameEncoding.visitAbandon (f : RequestFrame) : FrameEncoding.Statement (.visitAbandon f) :=
  frameEncoding_of_row rfl rfl (by decide) rfl

/-- VISIT_CLOSE. -/
theorem FrameEncoding.visitClose (f : RequestFrame) : FrameEncoding.Statement (.visitClose f) :=
  frameEncoding_of_row rfl rfl (by decide) rfl

/-- VISIT_READ. -/
theorem FrameEncoding.visitRead (f : RequestFrame) : FrameEncoding.Statement (.visitRead f) :=
  frameEncoding_of_row rfl rfl (by decide) rfl

/-- UNKNOWN_REQUEST. -/
theorem FrameEncoding.unknownRequest (code : Byte) (f : RequestFrame) : FrameEncoding.Statement (.unknownRequest code f) :=
  frameEncoding_of_other rfl (by simp [encodeOtherFrame])

/-- STATUS_PEEK. -/
theorem FrameEncoding.statusPeek (first : Byte) : FrameEncoding.Statement (.statusPeek first) :=
  frameEncoding_of_other rfl (by simp [encodeOtherFrame])

/-- DISREGARDED_FRAME. -/
theorem FrameEncoding.disregardedFrame (first : Byte) (rest : List Byte) : FrameEncoding.Statement (.disregardedFrame first rest) :=
  frameEncoding_of_other rfl (by simp [encodeOtherFrame])

/-- FETCH. -/
theorem FrameEncoding.fetch (rest : List Byte) : FrameEncoding.Statement (.fetch rest) :=
  frameEncoding_of_other rfl (by simp [encodeOtherFrame])

/-- URGENT. -/
theorem FrameEncoding.urgent (order : Byte) (rest : List Byte) : FrameEncoding.Statement (.urgent order rest) :=
  frameEncoding_of_other rfl (by simp [encodeOtherFrame])

/-- URGENT_CANCEL. -/
theorem FrameEncoding.urgentCancel (rest : List Byte) : FrameEncoding.Statement (.urgentCancel rest) :=
  frameEncoding_of_other rfl (by simp [encodeOtherFrame])

/-- PORT_RESET. -/
theorem FrameEncoding.portReset (rest : List Byte) : FrameEncoding.Statement (.portReset rest) :=
  frameEncoding_of_other rfl (by simp [encodeOtherFrame])

/-- POLL_SLOT. -/
theorem FrameEncoding.pollSlot (orderFirst : Bool) : FrameEncoding.Statement (.pollSlot orderFirst) :=
  frameEncoding_of_other rfl (by simp [encodeOtherFrame])

/-- BREAK_SLOT. -/
theorem FrameEncoding.breakSlot : FrameEncoding.Statement .breakSlot :=
  frameEncoding_of_other rfl (by simp [encodeOtherFrame])

/-- IDLE_SLOT. -/
theorem FrameEncoding.idleSlot : FrameEncoding.Statement .idleSlot :=
  frameEncoding_of_other rfl (by simp [encodeOtherFrame])

/-- NO_REPLY. -/
theorem FrameEncoding.noReply : FrameEncoding.Statement .noReply :=
  frameEncoding_of_other rfl (by simp [encodeOtherFrame])

/-- NO_REPLY_IN_TIME. -/
theorem FrameEncoding.noReplyInTime : FrameEncoding.Statement .noReplyInTime :=
  frameEncoding_of_other rfl (by simp [encodeOtherFrame])

/-- REPLY_END. -/
theorem FrameEncoding.replyEnd (chars : List RawChar) : FrameEncoding.Statement (.replyEnd chars) :=
  frameEncoding_of_other rfl (by simp [encodeOtherFrame])

/-- ASK_WAIT_END. -/
theorem FrameEncoding.askWaitEnd : FrameEncoding.Statement .askWaitEnd :=
  frameEncoding_of_other rfl (by simp [encodeOtherFrame])

/-- ASK_EARLY_END. -/
theorem FrameEncoding.askEarlyEnd : FrameEncoding.Statement .askEarlyEnd :=
  frameEncoding_of_other rfl (by simp [encodeOtherFrame])

/-- MINUTE_TICK. -/
theorem FrameEncoding.minuteTick : FrameEncoding.Statement .minuteTick :=
  frameEncoding_of_other rfl (by simp [encodeOtherFrame])

/-- CALENDAR_STEP. -/
theorem FrameEncoding.calendarStep (slot : Nat) : FrameEncoding.Statement (.calendarStep slot) :=
  frameEncoding_of_other rfl (by simp [encodeOtherFrame])

/-- AUTOMATIC_PULSE. -/
theorem FrameEncoding.automaticPulse (slot : Nat) : FrameEncoding.Statement (.automaticPulse slot) :=
  frameEncoding_of_other rfl (by simp [encodeOtherFrame])

/-- GRANT_TIMEOUT. -/
theorem FrameEncoding.grantTimeout (slot : Nat) : FrameEncoding.Statement (.grantTimeout slot) :=
  frameEncoding_of_other rfl (by simp [encodeOtherFrame])

/-- PERMIT_OVERDUE. -/
theorem FrameEncoding.permitOverdue (slot : Nat) : FrameEncoding.Statement (.permitOverdue slot) :=
  frameEncoding_of_other rfl (by simp [encodeOtherFrame])

/-- VISIT_OVERTIME. -/
theorem FrameEncoding.visitOvertime (slot : Nat) : FrameEncoding.Statement (.visitOvertime slot) :=
  frameEncoding_of_other rfl (by simp [encodeOtherFrame])

/-- UTILITY_SENSE_EDGE. -/
theorem FrameEncoding.utilitySenseEdge (high : Bool) : FrameEncoding.Statement (.utilitySenseEdge high) :=
  frameEncoding_of_other rfl (by simp [encodeOtherFrame])

/-- UTILITY_CHANGE. -/
theorem FrameEncoding.utilityChange : FrameEncoding.Statement .utilityChange :=
  frameEncoding_of_other rfl (by simp [encodeOtherFrame])

/-- STORE_WRITE_BEGIN. -/
theorem FrameEncoding.storeWriteBegin : FrameEncoding.Statement .storeWriteBegin :=
  frameEncoding_of_other rfl (by simp [encodeOtherFrame])

/-- STORE_WRITE_END. -/
theorem FrameEncoding.storeWriteEnd (outcome : WriteOutcome) : FrameEncoding.Statement (.storeWriteEnd outcome) :=
  frameEncoding_of_other rfl (by simp [encodeOtherFrame])

/-- POWER_ON. -/
theorem FrameEncoding.powerOn : FrameEncoding.Statement .powerOn :=
  frameEncoding_of_other rfl (by simp [encodeOtherFrame])

/-- POWER_LOSS. -/
theorem FrameEncoding.powerLoss : FrameEncoding.Statement .powerLoss :=
  frameEncoding_of_other rfl (by simp [encodeOtherFrame])

/-- RESET_ASSERT. -/
theorem FrameEncoding.resetAssert (outcome : WriteOutcome) : FrameEncoding.Statement (.resetAssert outcome) :=
  frameEncoding_of_other rfl (by simp [encodeOtherFrame])

/-- RESET_LINE. -/
theorem FrameEncoding.resetLine : FrameEncoding.Statement .resetLine :=
  frameEncoding_of_other rfl (by simp [encodeOtherFrame])

/-- FIRST_UTILITY_JUDGEMENT. -/
theorem FrameEncoding.firstUtilityJudgement : FrameEncoding.Statement .firstUtilityJudgement :=
  frameEncoding_of_other rfl (by simp [encodeOtherFrame])

/-- FLOOR_CLOCK_SECOND. -/
theorem FrameEncoding.floorClockSecond : FrameEncoding.Statement .floorClockSecond :=
  frameEncoding_of_other rfl (by simp [encodeOtherFrame])

/-- CHIP_SELECT_ASSERTION. -/
theorem FrameEncoding.chipSelectAssertion : FrameEncoding.Statement .chipSelectAssertion :=
  frameEncoding_of_other rfl (by simp [encodeOtherFrame])

end Sys2Proof.Laws
end

