-- ==== Sys2Proof/Laws/Port.lean ====
section
/-! SUPPORT. What a frame does to the port, said once for every frame and once for every REQUEST frame. -/

namespace Sys2Proof.Machine

/-- Bit 1 of the status byte is OVERRUN (R177, R191). -/
theorem State.statusByte_overrun (s : State) : s.statusByte.getLsbD 1 = s.port.overrun := by
  unfold State.statusByte
  cases s.port.state == .replyReady <;> cases s.port.state == .working <;> cases s.port.state == .starting <;>
    cases s.port.urgent.isSome <;> cases s.port.late <;> cases s.port.dropped <;> cases s.port.overrun <;> cases s.attn <;> rfl

/-- A frame with no assertion before it sets the mark where OVERRUN stands (R177; log 7). -/
theorem State.seenAfter_unasserted (s : State) (h : s.port.frame = none) :
    s.seenAfter = (s.port.overrunSeen || s.port.overrun) := by
  simp only [State.seenAfter, State.frameStatus, h, Option.getD_none, State.statusByte_overrun]

/-- The port when the status byte of a frame has been shifted out. -/
def State.openedPort (s : State) : Port := { s.port with frame := some s.frameStatus, overrunSeen := s.seenAfter }

/-- A frame opens with its captured status byte, whose shift sets the overrun-seen mark. -/
theorem State.openFrame_eq (s : State) : s.openFrame.shiftStatus = s.withPort s.openedPort := by
  obtain ⟨ph, fl, ca, li, pr, st, gr, pe, ask, vi, sto, po, att, pend⟩ := s
  obtain ⟨pst, rep, req, urg, late, dr, ov, os, fr, sdo⟩ := po
  cases fr <;> simp [State.openFrame, State.captureStatus, State.shiftStatus, State.withPort, State.openedPort,
    State.frameStatus, State.seenAfter, showsOverrun]

/-- A frame taken while the part runs: its act on the state with the opened port, then the release. -/
theorem State.frameEvent_running (n : Nat) (tail : State → List Byte) (act : State → State) (s : State)
    (h : s.phase = .running) :
    s.frameEvent n tail act =
      (act (s.withPort s.openedPort)).closeFrame n (tail (s.withPort s.openedPort)) := by
  unfold State.frameEvent
  rw [h]
  simp only [State.openFrame_eq]

/-- Without power and in reset a frame leaves only its zeros (R190). -/
theorem State.frameEvent_off (n : Nat) (tail : State → List Byte) (act : State → State) (s : State)
    (h : s.phase ≠ .running) :
    s.frameEvent n tail act = { s with port := { s.port with frame := none, sdo := List.replicate n 0 } } := by
  unfold State.frameEvent
  cases hp : s.phase <;> simp_all [State.shiftZeros]

/-- The port in which a REQUEST frame taken in Idle reaches its block. -/
def State.requestPort (s : State) : Port :=
  { s.openedPort with overrun := s.port.overrun && !s.seenAfter, overrunSeen := false }

theorem State.clearOverrun_opened (s : State) :
    (s.withPort s.openedPort).clearOverrun = s.withPort s.requestPort := by
  unfold State.clearOverrun
  cases h : s.seenAfter <;> simp [State.withPort, State.openedPort, State.requestPort, h]

/-- A request that its block answers at once, with an effect `t` on the records that does not depend on the port. -/
theorem State.takeRequest_now {s t : State} {need : Nat} {f : RequestFrame} {code : Byte}
    {handle : List Byte → State → State × Answer} {res : ResultCode} {body : List Byte} (h : s.Takes need f)
    (hh : ∀ p, handle f.body (s.withPort p) = (t.withPort p, .now res body)) :
    s.takeRequest code need f handle = { t with port := s.repliedPort f code res body } := by
  obtain ⟨hr, hi, hl⟩ := h
  unfold State.takeRequest
  rw [State.frameEvent_running _ _ _ _ hr]
  have hi2 : (s.withPort s.openedPort).port.state = .idle := hi
  simp only [State.judgeRequest, hi2, hl, if_true, State.clearOverrun_opened, hh, State.answer]
  rfl

/-- A request that its block takes into a wait. -/
theorem State.takeRequest_waits {s t : State} {need : Nat} {f : RequestFrame} {code : Byte}
    {handle : List Byte → State → State × Answer} (h : s.Takes need f)
    (hh : ∀ p, handle f.body (s.withPort p) = (t.withPort p, .waits)) :
    s.takeRequest code need f handle = { t with port := { s.takenPort f with state := .working } } := by
  obtain ⟨hr, hi, hl⟩ := h
  unfold State.takeRequest
  rw [State.frameEvent_running _ _ _ _ hr]
  have hi2 : (s.withPort s.openedPort).port.state = .idle := hi
  simp only [State.judgeRequest, hi2, hl, if_true, State.clearOverrun_opened, hh, State.answer]
  rfl

end Sys2Proof.Machine
end

