-- ==== Sys2Proof/Tests/Slice0.lean ====
section
/-! SUPPORT. Tests: ill-formed commands refused, frames written out from the manual's encoding, single steps from the
manual's worked examples, and for each statement with hypotheses a concrete state and operands that meet them. -/

namespace Sys2Proof.Tests

open Sys2Proof Sys2Proof.Machine

-- One theorem at a time: each kernel evaluation would otherwise hold a thread of its own.
set_option Elab.async false

/-! ## Ill-formed commands, one for each check of `Instr.wellFormed` -/

/-- A body behind no length byte (R179). -/
def bodyWithoutLength : RequestFrame := { len := none, body := [0x01] }

theorem test_wf_request_body_without_length : (Instr.floorRead bodyWithoutLength).wellFormed = false := by decide
theorem test_wf_unknown_code_is_known :
    (Instr.unknownRequest 0x46 { len := some 0, body := [] }).wellFormed = false := by decide
theorem test_wf_unknown_body_without_length : (Instr.unknownRequest 0x0F bodyWithoutLength).wellFormed = false := by decide
theorem test_wf_disregarded_names_a_type : (Instr.disregardedFrame 0xA5 [0x00]).wellFormed = false := by decide
theorem test_wf_disregarded_of_one_byte : (Instr.disregardedFrame 0x42 []).wellFormed = false := by decide
theorem test_wf_fetch_of_one_byte : (Instr.fetch []).wellFormed = false := by decide
theorem test_wf_cancel_of_one_byte : (Instr.urgentCancel []).wellFormed = false := by decide
theorem test_wf_reset_of_one_byte : (Instr.portReset []).wellFormed = false := by decide
theorem test_wf_reply_without_characters : (Instr.replyEnd []).wellFormed = false := by decide
theorem test_wf_calendar_slot : (Instr.calendarStep 65).wellFormed = false := by decide
theorem test_wf_pulse_slot : (Instr.automaticPulse 0).wellFormed = false := by decide
theorem test_wf_timeout_slot : (Instr.grantTimeout 9).wellFormed = false := by decide
theorem test_wf_overdue_slot : (Instr.permitOverdue 0).wellFormed = false := by decide
theorem test_wf_overtime_slot : (Instr.visitOvertime 5).wellFormed = false := by decide
theorem test_wf_last_slots : ((Instr.calendarStep 64).wellFormed && (Instr.visitOvertime 4).wellFormed) = true := by decide

/-! ## Frames written out from R191 and R192, one for each family -/

theorem test_decode_clock_set : decodeFrame [0xA1, 0x03, 0x04, 0x66, 0xFF, 0x21, 0x10] =
    some (.clockSet { len := some 4, body := [0x66, 0xFF, 0x21, 0x10] }) := by decide
theorem test_decode_attention_read : decodeFrame [0xA1, 0x04, 0x00] =
    some (.attentionRead { len := some 0, body := [] }) := by decide
theorem test_decode_cabinet_read : decodeFrame [0xA1, 0x12, 0x02, 0x18, 0x01] =
    some (.cabinetRead { len := some 2, body := [0x18, 0x01] }) := by decide
theorem test_decode_profile_read : decodeFrame [0xA1, 0x21, 0x01, 0x04] =
    some (.profileRead { len := some 1, body := [0x04] }) := by decide
theorem test_decode_string_drop : decodeFrame [0xA1, 0x25, 0x01, 0x40] =
    some (.stringDrop { len := some 1, body := [0x40] }) := by decide
theorem test_decode_permit_ask : decodeFrame [0xA1, 0x30, 0x04, 0x02, 0x00, 0x5A, 0x00] =
    some (.permitAsk { len := some 4, body := [0x02, 0x00, 0x5A, 0x00] }) := by decide
theorem test_decode_visit_finish : decodeFrame [0xA1, 0x43, 0x07, 0x01, 0x02, 0x00, 0x00, 0x00, 0x9F, 0x60] =
    some (.visitFinish { len := some 7, body := [0x01, 0x02, 0x00, 0x00, 0x00, 0x9F, 0x60] }) := by decide
theorem test_decode_cut_before_length : decodeFrame [0xA1, 0x46] =
    some (.visitRead { len := none, body := [] }) := by decide
theorem test_decode_no_row_has_bits : decodeTableWord 8 0xA1 = none := by decide

/-! ## Helpers -/

/-- A request frame whose length byte counts its body. -/
def frame (body : List Byte) : RequestFrame := { len := some (BitVec.ofNat 8 body.length), body := body }

/-- The next state of a command. -/
def after (i : Instr) (s : State) : State :=
  match exec i s with
  | .next t => t
  | .fault _ => s
  | .refused _ => s

/-- The result code and body of the reply a command leaves in the port. -/
def replied (i : Instr) (s : State) : Option (Byte × List Byte) := (after i s).port.reply.map (fun r => (r.result, r.body))

/-- Three equal samples. -/
def flat (b : Bool) : Sample := { first := b, second := b, third := b }

/-- A sound character on the line (R21). -/
def lineChar (mark : Bool) (d : Byte) : RawChar :=
  { start := flat false, d0 := flat (d.getLsbD 0), d1 := flat (d.getLsbD 1), d2 := flat (d.getLsbD 2), d3 := flat (d.getLsbD 3),
    d4 := flat (d.getLsbD 4), d5 := flat (d.getLsbD 5), d6 := flat (d.getLsbD 6), d7 := flat (d.getLsbD 7),
    mark := flat mark, stop := flat true }

/-- A reply with its check character (R23). -/
def message (a : Byte) (rest : List Byte) : List RawChar :=
  lineChar true a :: (rest ++ [~~~((a :: rest).foldl (· + ·) 0)]).map (lineChar false)

/-- A report of one string at position 1: code character, mode, load, then the block's ten bytes (R30). -/
def report (c code mode : Byte) (load block : List Byte) : List RawChar :=
  message c (code :: mode :: load ++ block ++ List.replicate 30 0)

/-- Profile 1 of section 3.10. -/
def profile1 : Profile :=
  { capacity := 50, voltage := 480, life := 87600, tref := 250, step := 100, cycles := 250, w1 := 160, w2 := 256, w3 := 352,
    w4 := 512, reol := 1600, watch := 800, replace := 600, assumed := 350, interval := 30 }

/-- A cabinet that answers its polls, in Inverter. -/
def onlineCabinet : Cabinet :=
  { group := 1, rated := 3000, mode := .inverter, load := 620, age := 0, unauthorised := false, link := .online, expected := true,
    ack := false, notice := none, pulse := 0, errors := 0, failures := 0 }

/-- The record of slot 5 in section 3.10, before its sequence. -/
def record5 : StringRecord :=
  { cabinet := some 2, position := 1, profile := 1, day := 1, rb := some 42000, r := 44100, voltage := 0, current := 0,
    temperature := 350, life := 183400000, m := 0, s := 0, bucket := 44, event := none, soh := 817, resistanceIndicator := 917,
    lifeIndicator := 817, suspect := false, state := .good, sinceR := 0, owner := none }

/-- A permit that lets visit 1 work on cabinet 4. -/
def activePermit : Permit :=
  { cabinet := 4, visit := some 1, state := .active, remaining := 57, timeout := none, recallAsked := false, spare := 1,
    autonomy := 100 }

/-- A permit that waits for cabinet 3 to go to bypass. -/
def grantedPermit3 : Permit :=
  { cabinet := 3, visit := none, state := .granted, remaining := 30, timeout := some 15, recallAsked := false, spare := 1,
    autonomy := 100 }

/-- A work item without a result. -/
def someItem (k : ItemKind) (target : Nat) (st : ItemState) (p : Option Nat) : Item :=
  { kind := k, target := target, state := st, permit := p, result := none }

/-- An open visit with work in every state. -/
def openVisit : Visit :=
  { badge := 104227, opened := 1728003600, remaining := 480, overtime := false
    items := [someItem .inspectCabinet 4 .inProgress (some 1), someItem .baseline 5 .pending none,
      someItem .capacityTest 6 .interrupted none, someItem .replaceString 6 .pending none,
      someItem .capacityTest 5 .pending none, someItem .capacityTest 9 .inProgress (some 1),
      someItem .baseline 9 .inProgress none, someItem .inspectCabinet 1 .done none,
      someItem .replaceString 8 .inProgress (some 1), someItem .inspectCabinet 4 .abandoned none] }

/-- An open visit that can close: its work is over and its permit is Granted. -/
def closingVisit : Visit := { openVisit with items := [someItem .inspectCabinet 1 .done none] }

/-- The part in operation: cabinets 1 to 4 in group 1 and cabinet 5 in group 2, one profile, records in slots 5 to 10
(7 unattached, 8 Retiring, 10 Retired), an Active and two Granted permits, two visits. -/
def live : State :=
  ({ State.reset with
    floor := { State.reset.floor with utility := .present, clock := 1728003600, clockSet := true }
    cabinets := [some onlineCabinet, some onlineCabinet, some onlineCabinet, some { onlineCabinet with mode := .maintenanceBypass },
      some { onlineCabinet with group := 2 }] ++ List.replicate 19 none
    profiles := [some profile1, none, none, none]
    strings := [none, none, none, none, some record5, some { record5 with cabinet := some 4 },
      some { record5 with cabinet := none, suspect := true, state := .suspect },
      some { record5 with cabinet := some 4, position := 2, state := .retiring, owner := some 1 },
      some { record5 with position := 2 },
      some { record5 with cabinet := none, state := .retired, owner := some 2 }] ++ List.replicate 54 none
    permits := [some activePermit, some grantedPermit3, some { grantedPermit3 with cabinet := 5, visit := some 2 }] ++
      List.replicate 5 none
    visits := [some openVisit, some closingVisit, none, none]
    port := { Port.starting with state := .idle }
    attention := Attention.empty } : State).recompute

/-! ## Single steps from the manual's examples -/

/-- A POWER ON start of the delivered store is the reset state (R162, R170). -/
theorem test_power_on_of_delivered : after .powerOn (after .powerLoss State.reset) = State.reset := by decide +kernel

/-- The delivered part comes to Idle with UTILITY CHANGE (Present) beside START (section 9.8, frames 1 to 4). -/
theorem test_first_judgement_of_delivered :
    replied (.attentionRead (frame [])) (after .firstUtilityJudgement State.reset) =
      some (0x00, [0x02, 0x01, 0x01, 0x0C, 0x01, 0x00]) := by decide +kernel

/-- Section 9.8, frame 2: a FLOOR READ in Starting is discarded, with OVERRUN. -/
theorem test_request_in_starting : ((after (.floorRead (frame [])) State.reset).port.overrun,
    (after (.floorRead (frame [])) State.reset).port.reply) = (true, none) := by decide +kernel

/-- Section 1.8, step 2: group 9 and 9500 are clamped to 4 and 8000. -/
theorem test_cabinet_set_clamps : ((after (.cabinetSet (frame [0x02, 0x09, 0x25, 0x1C]))
    (after .firstUtilityJudgement State.reset)).cabinet? 2).map (fun x => (x.group, x.rated, x.age)) =
      some (4, 8000, 65535) := by decide +kernel

/-- CABINET READ's body ends with the string list, a count byte and the slot at each of positions 1..4 (R19, R192). -/
theorem test_cabinet_read_string_list : (replied (.cabinetRead (frame [0x02, 0x00])) live).map (fun r => r.2.drop 15) =
    some [0x04, 0x05, 0x09, 0x00, 0x00] := by decide +kernel

/-- Section 1.8, step 6: CABINET DROP 0 is refused NOT FOUND. -/
theorem test_cabinet_drop_zero : replied (.cabinetDrop (frame [0x00])) live = some (0x01, []) := by decide +kernel

/-- Section 1.8, step 8: a cabinet with a string is refused WRONG STATE. -/
theorem test_cabinet_drop_with_string : replied (.cabinetDrop (frame [0x02])) live = some (0x03, []) := by decide +kernel

/-- R23's example: data values that add to 1234 have the check value 45. -/
theorem test_check_value : checkValue [0xFF, 0xFF, 0xFF, 0xFF, 0xD6] = 45 := by decide

/-- Section 4.3.1: the calendar shares at 31.5, 47.0, 18.0, 70.0 and −20.0 °C. -/
theorem test_calendar_shares : [315, 470, 180, 700, -200].map (fun t => calendarShare profile1 (60 * t)) =
    [18816, 54756, 7401, 182640, 713] := by decide +kernel

/-- Section 4.3.1: the mixed window and the window just below zero. -/
theorem test_calendar_mixed : [19480, -30].map (calendarShare profile1) = [19842, 2095] := by decide +kernel

/-- Section 4.4.1: the cycle steps at the band edges. -/
theorem test_cycle_steps : [0, 1, 100, 101, 250, 400, 401, 900].map (fun q =>
    cycleShare profile1 (depthOf profile1 q) (bandWeight profile1 (depthOf profile1 q))) =
      [0, 5000, 500000, 808000, 2000000, 4400000, 6416000, 8000000] := by decide +kernel

/-- Section 4.4.1: a bucket of 174 is charged three times and holds 24. -/
theorem test_idle_bucket_repeats :
    ((idleBucketCharge profile1 (startWork { record5 with bucket := 174 })).r.bucket,
      (idleBucketCharge profile1 (startWork { record5 with bucket := 174 })).r.life) = (24, 184150000) := by decide +kernel

/-- The opening of a poll to cabinet 2. -/
def polling2 : State := after (.pollSlot true) { live with link := { live.link with remaining := [2] } }

/-- Section 3.10, step 1: voltage 5450, temperature 312, the idle bucket at 47. -/
theorem test_intake_inverter : ((after (.replyEnd (report 0x02 0x05 0x01 [0x6C, 0x02]
    [0x4A, 0x15, 0x04, 0x00, 0x38, 0x01, 0x03, 0x00, 0x00, 0x00])) polling2).string? 5).map
      (fun r => (r.voltage, r.temperature, r.bucket, r.life)) = some (5450, 312, 47, 183400000) := by decide +kernel

/-- Section 3.10, step 2: the event opens, with minutes 0, charge 12 and lowest voltage 4980. -/
theorem test_intake_battery : ((after (.replyEnd (report 0x02 0x05 0x02 [0x6C, 0x02]
    [0x74, 0x13, 0xED, 0x17, 0x38, 0x01, 0x0C, 0x00, 0x00, 0x00])) polling2).string? 5).map
      (fun r => (r.event, r.bucket)) = some (some { minutes := 0, charge := 12, lowest := 4980 }, 44) := by decide +kernel

/-- Section 3.10, steps 6 and 7: the event closes with 97 and the cycle step adds 485,000. -/
theorem test_event_close : ((closeEvent (some profile1) (startWork
    { record5 with event := some { minutes := 2, charge := 97, lowest := 4690 } })).r.life,
    (closeEvent (some profile1) (startWork { record5 with event := some { minutes := 2, charge := 97, lowest := 4690 } })).r.soh) =
      (183885000, 817) := by decide +kernel

/-- A check character that differs fails the poll: one error, Silent (R30, R31, R33). -/
theorem test_bad_check_fails : ((after (.replyEnd [lineChar true 0x02, lineChar false 0x02, lineChar false 0x01,
    lineChar false 0x00, lineChar false 0x00, lineChar false 0x00]) polling2).cabinet? 2).map
      (fun x => (x.errors, x.link, x.failures)) = some (1, .silent, 1) := by decide +kernel

/-- Section 5.9.1: an ask for cabinet 6 of group 2 is refused on a spare count of 0, one for cabinet 5 on −1. -/
theorem test_spare_counts : (requiredCapacity 2900 100, spareCount 3190 [4000], spareCount 3190 []) = (3190, 0, -1) := by
  decide +kernel

/-- Section 9.8, frames 6 and 9: a FETCH cut short keeps the reply, one in Idle gives the NOT READY marker. -/
theorem test_fetch_cut_short : (after (.fetch [0x00, 0x00]) (after (.floorRead (frame [])) live)).port.state =
    .replyReady := by decide +kernel
theorem test_fetch_not_ready : (after (.fetch [0x00, 0x00]) live).port.sdo = [0x00, 0xFF, 0x00] := by decide +kernel

/-- Section 8.4: power lost during a write spoils that image alone (R167). -/
theorem test_power_loss_in_write :
    badImages (after .powerLoss (after .storeWriteBegin (after (.cabinetSet (frame [0x01, 0x01, 0x0B, 0xB9])) live))).store.images =
      [cabinetImage 1] := by decide +kernel

/-- Section 9.8, frame 8: a PERMIT ASK that passes its intake leaves the port Working, with no reply. -/
theorem test_permit_ask_waits : ((after (.permitAsk (frame [0x02, 0x00, 0x5A, 0x00])) live).port.state,
    (after (.permitAsk (frame [0x02, 0x00, 0x5A, 0x00])) live).port.reply) = (.working, none) := by decide +kernel

/-- R121: a report of MaintenanceBypass makes the Granted permit of its cabinet Active. -/
theorem test_bypass_begins : ((after (.replyEnd (report 0x03 0x05 0x04 [0x6C, 0x02] (List.replicate 10 0)))
    (after (.pollSlot true) { live with link := { live.link with remaining := [3] } })).permit? 2).map Permit.state =
      some .active := by decide +kernel

/-- R131: the accepted loss of the utility closes the Granted permits and leaves the Active one. -/
theorem test_utility_lost : ((after .utilityChange { live with floor := { live.floor with sense := false } }).permits.take 3).map
    (fun p => p.map Permit.state) = [some .active, none, none] := by decide +kernel

/-- R144: the eleventh item of a list has the number 11. -/
theorem test_visit_add_number : ((replied (.visitAdd (frame [0x01, 0x04, 0x06])) live).map (fun r => r.2.take 4)) =
    some [0x0B, 0x04, 0x06, 0x01] := by decide +kernel

/-- R60: the pulse set after the pulse, and that a poll formed now would carry it. -/
theorem test_string_pulse : replied (.stringPulse (frame [0x05])) live = some (0x00, [0x01, 0x01]) := by decide +kernel

/-- R111: the ticked remaining minutes of an Active and of a Granted permit. -/
theorem test_minute_tick : ((after .minuteTick live).permits.take 2).map (fun p => p.map (fun q => (q.remaining, q.timeout))) =
    [some (56, none), some (29, some 14)] := by decide +kernel

/-- R22: of three samples the majority is taken, and a sample that differs is noise. -/
theorem test_noise : (receive { lineChar true 0x02 with d0 := { first := true, second := false, third := false } }) =
    { mark := true, data := 0x02, framing := false, noise := true } := by decide

/-- The part with OVERRUN standing and not yet seen. -/
def overrun : State := { live with port := { live.port with overrun := true } }

/-- R177, R180: an assertion with no whole byte after it leaves the overrun-seen mark clear; the frame that shifts out its status byte
sets it, and a REQUEST clears OVERRUN in the frame that shows it. -/
theorem test_overrun_seen : ((after .chipSelectAssertion (after .chipSelectAssertion overrun)).port.overrunSeen,
    (after (.statusPeek 0x00) (after .chipSelectAssertion overrun)).port.overrunSeen,
    (after (.floorRead (frame [])) (after .chipSelectAssertion overrun)).port.overrun) = (false, true, false) := by decide +kernel

/-- R1: the clock wraps to 0 and stays Set. -/
theorem test_clock_wraps : (after .floorClockSecond { live with floor := { live.floor with clock := 0xFFFFFFFF } }).floor.clock = 0 := by
  decide +kernel

/-- R4: a differing level held for 8 of the 10 ms of the filter time is not accepted at the ninth, and is at the tenth. -/
theorem test_filter_time :
    ((after .utilityChange { live with floor := { live.floor with sense := false } }).floor.utility,
      ({ live with floor := { live.floor with sense := false, senseHeld := 8 } } : State).passTime 1 |>.floor.utility,
      match step ({ live with floor := { live.floor with sense := false, senseHeld := 9 } } : State) with
      | .next t => t.floor.utility
      | _ => .unknown) = (.lost, .present, .lost) := by decide +kernel

/-- R4, R5: a level that moves back before the filter time leaves Unknown as it is. -/
theorem test_filter_restarts : ((after (.utilitySenseEdge true) ((after (.utilitySenseEdge false)
    { live with floor := { live.floor with utility := .unknown } }).passTime 9)).passTime 9).floor.utility = .unknown := by
  decide +kernel

/-- R20, R195: LINK DIR is high for the 33 bit times of a poll, and low once its reply has come. -/
theorem test_link_dir : (polling2.linkDir 0, polling2.linkDir 32, polling2.linkDir 33, polling2.linkTx 0, polling2.linkTx 33,
    (after .noReply polling2).linkDir 0) = (true, true, false, false, true, false) := by decide +kernel

/-- R168: power lost with RESET held before the write ended spoils the image; after the end of the write it does not. -/
theorem test_power_loss_in_reset :
    (badImages (after .powerLoss (after (.resetAssert .matched) (after .storeWriteBegin
      (after (.cabinetSet (frame [0x01, 0x01, 0x0B, 0xB9])) live)))).store.images,
    badImages (after .powerLoss (after (.storeWriteEnd .matched) (after (.resetAssert .matched) (after .storeWriteBegin
      (after (.cabinetSet (frame [0x01, 0x01, 0x0B, 0xB9])) live))))).store.images) = ([cabinetImage 1], []) := by decide +kernel

/-- R168: a write in flight at the assertion ends before the start, as RESET ASSERT says. -/
theorem test_reset_completes_write :
    ([WriteOutcome.matched, .differs false].map (fun o => (badImages (after .resetLine (after (.resetAssert o) (after .storeWriteBegin
      (after (.cabinetSet (frame [0x01, 0x01, 0x0B, 0xB9])) live)))).store.images).length)) = [0, 1] := by decide +kernel

/-- R139, R162: a stored item whose result, target and permit slot lie outside their ranges comes back clamped. -/
theorem test_item_clamp : (Item.clamp { kind := .capacityTest, target := 99, state := .done, permit := some 9
                                        result := some { profile := 7, value := 70000, newSlot := 80 } }) =
    { kind := .capacityTest, target := 64, state := .done, permit := some 8
      result := some { profile := 4, value := 65535, newSlot := 64 } } := by decide

/-- R76, R162: the sum of a window of no minutes is 0, and a Retired record names no cabinet. -/
theorem test_record_clamp : (StringRecord.clamp { record5 with s := 900, state := .retired }).s = 0 ∧
    (StringRecord.clamp { record5 with s := 900, state := .retired }).cabinet = none := by decide

/-! ## Witnesses: a state and operands that meet the hypotheses of each statement -/

/-- The hypotheses of a request, as one closed question. -/
theorem takes_of {s : State} {n : Nat} {f : RequestFrame}
    (h : s.phase = .running ∧ s.port.state = .idle ∧ goodLength n f = true) : s.Takes n f := ⟨h.1, h.2.1, h.2.2⟩

/-- What holds of every occupied entry holds of every entry that a number finds. -/
theorem forall_tget {α : Type} {t : List (Option α)} {P : Nat → α → Prop} (h : ∀ e ∈ entries t, P e.1 e.2) :
    ∀ n a, tget t n = some a → P n a := fun n a hn => h (n, a) ((mem_entries t n a).2 hn)

/-- An ask that waits on cabinets 1 and 3. -/
def waitingAsk : Ask := { cabinet := 2, duration := 90, visit := none, group := 1, waitSet := [1, 3] }

/-- The part with an ask in its wait. -/
def waiting : State := { live with ask := some waitingAsk, port := { live.port with state := .working } }

/-- The part with the ask at the end of its wait. -/
def settled : State := { waiting with ask := some { waitingAsk with waitSet := [] } }

/-- The part with a reply to fetch. -/
def replied1 : State := after (.floorRead (frame [])) live

/-- The part with its feed lost and no Granted permit. -/
def sagging : State :=
  { live with
    floor := { live.floor with utility := .lost, sense := false }, permits := [some activePermit] ++ List.replicate 7 none }

/-- The part with a write in flight and two images queued. -/
def writing : State :=
  { live with store := { live.store with
      queue := [cabinetImage 1, stringImage 5], writer := some { id := configImage, number := 7, content := .config live.floor.config }
      nextNumber := 8 } }

/-- The part with a full Permit Table. -/
def fullPermits : State := { live with permits := List.replicate 8 (some activePermit) }

theorem live_sized : live.Sized := ⟨rfl, rfl, rfl, rfl, rfl, rfl, ⟨rfl, rfl, rfl, rfl, rfl⟩⟩
theorem waiting_sized : waiting.Sized := ⟨rfl, rfl, rfl, rfl, rfl, rfl, ⟨rfl, rfl, rfl, rfl, rfl⟩⟩
theorem sagging_sized : sagging.Sized := ⟨rfl, rfl, rfl, rfl, rfl, rfl, ⟨rfl, rfl, rfl, rfl, rfl⟩⟩
theorem profile1_inRange : profile1.InRange := by constructor <;> decide
theorem live_portAgrees : live.PortAgrees := ⟨by decide +kernel, by decide +kernel⟩
theorem waiting_portAgrees : waiting.PortAgrees := ⟨by decide +kernel, by decide +kernel⟩

theorem witness_StepRunsTheFrontCommand : ({ live with pending := [.minuteTick, .noReply] } : State).pending =
    .minuteTick :: [.noReply] ∧ live.pending = [] := by decide +kernel

theorem witness_FramesReadBack : (Instr.fetch [0x00]).wellFormed = true ∧ encodeFrame (.fetch [0x00]) = some [0xA2, 0x00] ∧
    decodeFrame [0xA2, 0x00] = some (.fetch [0x00]) ∧ encodeFrame (.visitRead { len := none, body := [] }) = some [0xA1, 0x46] ∧
    (Instr.visitRead { len := none, body := [] }).wellFormed = true := by decide

/-- R191: the first byte of a field is its most significant one, up to the last byte of a body. -/
theorem witness_FramesReadBack_field : [0xFF, (0x01 : Byte), 0x02, 0x03, 0x04][1]? = some 1 ∧
    field [0xFF, 0x01, 0x02, 0x03, 0x04] 4 1 = 4 ∧ field [0xFF, 0x01, 0x02, 0x03, 0x04] 1 4 = 0x01020304 := by decide

theorem witness_StepKeepsTheTableSizes : ∃ s t : State, s.Sized ∧ step s = .next t :=
  ⟨{ live with pending := [.minuteTick] }, _, ⟨rfl, rfl, rfl, rfl, rfl, rfl, ⟨rfl, rfl, rfl, rfl, rfl⟩⟩, rfl⟩

theorem witness_StepKeepsTheQueueDistinct : ∃ s t : State, s.QueueDistinct ∧ s.store.queue ≠ [] ∧ step s = .next t :=
  ⟨{ writing with pending := [.storeWriteEnd (.differs false)] }, _, by unfold State.QueueDistinct; decide +kernel,
    by decide +kernel, rfl⟩

theorem witness_StepKeepsTheCountAhead : ∃ s t : State, s.CountAhead ∧ s.store.writer.isSome = true ∧ step s = .next t :=
  ⟨{ writing with pending := [.storeWriteEnd .matched] }, _, ⟨by decide +kernel, fun w h => by cases h; decide⟩, by decide +kernel, rfl⟩

theorem witness_StepKeepsPortAndAskAgreed : ∃ s t : State, s.PortAgrees ∧ s.ask.isSome = true ∧ step s = .next t :=
  ⟨{ waiting with pending := [.askWaitEnd] }, _, ⟨by decide +kernel, by decide +kernel⟩, by decide +kernel, rfl⟩

theorem live_floorInRange : live.FloorInRange := by
  refine ⟨by constructor <;> decide +kernel, fun c x h => ?_⟩
  have hx : x.group ≤ 2 ∧ 1 ≤ x.group ∧ x.rated = 3000 ∧ x.load = 620 ∧ x.age = 0 ∧ x.errors = 0 ∧ x.failures = 0 :=
    forall_tget (t := live.cabinets) (P := fun _ x => x.group ≤ 2 ∧ 1 ≤ x.group ∧ x.rated = 3000 ∧ x.load = 620 ∧ x.age = 0 ∧
      x.errors = 0 ∧ x.failures = 0) (by decide +kernel) c x h
  constructor <;> omega

theorem live_recordsInRange : live.RecordsInRange := by
  refine ⟨fun n p h => ?_, fun k r h => ?_⟩
  · have hp : p = profile1 := forall_tget (t := live.profiles) (P := fun _ p => p = profile1) (by decide +kernel) n p h
    exact hp ▸ profile1_inRange
  · have hr := forall_tget (t := live.strings) (P := fun _ r => (∀ c ∈ r.cabinet, 1 ≤ c ∧ c ≤ 24) ∧
      (1 ≤ r.position ∧ r.position ≤ 4) ∧ (∀ v ∈ r.owner, 1 ≤ v ∧ v ≤ 4) ∧
      { record5 with
        cabinet := r.cabinet, position := r.position, owner := r.owner, state := r.state, suspect := r.suspect } = r)
      (by decide +kernel) k r h
    obtain ⟨h1, h2, h3, h4⟩ := hr
    rw [← h4]
    constructor <;> first | exact h1 | exact h2 | exact h3 | simp [record5, Config.lifeLimit]

theorem witness_StepKeepsTheRanges : ∃ s t : State, s.Sized ∧ s.FloorInRange ∧ s.RecordsInRange ∧ step s = .next t :=
  ⟨live, _, live_sized, live_floorInRange, live_recordsInRange, rfl⟩

theorem witness_StepKeepsGroupsCurrent : ∃ s t : State, s.Sized ∧ s.PortAgrees ∧ s.operating = true ∧ s.GroupsCurrent ∧
    step s = .next t :=
  ⟨live, _, live_sized, live_portAgrees, by decide +kernel, fun _ => rfl, rfl⟩

theorem witness_StepKeepsGrantsWithUtility : ∃ s t : State, s.Sized ∧ s.PortAgrees ∧ s.operating = true ∧
    s.floor.utility ≠ .present ∧ s.GrantsNeedUtility ∧ step s = .next t := by
  refine ⟨sagging, _, sagging_sized, ⟨by decide +kernel, by decide +kernel⟩, by decide +kernel, by decide +kernel,
    fun _ _ => ⟨rfl, fun k => ?_⟩, rfl⟩
  cases h : sagging.permit? k with
  | none => simp [State.isGranted, h]
  | some p =>
    have := forall_tget (t := sagging.permits) (P := fun _ p => p.state = .active) (by decide +kernel) k p h
    simp [State.isGranted, h, this]

theorem witness_StepKeepsOnePermitEach : ∃ s t : State, s.Sized ∧ s.PortAgrees ∧ s.operating = true ∧ s.OnePermitEach ∧
    (entries s.permits).length = 3 ∧ s.ask.isSome = true ∧ step s = .next t := by
  refine ⟨waiting, _, waiting_sized, waiting_portAgrees, by decide +kernel,
    fun _ => ⟨fun j k p q hp hq e => ?_, ?_,
      forall_tget (t := waiting.permits) (P := fun _ p => (waiting.cabinet? p.cabinet).isSome = true) (by decide +kernel), ?_⟩,
    by decide +kernel, by decide +kernel, rfl⟩
  · have hd : ∀ e ∈ entries waiting.permits, ∀ d ∈ entries waiting.permits, e.2.cabinet = d.2.cabinet → e.1 = d.1 := by
      decide +kernel
    exact hd (j, p) ((mem_entries _ _ _).2 hp) (k, q) ((mem_entries _ _ _).2 hq) e
  · intro a ha k p hp
    cases ha
    exact forall_tget (t := waiting.permits) (P := fun _ p => p.cabinet ≠ 2) (by decide +kernel) k p hp
  · intro a ha
    cases ha
    decide +kernel

theorem live_stringsPlaced : live.StringsPlaced := by
  refine ⟨forall_tget (t := live.strings) (P := fun _ r => 1 ≤ r.position ∧ r.position ≤ 4) (by decide +kernel),
    forall_tget (t := live.strings) (P := fun _ r => r.state = .retired → r.cabinet = none) (by decide +kernel),
    fun k r c h hc => ?_, fun j k q r c hq hr hc hd e => ?_⟩
  · exact forall_tget (t := live.strings) (P := fun _ r => ∀ c ∈ r.cabinet, (live.cabinet? c).isSome = true) (by decide +kernel)
      k r h c hc
  · have hall : ∀ e ∈ entries live.strings, ∀ d ∈ entries live.strings, e.2.cabinet.isSome = true → e.2.cabinet = d.2.cabinet →
        e.2.position = d.2.position → e.1 = d.1 := by decide +kernel
    exact hall (j, q) ((mem_entries _ _ _).2 hq) (k, r) ((mem_entries _ _ _).2 hr) (by rw [hc]; rfl) (hc.trans hd.symm) e

theorem witness_StepKeepsStringsPlaced : ∃ s t : State, s.Sized ∧ s.StringsPlaced ∧ step s = .next t :=
  ⟨live, _, live_sized, live_stringsPlaced, rfl⟩

/-- The items of the open visits with their visit and their number. -/
def itemsOf (s : State) : List (Nat × Nat × Item) :=
  (entries s.visits).flatMap (fun e => e.2.items.zipIdx.map (fun p => (e.1, p.2 + 1, p.1)))

theorem mem_itemsOf {s : State} {v n : Nat} {x : Visit} {a : Item} (hv : s.visit? v = some x) (hn : itemAt x.items n = some a) :
    (v, n, a) ∈ itemsOf s := by
  cases n with
  | zero => cases hn
  | succ k =>
    exact List.mem_flatMap.2 ⟨(v, x), (mem_entries _ _ _).2 hv, List.mem_map.2 ⟨(a, k), List.mem_zipIdx_iff_getElem?.2 hn, rfl⟩⟩

theorem live_itemsDistinct : live.ItemsDistinct := by
  intro v w x y i j a b hv hw ha hb la lb hk ht
  have hall : ∀ p ∈ itemsOf live, ∀ q ∈ itemsOf live, p.2.2.live = true → q.2.2.live = true → p.2.2.kind = q.2.2.kind →
      p.2.2.target = q.2.2.target → p.1 = q.1 ∧ p.2.1 = q.2.1 := by decide +kernel
  exact hall (v, i, a) (mem_itemsOf hv ha) (w, j, b) (mem_itemsOf hw hb) la lb hk ht

theorem live_retiringHeld : live.RetiringHeld := by
  refine ⟨live_itemsDistinct, fun v x it hv hi hs hk => ?_, fun k r h hr => ?_⟩
  · have hall : ∀ e ∈ entries live.visits, ∀ it ∈ e.2.items, it.state = .inProgress → it.kind = .replaceString →
        (e.1, it.target) = (1, 8) := by decide +kernel
    have he := hall (v, x) ((mem_entries _ _ _).2 hv) it hi hs hk
    simp only [Prod.mk.injEq] at he
    obtain ⟨h1, h2⟩ := he
    rw [h1, h2]
    exact ⟨{ record5 with cabinet := some 4, position := 2, state := .retiring, owner := some 1 }, by decide +kernel⟩
  · have hk : k = 8 := forall_tget (t := live.strings) (P := fun k r => r.state = .retiring → k = 8) (by decide +kernel) k r h hr
    subst hk
    exact ⟨1, openVisit, someItem .replaceString 8 .inProgress (some 1), by decide +kernel⟩

theorem witness_StepKeepsRetiringHeld : ∃ s t : State, s.Sized ∧ s.operating = true ∧ s.RetiringHeld ∧ step s = .next t ∧
    t.operating = true := ⟨live, _, live_sized, by decide +kernel, live_retiringHeld, rfl, by decide +kernel⟩

theorem witness_PortMovesOnlyAsTabled : ∃ t, live.PortAgrees ∧ exec (.permitAsk (frame [0x02, 0x00, 0x5A, 0x00])) live = .next t ∧
    t.port.state = .working := ⟨_, live_portAgrees, rfl, by decide +kernel⟩

theorem witness_RequestsRefusedByThePort : requestFrame (.floorRead (frame [])) = some (frame []) ∧
    (∀ s ∈ [State.reset, waiting, replied1], s.phase = .running ∧ s.port.state ≠ .idle) ∧
    requestRow (.clockSet { len := some 4, body := [0x00] }) = some (0x03, 4) ∧
    requestFrame (.clockSet { len := some 4, body := [0x00] }) = some { len := some 4, body := [0x00] } ∧
    live.phase = .running ∧ live.port.state = .idle ∧ goodLength 4 { len := some 4, body := [0x00] } = false ∧
    goodLength 4 { len := none, body := [] } = false ∧ goodLength 4 (frame [0x00, 0x00, 0x00]) = false := by decide +kernel

theorem witness_ReadsAnswerFromTheRecords : live.Takes 0 (frame []) ∧ live.Takes 2 (frame [0x05, 0x01]) ∧
    live.Takes 1 (frame [0x04]) ∧ field (frame [0x04]).body 0 1 = 4 ∧ (live.cabinet? 5).isSome = true ∧
    (live.string? 10).isSome = true ∧ (live.permit? 3).isSome = true ∧ (live.visit? 2).isSome = true ∧ live.profile? 4 = none ∧
    (live.profile? 1).isSome = true := by
  refine ⟨takes_of ?_, takes_of ?_, takes_of ?_, ?_⟩ <;> decide +kernel

/-- The string list, the users of a profile and the permits that a visit's body names. -/
theorem witness_ReadsAnswerFromTheRecords_bodies : live.groups.length = 4 ∧ live.stringList 2 = [5, 9, 0, 0] ∧
    (live.string? 5).map (fun r => (r.cabinet, r.position)) = some (some 2, 1) ∧
    (live.string? 9).map (fun r => (r.cabinet, r.position)) = some (some 2, 2) ∧ live.profileUsers 1 = 5 ∧
    (live.string? 5).map StringRecord.rb = some (some 42000) ∧ (live.permit? 1).bind Permit.visit = some 1 ∧
    live.permitsOfVisit 1 = [(1, activePermit)] := by decide +kernel

/-- A STRING READ of a record without Rb, event or owner, and of one that a visit owns (R59, R192). -/
theorem test_record_body : (recordBody { record5 with rb := none }).take 10 = [0x02, 0x01, 0x01, 0x00, 0x01, 0x00, 0x00, 0x00, 0x01, 0xAC] ∧
    (recordBody { record5 with owner := some 3 }).drop 45 = [0x01, 0x00, 0x01, 0x03] := by decide +kernel

theorem witness_RequestsRefusedByTheirBlocks : live.Takes 2 (frame [0x18, 0x00]) ∧ live.Takes 1 (frame [0x00]) ∧
    live.cabinet? 24 = none ∧ live.cabinet? 0 = none ∧ live.string? 64 = none ∧ live.string? 65 = none ∧ live.permit? 8 = none ∧
    live.visit? 4 = none ∧ live.itemOf 1 11 = none ∧ live.itemOf 3 1 = none ∧
    (live.Takes 4 (frame [0x19, 0x01, 0x0B, 0xB8]) ∧ ¬(1 ≤ field (frame [0x19, 0x01, 0x0B, 0xB8]).body 0 1 ∧
      field (frame [0x19, 0x01, 0x0B, 0xB8]).body 0 1 ≤ 24)) ∧
    (live.Takes 31 (frame (0x05 :: List.replicate 30 0x00)) ∧ field (frame (0x05 :: List.replicate 30 0x00)).body 0 1 = 5) ∧
    live.Takes 1 (frame [0x05]) ∧ live.Takes 7 (frame [0x01, 0x0B, 0x00, 0x00, 0x00, 0x00, 0x00]) := by
  refine ⟨takes_of ?_, takes_of ?_, ?_, ?_, ?_, ?_, ?_, ?_, ?_, ?_, ⟨takes_of ?_, ?_⟩, ⟨takes_of ?_, ?_⟩, takes_of ?_, takes_of ?_⟩ <;>
    decide +kernel

/-- The part with a full String Table of unattached records. -/
def fullStrings : State :=
  { live with strings := List.replicate 64 (some { record5 with cabinet := none, suspect := true, state := .suspect }) }

/-- The refusals of STRING COMMISSION: cabinet 24, position 5 and profile 2; the position of slot 5; the full table. -/
theorem witness_RequestsRefusedByTheirBlocks_commission : live.Takes 9 (frame [0x02, 0x01, 0x01, 0x00, 0x05, 0x00, 0x00, 0x00, 0x00]) ∧
    live.cabinet? 24 = none ∧ ¬(1 ≤ 5 ∧ 5 ≤ 4) ∧ live.profile? 2 = none ∧ (live.cabinet? 2).isSome = true ∧
    (live.profile? 1).isSome = true ∧ (live.string? 5).map (fun r => (r.cabinet, r.position, r.state)) = some (some 2, 1, .good) ∧
    fullStrings.Takes 9 (frame [0x02, 0x01, 0x01, 0x00, 0x05, 0x00, 0x00, 0x00, 0x00]) ∧ (fullStrings.cabinet? 2).isSome = true ∧
    (∀ k r, fullStrings.string? k = some r → r.cabinet = some 2 → r.position = 1 → r.state = .retired) ∧
    lowestFree fullStrings.strings = none := by
  refine ⟨takes_of ?_, ?_, ?_, ?_, ?_, ?_, ?_, takes_of ?_, ?_,
    forall_tget (t := fullStrings.strings) (P := fun _ r => r.cabinet = some 2 → r.position = 1 → r.state = .retired) ?_, ?_⟩ <;>
    decide +kernel

/-- The first checks of VISIT ADD: visit 4, kind 5, cabinet 24, record 64; the unattached record in slot 7. -/
theorem witness_RequestsRefusedByTheirBlocks_add : live.Takes 3 (frame [0x01, 0x04, 0x07]) ∧ live.visit? 4 = none ∧
    itemKindOfCode 5 = none ∧ itemKindOfCode 0 = none ∧ (live.visit? 1).isSome = true ∧ itemKindOfCode 1 = some .inspectCabinet ∧
    live.cabinet? 24 = none ∧ itemKindOfCode 4 = some .baseline ∧ live.string? 64 = none ∧
    (live.string? 7).map StringRecord.cabinet = some none := by
  refine ⟨takes_of ?_, ?_⟩ <;> decide +kernel

/-- A visit whose items wait for a cabinet that is Absent and for a record that is unattached. -/
def strayVisit : Visit :=
  { openVisit with items := [someItem .inspectCabinet 24 .pending none, someItem .baseline 7 .interrupted none] }

/-- The part with that visit. -/
def straying : State := { live with visits := [some strayVisit, none, none, none] }

theorem witness_RequestsRefusedByTheirBlocks_start : straying.Takes 2 (frame [0x01, 0x01]) ∧
    straying.itemOf 1 1 = some (strayVisit, someItem .inspectCabinet 24 .pending none) ∧ straying.cabinet? 24 = none ∧
    straying.itemOf 1 2 = some (strayVisit, someItem .baseline 7 .interrupted none) ∧
    ∀ r, straying.string? 7 = some r → r.cabinet = none := by
  refine ⟨takes_of ?_, ?_, ?_, ?_, fun r h => forall_tget (t := straying.strings) (P := fun k r => k = 7 → r.cabinet = none)
    ?_ 7 r h rfl⟩ <;> decide +kernel

/-- A visit that measures the record in slot 8 while visit 1 replaces it. -/
def contesting : Visit := { openVisit with items := [someItem .capacityTest 8 .inProgress (some 2)] }

/-- The part with that visit in slot 2. -/
def contested : State := { live with visits := [some openVisit, some contesting, none, none] }

theorem witness_RequestsRefusedByTheirBlocks_finish : live.Takes 7 (frame [0x01, 0x09, 0x02, 0x00, 0x00, 0x00, 0x00]) ∧
    live.itemOf 1 9 = some (openVisit, someItem .replaceString 8 .inProgress (some 1)) ∧ live.profile? 2 = none ∧
    (contested.Takes 7 (frame [0x01, 0x09, 0x01, 0x00, 0x00, 0x00, 0x00]) ∧ contested.visit? 2 = some contesting ∧
      itemAt contesting.items 1 = some (someItem .capacityTest 8 .inProgress (some 2)) ∧
      contested.itemOf 1 9 = some (openVisit, someItem .replaceString 8 .inProgress (some 1)) ∧
      (contested.profile? 1).isSome = true) ∧
    fullStrings.Takes 7 (frame [0x01, 0x09, 0x01, 0x00, 0x00, 0x00, 0x00]) ∧
    fullStrings.itemOf 1 9 = some (openVisit, someItem .replaceString 8 .inProgress (some 1)) ∧
    (∀ w j y b, (w, j) ≠ (1, 9) → fullStrings.visit? w = some y → itemAt y.items j = some b → b.state = .inProgress →
      b.kind ≠ .inspectCabinet → b.target ≠ 8) ∧ lowestFree fullStrings.strings = none := by
  have hall : ∀ p ∈ itemsOf fullStrings, (p.1, p.2.1) ≠ (1, 9) → p.2.2.state = .inProgress → p.2.2.kind ≠ .inspectCabinet →
      p.2.2.target ≠ 8 := by decide +kernel
  refine ⟨takes_of ?_, ?_, ?_, ⟨takes_of ?_, ?_⟩, takes_of ?_, ?_,
    fun w j y b hne hy hb => hall (w, j, b) (mem_itemsOf hy hb) hne, ?_⟩ <;> decide +kernel

theorem witness_ClockSetAndClockSecond : live.Takes 4 (frame [0xFF, 0xFF, 0xFF, 0xFF]) ∧ live.phase ≠ .unpowered ∧
    (after (.resetAssert .matched) live).phase = .inReset := by
  refine ⟨takes_of ?_, ?_⟩ <;> decide +kernel

/-- A configuration body with the least filter time. -/
def configBytes : List Byte :=
  [0x01, 0x01, 0x01, 0x01, 0x00, 0x64, 0x0A, 0x03, 0x98, 0x00, 0xF0, 0x0F, 0x01, 0xE0, 0x02, 0x0F, 0xFF]

/-- The part with UTILITY SENSE low for 2 ms. -/
def lowFor2 : State := { live with floor := { live.floor with sense := false, senseHeld := 2 } }

theorem witness_FloorConfigWriteReplaces : live.Takes 17 (frame configBytes) ∧
    utilityOfLevel live.floor.sense = live.floor.utility ∧ lowFor2.Takes 17 (frame configBytes) ∧
    (configOfBody configBytes).clamp.filterTime < lowFor2.floor.config.filterTime ∧
    (configOfBody configBytes).clamp.filterTime ≤ lowFor2.floor.senseHeld ∧
    utilityOfLevel lowFor2.floor.sense ≠ lowFor2.floor.utility ∧ lowFor2.ask = none ∧ lowFor2.floor.senseHeld ≤ 50 := by
  refine ⟨takes_of ?_, ?_, takes_of ?_, ?_⟩ <;> decide +kernel

/-- FLOOR CONFIG WRITE with the mask clear releases ATTN and loses no cause (R9, R187). -/
theorem test_mask_acts_on_attn : ∀ t, t = after (.floorConfigWrite (frame (configBytes.take 15 ++ [0x00, 0x00])))
      { live with attention := { Attention.empty with storeFault := true } } →
    ({ live with attention := { Attention.empty with storeFault := true } } : State).attn = true ∧
      (t.attn, t.attention.storeFault) = (false, true) := by
  intro t h; subst h; decide +kernel

/-- The part with every cause present. -/
def attending : State :=
  { live with attention := { utilityChange := some .lost, marginShort := 1, unauthorisedBypass := 2, permitOverdue := 128, permitChanged := 1,
                             cabinetLost := 4, cabinetBack := 1, visitItemInterrupted := 8, visitOvertime := 1, stringStateChanged := 1,
                             storeFault := true, start := some (.resetLine, 105) } }

theorem witness_AttentionReadClearsTheSet : attending.Takes 0 (frame []) ∧ presentCauses attending.attention = 0xFFF ∧
    attending.attn = true ∧ presentCauses Attention.empty = 0 ∧
    ((markOf 64 64).getLsbD 63, (markOf 4 1).getLsbD 0, (markOf 4 1).getLsbD 1) = (true, true, false) := by
  refine ⟨takes_of ?_, ?_⟩ <;> decide +kernel

theorem witness_UtilityLevelAndChange : false ≠ live.floor.sense ∧ (after (.resetAssert .matched) live).phase ≠ .running ∧
    (State.reset.phase = .running ∧ State.reset.port.state = .starting) ∧
    (lowFor2.phase = .running ∧ lowFor2.pending = [] ∧ min (lowFor2.floor.senseHeld + 1) 50 < lowFor2.floor.config.filterTime) ∧
    utilityOfLevel live.floor.sense = live.floor.utility ∧
    (∀ u ∈ [UtilityState.lost, .unknown],
      ({ live with floor := { live.floor with utility := u } } : State).floor.utility ≠ .present) ∧
    (live.phase = .running ∧ live.port.state ≠ .starting ∧ live.floor.sense = true ∧
      live.floor.config.filterTime ≤
        min (live.floor.senseHeld + (live.floor.config.filterTime - live.floor.senseHeld)) 50) ∧
    (({ waiting with floor := { waiting.floor with sense := false } } : State).Sized ∧ waiting.phase = .running ∧
      waiting.port.state ≠ .starting ∧ waiting.floor.utility ≠ .lost ∧ waiting.isGranted 2 = true ∧ waiting.ask.isSome = true ∧
      (waiting.cabinet? 3).isSome = true ∧ waiting.floor.config.filterTime ≤
        min (waiting.floor.senseHeld + (waiting.floor.config.filterTime - waiting.floor.senseHeld)) 50) ∧
    lowFor2.floor.sense = false ∧ lowFor2.floor.utility ≠ .lost ∧ lowFor2.ask = none ∧
    lowFor2.floor.config.filterTime ≤ min (lowFor2.floor.senseHeld + (lowFor2.floor.config.filterTime - lowFor2.floor.senseHeld)) 50 := by
  refine ⟨?_, ?_, ?_, ?_, ?_, ?_, ?_, ⟨⟨rfl, rfl, rfl, rfl, rfl, rfl, ⟨rfl, rfl, rfl, rfl, rfl⟩⟩, ?_⟩, ?_⟩ <;>
    decide +kernel

theorem witness_CabinetSetCreatesOrUpdates : live.Takes 4 (frame [0x18, 0x00, 0x00, 0x63]) ∧
    field (frame [0x18, 0x00, 0x00, 0x63]).body 0 1 = 24 ∧ live.cabinet? 24 = none ∧ (live.cabinet? 1).isSome = true := by
  refine ⟨takes_of ?_, ?_⟩ <;> decide +kernel

theorem witness_CabinetDropRemoves : live.Takes 1 (frame [0x01]) ∧ live.cabinet? 24 = none ∧
    ((live.cabinet? 4).isSome = true ∧ (live.permitOf 4).isSome = true) ∧
    ((live.cabinet? 2).isSome = true ∧ live.permitOf 2 = none ∧ ∃ k ∈ live.stringList 2, k ≠ 0) ∧
    (live.cabinet? 1).isSome = true ∧ live.permitOf 1 = none ∧ ∀ k ∈ live.stringList 1, k = 0 := by
  refine ⟨takes_of ?_, ?_⟩ <;> decide +kernel

theorem witness_ProfileWriteActsOnItsRecords : live.Sized ∧ live.Takes 31 (frame (0x04 :: List.replicate 30 0x00)) ∧
    field (frame (0x04 :: List.replicate 30 0x00)).body 0 1 = 4 ∧ live.Takes 31 (frame (0x01 :: List.replicate 30 0x00)) ∧
    (live.string? 5).map (fun r => (r.profile, r.state)) = some (1, .good) ∧
    (live.string? 7).map (fun r => (r.profile, r.state, r.cabinet)) = some (1, .suspect, none) ∧
    (live.string? 10).map (fun r => (r.profile, r.state)) = some (1, .retired) := by
  refine ⟨live_sized, takes_of ?_, ?_, takes_of ?_, ?_⟩ <;> decide +kernel

/-- A record that the write of a profile charges, and baselines below, at and above its resistance. -/
theorem witness_AgeingOfOneRecord : profile1.InRange ∧ profile1.capacity ≤ ({ record5 with bucket := 174 } : StringRecord).bucket ∧
    record5.bucket < profile1.capacity ∧ ({ record5 with rb := none } : StringRecord).rb = none ∧
    (record5.rb = some 42000 ∧ record5.r ≠ 0 ∧ 1000 < min (record5.r * 1000 / 42000) 5000) ∧
    min (({ record5 with r := 42000 } : StringRecord).r * 1000 / 42000) 5000 ≤ 1000 ∧ min (record5.r * 1000 / 1) 5000 = 5000 ∧
    (1 : Nat) ≠ 0 := ⟨profile1_inRange, by decide⟩

theorem witness_StringCommissionCreates : live.Takes 9 (frame [0x01, 0x04, 0x01, 0x00, 0x05, 0x00, 0x01, 0x00, 0x00]) ∧
    (live.cabinet? 1).isSome = true ∧ live.profile? 1 = some profile1 ∧ profile1.InRange ∧ live.stringAt 1 4 = none ∧
    lowestFree live.strings = some 1 := by
  refine ⟨takes_of ?_, ?_, ?_, profile1_inRange, ?_⟩ <;> decide +kernel

theorem witness_StringPulseSetsTheBit : live.Takes 1 (frame [0x05]) ∧ live.string? 64 = none ∧
    (live.string? 7).bind StringRecord.cabinet = none ∧ (live.string? 7).isSome = true ∧
    (live.string? 5).bind StringRecord.cabinet = some 2 ∧ (live.cabinet? 2).isSome = true := by
  refine ⟨takes_of ?_, ?_⟩ <;> decide +kernel

/-- What the items of the open visits of `live` do not name. -/
theorem live_items_but (n : Nat) (h : ∀ e ∈ entries live.visits, ∀ it ∈ e.2.items, it.kind ≠ .inspectCabinet → it.target ≠ n) :
    ∀ v x it, live.visit? v = some x → it ∈ x.items → it.kind ≠ .inspectCabinet → it.target = n →
      it.state = .done ∨ it.state = .abandoned := by
  intro v x it hv hi hk ht
  exact absurd ht (h (v, x) ((mem_entries _ _ _).2 hv) it hi hk)

theorem witness_StringDropFreesTheSlot : live.Takes 1 (frame [0x07]) ∧ live.string? 64 = none ∧
    (live.Takes 1 (frame [0x00]) ∧ live.strings.length = 64 ∧ ¬(1 ≤ 65 ∧ 65 ≤ 64)) ∧ (live.string? 5).map (fun r => r.cabinet.isSome) = some true ∧ (live.string? 10).map (fun r => r.owner.isSome) = some true ∧
    (live.string? 7).map (fun r => (r.cabinet, r.owner)) = some (none, none) ∧
    (∀ v x it, live.visit? v = some x → it ∈ x.items → it.kind ≠ .inspectCabinet → it.target = 7 →
      it.state = .done ∨ it.state = .abandoned) := by
  refine ⟨takes_of ?_, ?_, ⟨takes_of ?_, ?_⟩, ?_, ?_, ?_, live_items_but 7 ?_⟩ <;> decide +kernel

/-- The third refusal of STRING DROP: an item of an open visit waits for the unattached record in slot 7. -/
theorem witness_StringDropFreesTheSlot_item : ∃ v x it,
    ({ live with visits := [none, none, none, some { openVisit with items := [someItem .baseline 7 .pending none] }] } : State).visit? v =
      some x ∧ it ∈ x.items ∧ it.state ≠ .done ∧ it.state ≠ .abandoned ∧ it.kind ≠ .inspectCabinet ∧ it.target = 7 :=
  ⟨4, { openVisit with items := [someItem .baseline 7 .pending none] }, someItem .baseline 7 .pending none, by decide +kernel⟩

theorem witness_PermitAskBeginsItsWait : live.Takes 4 (frame [0x02, 0x00, 0x5A, 0x01]) ∧
    (live.cabinet? 2).map (fun x => (x.link, x.mode)) = some (.online, .inverter) ∧ live.permitOf 2 = none ∧
    live.floor.hold = false ∧ live.floor.utility = .present ∧ (lowestFree live.permits).isSome = true ∧
    (live.visit? 1).isSome = true := by
  refine ⟨takes_of ?_, ?_⟩ <;> decide +kernel

theorem witness_PermitAskRefusedInOrder : live.Takes 4 (frame [0x04, 0x00, 0x5A, 0x00]) ∧ live.cabinet? 24 = none ∧
    (live.permitOf 4).isSome = true ∧
    (({ live with floor := { live.floor with hold := true } } : State).permitOf 2 = none) ∧
    sagging.permitOf 2 = none ∧ sagging.floor.hold = false ∧ sagging.floor.utility ≠ .present ∧
    sagging.Takes 4 (frame [0x02, 0x00, 0x5A, 0x00]) ∧
    (fullPermits.Takes 4 (frame [0x02, 0x00, 0x5A, 0x00]) ∧ fullPermits.permitOf 2 = none ∧ lowestFree fullPermits.permits = none) ∧
    field (frame [0x02, 0x00, 0x5A, 0x04]).body 3 1 ≠ 0 ∧ live.visit? 4 = none := by
  refine ⟨takes_of ?_, ?_, ?_, ?_, ?_, ?_, ?_, takes_of ?_, ⟨takes_of ?_, ?_⟩, ?_⟩ <;> decide +kernel

theorem witness_PermitRecallAndCancel : live.Takes 1 (frame [0x01]) ∧ live.permit? 1 = some activePermit ∧
    (live.cabinet? 4).isSome = true ∧ live.permit? 2 = some grantedPermit3 ∧ (live.cabinet? 3).isSome = true ∧
    ({ live with permits := [some { activePermit with state := .returning }] } : State).permit? 1 =
      some { activePermit with state := .returning } := by
  refine ⟨takes_of ?_, ?_⟩ <;> decide +kernel

/-- The part with four open visits, the first with twelve items. -/
def fullVisits : State :=
  { live with visits := List.replicate 4 (some { openVisit with items := List.replicate 12 (someItem .inspectCabinet 1 .done none) }) }

theorem witness_VisitOpenAndAdd : live.Takes 4 (frame [0x00, 0x00, 0x00, 0x00]) ∧ lowestFree live.visits = some 3 ∧
    fullVisits.Takes 4 (frame [0x00, 0x00, 0x00, 0x00]) ∧ lowestFree fullVisits.visits = none ∧
    (fullVisits.Takes 3 (frame [0x01, 0x04, 0x05]) ∧ (fullVisits.visit? 1).map (fun x => x.items.length) = some 12) ∧
    (live.Takes 3 (frame [0x01, 0x04, 0x05]) ∧ itemKindOfCode 4 = some .baseline ∧ (live.visit? 1).map (fun x => x.items.length) = some 10 ∧
      (live.string? 5).bind StringRecord.cabinet = some 2 ∧ openVisit.items[1]? = some (someItem .baseline 5 .pending none)) ∧
    (live.string? 6).bind StringRecord.cabinet = some 4 ∧
    ∀ e ∈ entries live.visits, ∀ it ∈ e.2.items, it.kind = .baseline → it.target = 6 → it.state = .done ∨ it.state = .abandoned := by
  refine ⟨takes_of ?_, ?_, takes_of ?_, ?_, ⟨takes_of ?_, ?_⟩, ⟨takes_of ?_, ?_⟩, ?_⟩ <;> decide +kernel

theorem witness_VisitStartBeginsWork : live.Takes 2 (frame [0x01, 0x04]) ∧
    live.itemOf 1 1 = some (openVisit, someItem .inspectCabinet 4 .inProgress (some 1)) ∧
    live.itemOf 1 2 = some (openVisit, someItem .baseline 5 .pending none) ∧ (live.string? 5).bind StringRecord.cabinet = some 2 ∧
    live.itemOf 1 5 = some (openVisit, someItem .capacityTest 5 .pending none) ∧
    live.itemCabinet (someItem .capacityTest 5 .pending none) = some 2 ∧ live.workPermit 1 (some 2) = none ∧
    live.itemOf 1 3 = some (openVisit, someItem .capacityTest 6 .interrupted none) ∧
    live.itemCabinet (someItem .capacityTest 6 .interrupted none) = some 4 ∧ live.workPermit 1 (some 4) = some 1 ∧
    live.itemOf 1 4 = some (openVisit, someItem .replaceString 6 .pending none) ∧ (live.string? 6).isSome = true ∧
    ({ live with permits := [some { activePermit with state := .returning }] } : State).workPermit 1 (some 4) = none ∧
    (({ live with permits := [some { activePermit with state := .returning }] } : State).permit? 1).map
      (fun p => (p.cabinet, p.visit)) = some (4, some 1) := by
  refine ⟨takes_of ?_, ?_⟩ <;> decide +kernel

theorem witness_VisitFinishHandsOn : live.Takes 7 (frame [0x01, 0x06, 0x00, 0x00, 0x00, 0x01, 0x90]) ∧
    live.itemOf 1 2 = some (openVisit, someItem .baseline 5 .pending none) ∧
    live.itemOf 1 1 = some (openVisit, someItem .inspectCabinet 4 .inProgress (some 1)) ∧
    live.itemOf 1 6 = some (openVisit, someItem .capacityTest 9 .inProgress (some 1)) ∧
    live.itemOf 1 7 = some (openVisit, someItem .baseline 9 .inProgress none) ∧
    (live.string? 9).map StringRecord.profile = some 1 ∧ live.profile? 1 = some profile1 ∧
    ({ live with profiles := List.replicate 4 none } : State).profile? 1 = none := by
  refine ⟨takes_of ?_, ?_⟩ <;> decide +kernel

theorem witness_VisitFinishReplacesTheString : live.Takes 7 (frame [0x01, 0x09, 0x01, 0x00, 0x00, 0x00, 0x00]) ∧
    live.itemOf 1 9 = some (openVisit, someItem .replaceString 8 .inProgress (some 1)) ∧ live.profile? 1 = some profile1 ∧
    profile1.InRange ∧ live.otherInProgress 8 = false ∧ lowestFree live.strings = some 1 ∧
    (live.string? 8).map (fun r => (r.cabinet, r.state, r.event, r.profile)) = some (some 4, .retiring, none, 1) := by
  refine ⟨takes_of ?_, ?_, ?_, profile1_inRange, ?_⟩ <;> decide +kernel

/-- The same with an open event of 97 tenths of an ampere-hour in the record that is replaced. -/
theorem witness_VisitFinishReplacesTheString_event :
    ((live.setString 8 (some { record5 with cabinet := some 4, position := 2, state := .retiring, owner := some 1
                                            event := some { minutes := 2, charge := 97, lowest := 4690 } })).string? 8).map
      (fun r => (r.event, (live.profile? r.profile).isSome)) = some (some { minutes := 2, charge := 97, lowest := 4690 }, true) := by
  decide +kernel

theorem witness_VisitAbandonReleases : live.Takes 2 (frame [0x01, 0x09]) ∧
    live.itemOf 1 8 = some (openVisit, someItem .inspectCabinet 1 .done none) ∧
    live.itemOf 1 2 = some (openVisit, someItem .baseline 5 .pending none) ∧
    live.itemOf 1 9 = some (openVisit, someItem .replaceString 8 .inProgress (some 1)) ∧
    (live.string? 8).map StringRecord.state = some .retiring := by
  refine ⟨takes_of ?_, ?_⟩ <;> decide +kernel

theorem witness_VisitCloseFrees : live.Sized ∧ live.Takes 1 (frame [0x02]) ∧ live.visit? 1 = some openVisit ∧
    (∃ it ∈ openVisit.items, it.state = .inProgress) ∧ live.permit? 1 = some activePermit ∧ activePermit.visit = some 1 ∧
    live.visit? 2 = some closingVisit ∧ live.permitsOfVisit 2 = [(3, { grantedPermit3 with cabinet := 5, visit := some 2 })] ∧
    (live.cabinet? 5).isSome = true ∧ (∀ it ∈ closingVisit.items, it.state ≠ .inProgress) ∧
    (∀ k p, live.permit? k = some p → p.visit = some 2 → p.state = .granted) ∧ live.retiredOf 2 = [10] := by
  refine ⟨live_sized, takes_of ?_, ?_, ?_, ?_, ?_, ?_, ?_, ?_, ?_, forall_tget (t := live.permits) (P := fun _ p => p.visit = some 2 → p.state = .granted) ?_, ?_⟩ <;>
    decide +kernel

/-- The part with an order in the urgent slot. -/
def ordered (o : Order) : State := { live with port := { live.port with urgent := some o } }

theorem witness_FramesThatAreNoRequest : (after .chipSelectAssertion live).port.frame = some live.statusByte ∧ live.phase = .running ∧
    (∀ s ∈ [State.reset, live, waiting, replied1], s.phase = .running) ∧
    (ordered .hold).phase = .running ∧ (ordered .hold).port.urgent = some .hold ∧ live.port.urgent = none ∧
    encodeFrame (.floorRead (frame [])) = some [0xA1, 0x01, 0x00] ∧ (after .powerLoss live).phase ≠ .running ∧
    (after (.resetAssert .matched) live).phase ≠ .running := by decide +kernel

theorem witness_FetchGivesTheReply : replied1.phase = .running ∧ replied1.port.state = .replyReady ∧
    replied1.port.reply.map (fun r => r.body.length) = some 76 ∧ live.port.state ≠ .replyReady := by decide +kernel

theorem witness_UrgentPlacesItsOrder : waiting.phase = .running ∧
    ∀ b ∈ [(0x00 : Byte), 0x04], b ≠ 1 ∧ b ≠ 2 ∧ b ≠ 3 := by decide +kernel

theorem witness_PollSlotFormsThePoll : live.operating = true ∧ live.link.flight = none ∧ live.link.breakDue = false ∧
    live.port.urgent = none ∧ live.link.remaining = [] ∧
    ((entries live.cabinets).filter (fun e => e.2.link != .lost || (live.link.counter + 1) % 8 == 0)).map (fun e => e.1) = [1, 2, 3, 4, 5] ∧
    (live.cabinet? 1).isSome = true ∧
    ({ live with link := { live.link with remaining := [2] } } : State).link.remaining = 2 :: [] := by decide +kernel

/-- The part before a break slot, with an order or none. -/
def beforeBreak (o : Option Order) : State :=
  { live with link := { live.link with breakDue := true }, port := { live.port with urgent := o } }

/-- The part with a Lost cabinet alone. -/
def allLost : State := { live with cabinets := [some { onlineCabinet with link := .lost, failures := 3 }] ++ List.replicate 23 none }

theorem witness_SlotStartTakesTheOrder : (∀ o ∈ [none, some Order.release, some Order.hold, some Order.recallAll],
      (beforeBreak o).operating = true ∧ (beforeBreak o).link.flight = none ∧ (beforeBreak o).link.breakDue = true) ∧
    (beforeBreak (some .recallAll)).Sized ∧ live.permit? 1 = some activePermit ∧ (live.cabinet? 4).isSome = true ∧
    (∀ j q, live.permit? j = some q → q.cabinet = 4 → j = 1) ∧ live.isGranted 2 = true ∧
    allLost.operating = true ∧ allLost.link.remaining = [] ∧
    (∀ c x, allLost.cabinet? c = some x → x.link = .lost ∧ (allLost.link.counter + 1) % 8 ≠ 0) ∧
    (ordered .recallAll).pollDue = true ∧
    (∃ t, exec (.pollSlot false) { ordered .hold with port := { (ordered .hold).port with urgent := none } } = .next t) := by
  refine ⟨by decide +kernel, ⟨rfl, rfl, rfl, rfl, rfl, rfl, ⟨rfl, rfl, rfl, rfl, rfl⟩⟩, by decide +kernel, by decide +kernel,
    forall_tget (t := live.permits) (P := fun j q => q.cabinet = 4 → j = 1) (by decide +kernel), by decide +kernel, by decide +kernel,
    by decide +kernel, forall_tget (t := allLost.cabinets)
      (P := fun _ x => x.link = .lost ∧ (allLost.link.counter + 1) % 8 ≠ 0) (by decide +kernel), by decide +kernel, _, rfl⟩

/-- The window of a poll to cabinet 2 after two failures. -/
def silentTwice : State := { polling2 with cabinets := tset live.cabinets 2 (some { onlineCabinet with link := .silent, failures := 2 }) }

theorem witness_FailedPollCounts : polling2.link.flight.map (fun f => (f.cabinet, f.live)) = some (2, true) ∧
    polling2.cabinet? 2 = some onlineCabinet ∧ ¬(onlineCabinet.link = .silent ∧ 2 ≤ onlineCabinet.failures) ∧
    silentTwice.cabinet? 2 = some { onlineCabinet with link := .silent, failures := 2 } ∧ silentTwice.ask = none ∧
    ({ silentTwice with ask := some waitingAsk } : State).ask = some waitingAsk ∧
    judgeReply 2 ([lineChar true 0x03].map receive) = .failed ∧
    (after (.cabinetDrop (frame [0x01])) (after (.pollSlot true) { live with link := { live.link with remaining := [1] } })).link.flight.map
      (fun f => (f.cabinet, f.live)) = some (1, false) := by decide +kernel

/-- A BUSY reply of cabinet 2. -/
def busyReply : List RawChar := message 0x02 [0x02, 0x01, 0x00, 0x00]

/-- A report of cabinet `c` in mode `m` with no charge. -/
def plainReport (c m : Byte) : List RawChar := report c 0x05 m [0x6C, 0x02] (List.replicate 10 0)

theorem witness_UnsoundRepliesFail : (∃ d ∈ [({ mark := true, data := 2, framing := false, noise := true } : RxChar)], d.framing = true ∨ d.noise = true) ∧
    (busyReply.dropLast.map receive).length ≠ 6 ∧
    ((busyReply.map receive).map RxChar.data).getLast? = some (~~~(((busyReply.map receive).map RxChar.data).dropLast.foldl (· + ·) 0)) ∧
    (busyReply.map receive).length = 6 ∧ ((plainReport 2 1).map receive).length = 46 ∧
    (∀ d ∈ busyReply.map receive, d.framing = false ∧ d.noise = false) ∧ (∀ d ∈ (busyReply.map receive).tail, d.mark = false) ∧
    (((plainReport 2 1).map receive).map RxChar.data).getLast? =
      some (~~~((((plainReport 2 1).map receive).map RxChar.data).dropLast.foldl (· + ·) 0)) ∧
    (∀ d ∈ (plainReport 2 1).map receive, d.framing = false ∧ d.noise = false) := by decide +kernel

/-- A majority of samples, and the place of every value of a report's blocks, as the first clauses have them. -/
theorem witness_UnsoundRepliesFail_fields : (∃ two : Sample → Bool, ∀ x, two x = true ↔ (x.first = true ∧ x.second = true) ∨
      (x.first = true ∧ x.third = true) ∨ (x.second = true ∧ x.third = true)) ∧
    ∀ p, 1 ≤ p → p ≤ 4 → (((plainReport 2 1).map receive).map RxChar.data).length = 46 ∧ ∃ v : Nat → Nat, ∀ j low high, j < 5 →
      (((plainReport 2 1).map receive).map RxChar.data)[5 + 10 * (p - 1) + 2 * j]? = some low →
      (((plainReport 2 1).map receive).map RxChar.data)[6 + 10 * (p - 1) + 2 * j]? = some high → v j = low.toNat + 256 * high.toNat := by
  refine ⟨⟨majority, ?_⟩, fun p _ _ => ⟨by decide +kernel,
    fun j => leAt (((plainReport 2 1).map receive).map RxChar.data) (5 + 10 * (p - 1) + 2 * j), fun j low high _ hl hh => ?_⟩⟩
  · rintro ⟨a, b, c⟩
    cases a <;> cases b <;> cases c <;> decide
  · have h6 : 5 + 10 * (p - 1) + 2 * j + 1 = 6 + 10 * (p - 1) + 2 * j := by omega
    simp only [leAt, h6, hl, hh, Option.getD_some]

/-- A code of 0 at either length, a REPORT and a HALTED of 6 characters and a BUSY of 46. -/
theorem witness_UnsoundRepliesFail_codes :
    ((message 0x02 [0x00, 0x00, 0x00, 0x00]).map receive).length = 6 ∧
    (((message 0x02 [0x00, 0x00, 0x00, 0x00]).map receive).map RxChar.data)[1]? = some 0x00 ∧
    ((report 0x02 0x00 0x01 [0x00, 0x00] (List.replicate 10 0)).map receive).length = 46 ∧
    (((message 0x02 [0x01, 0x00, 0x00, 0x00]).map receive).map RxChar.data)[1]? = some 0x01 ∧
    (((message 0x02 [0x03, 0x00, 0x00, 0x00]).map receive).map RxChar.data)[1]? = some 0x03 ∧
    ((report 0x02 0x02 0x01 [0x00, 0x00] (List.replicate 10 0)).map receive).length = 46 ∧
    (((report 0x02 0x02 0x01 [0x00, 0x00] (List.replicate 10 0)).map receive).map RxChar.data)[1]? = some 0x02 := by
  decide +kernel

theorem witness_BusyReplyIsGoodContact : polling2.link.flight.map (fun f => (f.cabinet, f.live, f.afterAsk)) = some (2, true, true) ∧
    polling2.cabinet? 2 = some onlineCabinet ∧ judgeReply 2 (busyReply.map receive) = .busy ∧ polling2.ask = none ∧
    ({ polling2 with ask := some waitingAsk } : State).ask = some waitingAsk ∧ (∃ n ∈ waitingAsk.waitSet, n ≠ 2) ∧
    (after (.permitAsk (frame [0x02, 0x00, 0x5A, 0x00])) polling2).link.flight.map (fun f => (f.live, f.afterAsk)) =
      some (true, false) := by decide +kernel

/-- The window of a poll to cabinet 2 with an ask for that cabinet in its wait, the poll formed after the ask was taken. -/
def polling2Asked : State := { polling2 with ask := some waitingAsk, port := { live.port with state := .working } }

theorem witness_AcceptedReportIsTaken : polling2.Sized ∧ polling2.link.flight.map (fun f => (f.cabinet, f.live, f.afterAsk)) = some (2, true, true) ∧
    polling2.cabinet? 2 = some onlineCabinet ∧ polling2.permitOf 2 = none ∧ polling2.ask = none ∧
    polling2Asked.ask = some waitingAsk ∧ waitingAsk.cabinet = 2 ∧
    judgeReply 2 ((plainReport 2 1).map receive) =
      .report (reportOf false (((plainReport 2 1).map receive).map RxChar.data)) ∧
    modeOfCode (reportOf false (((plainReport 2 1).map receive).map RxChar.data)).mode = .inverter ∧
    judgeReply 2 ((plainReport 2 2).map receive) =
      .report (reportOf false (((plainReport 2 2).map receive).map RxChar.data)) ∧
    modeOfCode (reportOf false (((plainReport 2 2).map receive).map RxChar.data)).mode = .battery :=
  ⟨⟨rfl, rfl, rfl, rfl, rfl, rfl, ⟨rfl, rfl, rfl, rfl, rfl⟩⟩, by decide +kernel⟩

theorem witness_IntakeOfOneBlock : profile1.InRange ∧ record5.state ≠ .retired ∧ record5.event = none ∧
    min (record5.bucket + 5) 65535 < profile1.capacity ∧ profile1.capacity ≤ min (record5.bucket + 6) 65535 ∧
    ({ record5 with event := some { minutes := 2, charge := 65535, lowest := 4690 } } : StringRecord).event =
      some { minutes := 2, charge := 65535, lowest := 4690 } ∧ (65535 : Nat) ≤ 65535 ∧
    (Mode.battery = .battery ∧ Mode.inverter ≠ .battery) :=
  ⟨profile1_inRange, by decide, rfl, by decide, by decide, rfl, by decide, by decide⟩

/-- The window of a poll to cabinet 4. -/
def polling4 : State := after (.pollSlot true) { live with link := { live.link with remaining := [4] } }

theorem witness_ReportMovesThePermit : polling4.Sized ∧ polling4.link.flight.map (fun f => (f.cabinet, f.live)) = some (4, true) ∧
    (polling4.cabinet? 4).isSome = true ∧ polling4.permitOf 4 = some (1, activePermit) ∧ polling4.ask = none ∧
    judgeReply 4 ((plainReport 4 1).map receive) =
      .report (reportOf false (((plainReport 4 1).map receive).map RxChar.data)) ∧
    modeOfCode (reportOf false (((plainReport 4 1).map receive).map RxChar.data)).mode = .inverter ∧
    (someItem .replaceString 8 .inProgress (some 1)).holds 1 = true ∧ (polling4.string? 8).map StringRecord.state = some .retiring :=
  ⟨⟨rfl, rfl, rfl, rfl, rfl, rfl, ⟨rfl, rfl, rfl, rfl, rfl⟩⟩, by decide +kernel⟩

/-- The rows where a bypass begins or a permit closes: Granted with and without minutes left, Returning recalled and not. -/
theorem witness_ReportMovesThePermit_rows :
    (after (.pollSlot true) { live with link := { live.link with remaining := [3] } }).permitOf 3 = some (2, grantedPermit3) ∧
    (polling4.setPermit 1 (some { activePermit with state := .granted, remaining := 0 })).permitOf 4 =
      some (1, { activePermit with state := .granted, remaining := 0 }) ∧
    (polling4.setPermit 1 (some { activePermit with state := .returning, recallAsked := true })).permitOf 4 =
      some (1, { activePermit with state := .returning, recallAsked := true }) ∧
    (polling4.setPermit 1 (some { activePermit with state := .overdue, remaining := 0 })).permitOf 4 =
      some (1, { activePermit with state := .overdue, remaining := 0 }) ∧
    modeOfCode (reportOf false (((plainReport 4 4).map receive).map RxChar.data)).mode = .maintenanceBypass ∧
    ({ polling4 with ask := some waitingAsk } : State).ask = some waitingAsk ∧ waitingAsk.cabinet ≠ 4 := by decide +kernel

/-- The part at the end of a wait, with required spare 0 and a given autonomy floor. -/
def settledWith (autonomyFloor : Nat) : State :=
  { settled with floor := { settled.floor with config := { settled.floor.config with spare1 := 0, autonomyFloor := autonomyFloor } } }

theorem witness_TheAskEnds : settled.ask = some { waitingAsk with waitSet := [] } ∧ settled.cabinet? 2 = some onlineCabinet ∧
    (settled.figures (some 2) 1).spare < ((settled.figures (some 2) 1).required : Int) ∧
    (((settledWith 10).figures (some 2) 1).required : Int) ≤ ((settledWith 10).figures (some 2) 1).spare ∧
    ((settledWith 10).figures (some 2) 1).autonomy < (settledWith 10).floor.config.autonomyFloor ∧
    (((settledWith 0).figures (some 2) 1).required : Int) ≤ ((settledWith 0).figures (some 2) 1).spare ∧
    (settledWith 0).floor.config.autonomyFloor ≤ ((settledWith 0).figures (some 2) 1).autonomy ∧
    lowestFree (settledWith 0).permits = some 4 ∧ waiting.ask = some waitingAsk ∧ waiting.floor.utility ≠ .lost ∧
    waiting.floor.hold = false ∧ onlineCabinet.mode = .inverter ∧
    ({ settled with cabinets := tset live.cabinets 2 (some { onlineCabinet with link := .lost, mode := .battery }) } : State).cabinet? 2 =
      some { onlineCabinet with link := .lost, mode := .battery } ∧ live.ask = none ∧
    ({ waiting with floor := { waiting.floor with utility := .lost } } : State).floor.utility = .lost ∧
    ({ waiting with floor := { waiting.floor with hold := true } } : State).floor.hold = true ∧
    ({ waiting with cabinets := tset live.cabinets 2 (some { onlineCabinet with mode := .off }) } : State).cabinet? 2 =
      some { onlineCabinet with mode := .off } := by decide +kernel

theorem witness_MinuteTickCountsEverything : State.reset.phase = .running ∧ State.reset.port.state = .starting ∧ live.Sized ∧
    (after (.resetAssert .matched) live).phase ≠ .running ∧ live.operating = true ∧ (live.cabinet? 1).isSome = true ∧ live.cabinet? 24 = none ∧
    live.string? 64 = none ∧
    ((live.string? 5).map (fun r => (r.cabinet, r.profile, r.m, r.state)) = some (some 2, 1, 0, .good) ∧
      live.cabinet? 2 = some onlineCabinet ∧ live.profile? 1 = some profile1) ∧
    ((live.string? 8).map (fun r => (r.cabinet, r.state)) = some (some 4, .retiring)) ∧
    (live.permit? 2 = some grantedPermit3 ∧ (live.cabinet? 3).isSome = true) := by
  refine ⟨?_, ?_, live_sized, ?_⟩ <;> decide +kernel

/-- The record of slot 5 one minute before its window fills, at a temperature. -/
def windowed (t : Int) : StringRecord := { record5 with m := 59, s := 59 * t, temperature := t }

/-- The part with that record. -/
def lastMinute (t : Int) : State := live.setString 5 (some (windowed t))

/-- A tick at the ends: the 60th minute of a window, the last minute of a pulse interval, of a grant timeout, of a permit and of a
visit. -/
theorem witness_MinuteTickCountsEverything_ends : (lastMinute 315).operating = true ∧ 59 ≤ (windowed 315).m ∧
    (lastMinute 315).countsMinute (windowed 315) = true ∧ profile1.interval * 1440 ≤ min (43199 + 1) 999999 ∧
    ({ grantedPermit3 with timeout := some 1 } : Permit).timeout.getD 0 ≤ 1 ∧
    ({ activePermit with remaining := 1 } : Permit).remaining ≤ 1 ∧ ({ openVisit with remaining := 1 } : Visit).remaining = 1 := by
  decide +kernel

theorem witness_CalendarStepAges : profile1.InRange ∧ (∀ t ∈ [(315 : Int), 180, 700, -200],
    (lastMinute t).operating = true ∧ (lastMinute t).string? 5 = some (windowed t) ∧ (lastMinute t).profile? 1 = some profile1 ∧
    (lastMinute t).countsMinute (windowed t) = true ∧ (windowed t).m = 59 ∧
    ((windowed t).s + (lastMinute t).minuteTemperature profile1 (windowed t)) / 60 - 250 = t - 250) ∧
    ((315 : Int) - 250 = 0 * 100 + 65 ∧ (180 : Int) - 250 = -1 * 100 + 30 ∧ (700 : Int) - 250 = 4 * 100 + 50 ∧
      (-200 : Int) - 250 = -5 * 100 + 50) := ⟨profile1_inRange, by decide +kernel, by decide⟩

theorem witness_LastMinutesOfOneObject : live.operating = true ∧
    (live.setString 5 (some { record5 with sinceR := 43199 })).string? 5 = some { record5 with sinceR := 43199 } ∧
    43199 + 1 = profile1.interval * 1440 ∧ (live.cabinet? 2).isSome = true ∧
    (live.setPermit 2 (some { grantedPermit3 with timeout := some 1 })).permit? 2 = some { grantedPermit3 with timeout := some 1 } ∧
    (live.cabinet? 3).isSome = true ∧
    (live.setPermit 1 (some { activePermit with remaining := 1 })).permit? 1 = some { activePermit with remaining := 1 } ∧
    (live.setVisit 1 (some { openVisit with remaining := 1 })).visit? 1 = some { openVisit with remaining := 1 } := by
  decide +kernel

theorem witness_SpareCountIsTheLargest : [4000, 3000, 3000].Perm [3000, 4000, 3000] ∧
    [4000, 3000, 3000].Pairwise (fun a b => b ≤ a) ∧ [3000, 4000, 3000].sum < 10001 ∧ 10000 ≤ [3000, 4000, 3000].sum := by decide

theorem witness_FiguresOfAGroup : (live.groups.length = 4 ∧ (live.figures none 1).load = 2480 ∧ (live.figures none 1).creq = 2728 ∧
      (live.figures none 1).capacity = 6000) ∧
    (entries live.cabinets).filter (fun e => e.2.group == 4) = [] ∧ (live.figures none 1).load ≠ 0 ∧ (live.figures none 4).load = 0 ∧
    (((entries live.cabinets).filter (fun e => e.2.group == 1)).filter (fun e =>
      (e.2.link == .online || e.2.link == .silent) && (e.2.mode == .inverter || e.2.mode == .battery) &&
        !(entries live.permits).any (fun q => q.2.cabinet == e.1) && none != some e.1)).map (fun e => e.1) = [1, 2] := by
  decide +kernel

theorem witness_StoreWritesInOrder : ({ writing with store := { writing.store with writer := none } } : State).phase = .running ∧
    writing.phase = .running ∧ writing.store.queue = cabinetImage 1 :: [stringImage 5] ∧ writing.store.writer.isSome = true ∧
    ((after (.resetAssert (.differs false)) writing).phase = .inReset ∧ (after (.resetAssert (.differs false)) writing).store.writer.isSome = true) ∧
    live.store.writer = none ∧ live.store.images.Sized :=
  ⟨by decide +kernel, by decide +kernel, by decide +kernel, by decide +kernel, by decide +kernel, by decide +kernel,
    ⟨rfl, rfl, rfl, rfl, rfl⟩⟩

theorem witness_PowerResetAndStarts : writing.phase = .running ∧ writing.phase ≠ .unpowered ∧ writing.store.writer.isSome = true ∧
    live.store.writer = none ∧ (after .powerLoss writing).phase = .unpowered ∧
    ((after (.resetAssert (.differs false)) writing).phase = .inReset ∧ (after (.resetAssert (.differs false)) writing).phase ≠ .unpowered ∧
      (after (.resetAssert (.differs false)) writing).store.writer ≠ none) ∧
    (after (.storeWriteEnd (.differs false)) (after (.resetAssert (.differs false)) writing)).phase = .inReset ∧
    (after (.storeWriteEnd (.differs false)) (after (.resetAssert (.differs false)) writing)).store.writer = none := by
  decide +kernel

/-- Stored images: a profile, a cabinet, two records at one position of it, a permit and a visit; image 2 of the cabinets is bad. -/
def storedImages : Images :=
  { State.reset.store.images with
    profiles := setImageAt State.reset.store.images.profiles 1 { good := true, number := 1, content := some profile1 }
    cabinets := setImageAt (setImageAt State.reset.store.images.cabinets 4
      { good := true, number := 2, content := some { group := 1, rated := 9000 } }) 2
      { good := false, number := 9, content := some { group := 1, rated := 3000 } }
    strings := setImageAt (setImageAt State.reset.store.images.strings 5
      { good := true, number := 3, content := some { record5 with cabinet := some 4 } }) 6
      { good := true, number := 4, content := some { record5 with cabinet := some 4 } }
    permits := setImageAt State.reset.store.images.permits 1 { good := true, number := 5, content := some { activePermit with timeout := none } }
    visits := setImageAt State.reset.store.images.visits 1 { good := true, number := 6, content := some openVisit } }

/-- The part without power over those images. -/
def stored : State := after .powerLoss { live with store := { live.store with images := storedImages } }

theorem witness_StartLoadsTheImages : ∃ t : State, stored.Sized ∧ stored.phase = .unpowered ∧ exec .powerOn stored = .next t ∧
    stored.store.images = storedImages ∧ (after (.resetAssert .matched) live).phase = .inReset ∧ (after (.resetAssert .matched) live).store.writer = none ∧
    (imageAt storedImages.profiles 1).map (fun j => (j.good, j.content)) = some (true, some profile1) ∧
    (imageAt storedImages.cabinets 2).map (fun j => j.good) = some false ∧
    (imageAt storedImages.cabinets 3).map (fun j => j.content) = some none ∧
    (imageAt storedImages.cabinets 4).map (fun j => (j.good, j.content.isSome)) = some (true, true) ∧
    (imageAt storedImages.permits 1).map (fun j => (j.good, j.content.isSome)) = some (true, true) ∧
    (imageAt storedImages.visits 1).map (fun j => (j.good, j.content.isSome)) = some (true, true) ∧
    imageAt storedImages.strings 5 = some { good := true, number := 3, content := some { record5 with cabinet := some 4 } } ∧
    imageAt storedImages.strings 6 = some { good := true, number := 4, content := some { record5 with cabinet := some 4 } } ∧
    (imageAt storedImages.strings 64).map (fun j => j.content) = some none :=
  ⟨_, ⟨rfl, rfl, rfl, rfl, rfl, rfl, ⟨rfl, rfl, rfl, rfl, rfl⟩⟩, by decide +kernel, rfl, by decide +kernel⟩

/-- R171: of two records stored at one position the later image stays attached, the other becomes unattached and Suspect. -/
theorem test_start_string_check : ((after .powerOn stored).string? 5).map (fun r => (r.cabinet, r.state)) = some (none, .suspect) ∧
    ((after .powerOn stored).string? 6).map (fun r => (r.cabinet, r.state)) = some (some 4, .good) := by decide +kernel

theorem witness_FirstJudgementEndsTheStart : State.reset.Sized ∧ State.reset.PortAgrees ∧ State.reset.phase = .running ∧
    State.reset.port.state = .starting ∧ State.reset.floor.tickHeld = false ∧ State.reset.port.urgent = none ∧
    State.reset.floor.senseMoved = false ∧ (∀ g ∈ State.reset.groups, g.status = .short) := by
  refine ⟨⟨rfl, rfl, rfl, rfl, rfl, rfl, ⟨rfl, rfl, rfl, rfl, rfl⟩⟩, ⟨?_, ?_⟩, ?_⟩ <;> decide +kernel

/-- The part in its start with a minute tick held and an order in the urgent slot. -/
def heldUp : State :=
  { State.reset with
    floor := { State.reset.floor with tickHeld := true }, port := { Port.starting with urgent := some .hold } }

theorem witness_FirstJudgementEndsTheStart_held : ∃ t0 t1 : State, heldUp.phase = .running ∧ heldUp.port.state = .starting ∧
    exec .firstUtilityJudgement
      { heldUp with floor := { heldUp.floor with tickHeld := false }, port := { heldUp.port with urgent := none } } = .next t0 ∧
    heldUp.floor.tickHeld = true ∧ exec .minuteTick t0 = .next t1 := ⟨_, _, by decide +kernel, by decide +kernel, rfl, by decide +kernel, rfl⟩

/-- The records of `live` as a start finds them, with a second permit that names cabinet 3. -/
def starting : State :=
  { live with
    floor := { live.floor with utility := .unknown }, port := Port.starting
    permits := [some activePermit, some grantedPermit3, some { grantedPermit3 with cabinet := 5, visit := some 3 },
      some { grantedPermit3 with cabinet := 24 }, some grantedPermit3, none, none, none]
    strings := tset live.strings 5 (some { record5 with event := some { minutes := 2, charge := 97, lowest := 4690 } }) }

theorem witness_StartUpRestores : ∃ t : State, starting.Sized ∧ starting.PortAgrees ∧ starting.phase = .running ∧
    starting.port.state = .starting ∧ starting.floor.tickHeld = false ∧ starting.port.urgent = none ∧
    exec .firstUtilityJudgement starting = .next t ∧ starting.ItemsDistinct ∧
    (starting.permit? 4 = some { grantedPermit3 with cabinet := 24 } ∧ starting.cabinet? 24 = none) ∧
    (starting.permit? 2 = some grantedPermit3 ∧ starting.permit? 5 = some grantedPermit3) ∧
    (starting.permit? 3).map (fun p => (p.state, p.visit)) = some (.granted, some 3) ∧ starting.visit? 3 = none ∧
    starting.permit? 1 = some activePermit ∧ starting.permit? 8 = none ∧ (starting.visit? 1).isSome = true ∧
    starting.visit? 4 = none ∧ (starting.string? 5).map (fun r => r.event.isSome) = some true ∧
    (starting.string? 10).map StringRecord.state = some .retired ∧ (starting.string? 8).map StringRecord.state = some .retiring :=
  ⟨_, ⟨rfl, rfl, rfl, rfl, rfl, rfl, ⟨rfl, rfl, rfl, rfl, rfl⟩⟩, ⟨by decide +kernel, by decide +kernel⟩, by decide +kernel,
    by decide +kernel, by decide +kernel, by decide +kernel, rfl, live_itemsDistinct, by decide +kernel⟩

/-- R173: of two Granted permits for cabinet 3 one stays, and the one for the Absent cabinet 24 goes. -/
theorem test_start_permits : ((after .firstUtilityJudgement starting).permits.take 5).map (fun p => p.map Permit.state) =
    [some .active, some .granted, some .granted, none, none] := by decide +kernel

end Sys2Proof.Tests
end

namespace Sys2Proof.Machine

/-! ## Folds over the numbers of a table -/

theorem numbers_succ (n : Nat) : numbers (n + 1) = numbers n ++ [n + 1] := by
  simp [numbers, List.range'_1_concat, Nat.add_comm]

theorem mem_numbers (n k : Nat) : k ∈ numbers n ↔ 1 ≤ k ∧ k ≤ n := by
  simp [numbers, List.mem_range'_1]; omega

/-- Induction along a fold over `1..n`: what holds before, and is carried from each number to the next, holds at the end. -/
theorem foldl_numbers {σ : Type} {f : σ → Nat → σ} {s : σ} (P : Nat → σ → Prop) (N : Nat) (h0 : P 0 s)
    (hstep : ∀ n t, n < N → P n t → P (n + 1) (f t (n + 1))) : P N ((numbers N).foldl f s) := by
  have key : ∀ n, n ≤ N → P n ((numbers n).foldl f s) := by
    intro n
    induction n with
    | zero => intro _; exact h0
    | succ n ih =>
      intro h
      rw [numbers_succ, List.foldl_append]
      exact hstep n _ (by omega) (ih (by omega))
  exact key N le_rfl

/-! ## Elementary changes

Every command but the starts, the losses of power and the end of a start is a chain of the changes listed here; the invariants of
the records are kept by each of them. -/

/-- What a change of a record in its slot never does: bring it to another place, or retire it where it stands (R50, R55). -/
structure StringRecord.Keeps (r q : StringRecord) : Prop where
  cabinet : q.cabinet = r.cabinet ∨ q.cabinet = none
  position : q.position = r.position
  retired : q.state = .retired → q.cabinet = none ∨ r.state = .retired

/-- The tables have their sizes and everything in them is in range. -/
structure State.InRanges (s : State) : Prop where
  sized : s.Sized
  floor : s.FloorInRange
  records : s.RecordsInRange

/-- The record can be put in a free slot: it names a Present cabinet and a position there that no record holds (R57). -/
def State.CanTake (s : State) (q : StringRecord) : Prop :=
  ∃ c, q.cabinet = some c ∧ (s.cabinet? c).isSome = true ∧ (1 ≤ q.position ∧ q.position ≤ 4) ∧ q.state ≠ .retired ∧
    ∀ j r, s.string? j = some r → r.cabinet = some c → r.position ≠ q.position

/-- A change that touches none of the records that the invariants are about. -/
structure State.Quiet (s t : State) : Prop where
  phase : t.phase = s.phase
  config : t.floor.config = s.floor.config
  cabinets : t.cabinets = s.cabinets
  profiles : t.profiles = s.profiles
  strings : t.strings = s.strings
  permits : t.permits = s.permits
  ask : t.ask.map Ask.cabinet = s.ask.map Ask.cabinet
  portState : t.port.state = s.port.state
  groups : t.groups.length = s.groups.length ∨ t.groups.length = Config.groupCount
  visits : t.visits.length = s.visits.length
  images : s.store.images.Sized → t.store.images.Sized

/-- The port neither starts nor works on an ask. -/
def PortState.calm (p : PortState) : Prop := p = .idle ∨ p = .replyReady

/-- The port with a reply in its buffer. -/
def Port.holding (r : Option Reply) (p : Port) : Port := { p with reply := r, state := .replyReady }

/-- One elementary change of the state. -/
inductive Move : State → State → Prop where
  | quiet {s t : State} (h : s.Quiet t) : Move s t
  | config {s : State} (c : FloorConfig) (h : c.InRange) : Move s { s with floor := { s.floor with config := c } }
  | profile {s : State} (n : Nat) (p : Profile) (h : p.InRange) : Move s (s.setProfile n (some p))
  | cabinet {s : State} (c : Nat) (y : Cabinet) (h : s.FloorInRange → y.InRange) : Move s (s.setCabinet c (some y))
  | ages {s : State} : Move s s.tickCabinets
  | drop {s : State} (c : Nat) (hp : ∀ k p, s.permit? k = some p → p.cabinet ≠ c)
      (hr : ∀ k r, s.string? k = some r → 1 ≤ r.position ∧ r.position ≤ 4 → r.cabinet = some c → r.state = .retired)
      (hi : s.port.state = .idle) : Move s (s.setCabinet c none)
  | string {s : State} (k : Nat) (r q : StringRecord) (hk : s.string? k = some r) (h : r.Keeps q)
      (hq : s.InRanges → q.InRange) : Move s (s.setString k (some q))
  | commission {s : State} (k : Nat) (q : StringRecord) (hc : s.StringsPlaced → s.CanTake q)
      (hq : s.InRanges → q.InRange) : Move s (s.setString k (some q))
  | replace {s : State} (j k : Nat) (old q r : StringRecord) (hj : s.string? j = some old) (h : old.Keeps q)
      (hq : q.cabinet = none) (hc : r.cabinet = old.cabinet) (hc' : r.cabinet.isSome = true) (hp : r.position = old.position)
      (hr : r.state ≠ .retired) (hi : s.InRanges → q.InRange ∧ r.InRange) :
      Move s ((s.setString j (some q)).setString k (some r))
  | freeString {s : State} (k : Nat) : Move s (s.setString k none)
  | permit {s : State} (k : Nat) (p q : Permit) (hk : s.permit? k = some p) (h : q.cabinet = p.cabinet) :
      Move s (s.setPermit k (some q))
  | freePermit {s : State} (k : Nat) : Move s (s.setPermit k none)
  | grant {s : State} (a : Ask) (k : Nat) (p : Permit) (r : Option Reply) (ha : s.ask = some a) (h : p.cabinet = a.cabinet) :
      Move s { s with ask := none, permits := tset s.permits k (some p), port := s.port.holding r }
  | beginAsk {s : State} (a : Ask) (hi : s.port.state = .idle) (hc : (s.cabinet? a.cabinet).isSome = true)
      (hp : ∀ k p, s.permit? k = some p → p.cabinet ≠ a.cabinet) :
      Move s { s with ask := some a, port := { s.port with state := .working } }
  | endAsk {s : State} (a : Ask) (r : Option Reply) (ha : s.ask = some a) :
      Move s { s with ask := none, port := s.port.holding r }
  | port {s : State} (p : Port) (h : p.state = s.port.state ∨ (s.port.state.calm ∧ p.state.calm)) : Move s { s with port := p }
  | portReset {s : State} : Move s s.portReset

/-- A chain of elementary changes. -/
inductive Moves (s : State) : State → Prop where
  | refl : Moves s s
  | tail {t u : State} (h : Moves s t) (m : Move t u) : Moves s u

theorem Moves.trans {s t u : State} (h : Moves s t) (g : Moves t u) : Moves s u := by
  induction g with
  | refl => exact h
  | tail _ m ih => exact ih.tail m

theorem Moves.keep {P : State → Prop} (hP : ∀ s t, Move s t → P s → P t) {s t : State} (h : Moves s t) (hs : P s) : P t := by
  induction h with
  | refl => exact hs
  | tail _ hm ih => exact hP _ _ hm ih

theorem Moves.foldl {α : Type} {f : State → α → State} (l : List α) (h : ∀ a ∈ l, ∀ t, Moves t (f t a)) (s : State) :
    Moves s (l.foldl f s) := by
  induction l generalizing s with
  | nil => exact .refl
  | cons a l ih => exact (h a (by simp) s).trans (ih (fun b hb => h b (by simp [hb])) _)

/-! ## The invariants along a chain -/

theorem State.cabinet?_setCabinet_isSome {s : State} {c d : Nat} {y : Cabinet} (h : (s.cabinet? d).isSome = true) :
    ((s.setCabinet c (some y)).cabinet? d).isSome = true := by
  by_cases hd : d = c
  · subst hd
    obtain ⟨x, hx⟩ := Option.isSome_iff_exists.mp h
    simp [State.cabinet?, State.setCabinet, tget_tset_some _ _ _ _ hx]
  · simpa [State.cabinet?, State.setCabinet, tget_tset_ne _ _ _ _ hd] using h

/-- What an entry reads after any write: what it held, or the value written. -/
theorem tget_tset_cases {α : Type} (t : List (Option α)) (n m : Nat) (v : Option α) :
    tget (tset t n v) m = tget t m ∨ (m = n ∧ tget (tset t n v) m = v) := by
  by_cases h : m = n
  · subst h
    by_cases h1 : 1 ≤ m ∧ m ≤ t.length
    · exact .inr ⟨rfl, tget_tset_same t m v h1.1 h1.2⟩
    · left
      cases hg : tget t m with
      | some a => exact absurd (tget_some t m a hg) h1
      | none =>
        cases hs : tget (tset t m v) m with
        | none => rfl
        | some a => exact absurd (by simpa using tget_some _ m a hs) h1
  · exact .inl (tget_tset_ne t n m v h)

theorem tget_map {α β : Type} (f : α → β) (t : List (Option α)) (n : Nat) :
    tget (t.map (fun x => x.map f)) n = (tget t n).map f := by
  cases n with
  | zero => rfl
  | succ n => simp only [tget, List.getElem?_map]; cases t[n]? with
    | none => rfl
    | some o => cases o <;> rfl

theorem State.tickCabinets_cabinet? (s : State) (c : Nat) :
    s.tickCabinets.cabinet? c = (s.cabinet? c).map (fun x => { x with age := min (x.age + 1) Config.ageLimit }) :=
  tget_map _ s.cabinets c

/-! ### Sizes -/

theorem Move.sized {s t : State} (h : Move s t) (hs : s.Sized) : t.Sized := by
  obtain ⟨h1, h2, h3, h4, h5, h6, h7⟩ := hs
  cases h with
  | quiet q =>
    exact ⟨by rw [q.cabinets, h1], by rw [q.profiles, h2], by rw [q.strings, h3],
      by rcases q.groups with hg | hg <;> simp [hg, h4], by rw [q.permits, h5], by rw [q.visits, h6], q.images h7⟩
  | _ =>
    constructor <;> simpa [State.tickCabinets, State.portReset, Port.holding] using by assumption

/-! ### Ranges -/

theorem Move.inRanges {s t : State} (h : Move s t) (hs : s.InRanges) : t.InRanges := by
  refine ⟨h.sized hs.sized, ?_, ?_⟩
  · obtain ⟨hc, hx⟩ := hs.floor
    cases h with
    | quiet q => exact ⟨q.config ▸ hc, fun c x h => hx c x (by rwa [State.cabinet?, q.cabinets] at h)⟩
    | config c h => exact ⟨h, hx⟩
    | cabinet c y h =>
      refine ⟨hc, fun d x hd => ?_⟩
      rcases tget_tset_cases s.cabinets c d (some y) with e | ⟨-, e⟩
      · exact hx d x (e.symm.trans hd)
      · cases e.symm.trans hd; exact h hs.floor
    | ages =>
      refine ⟨hc, fun d x hd => ?_⟩
      rw [State.tickCabinets_cabinet?] at hd
      obtain ⟨y, hy, rfl⟩ := Option.map_eq_some_iff.mp hd
      exact { hx d y hy with age := Nat.min_le_right _ _ }
    | drop c =>
      refine ⟨hc, fun d x hd => ?_⟩
      rcases tget_tset_cases s.cabinets c d none with e | ⟨-, e⟩
      · exact hx d x (e.symm.trans hd)
      · cases e.symm.trans hd
    | _ => exact ⟨hc, hx⟩
  · obtain ⟨hp, hr⟩ := hs.records
    cases h with
    | quiet q =>
      exact ⟨fun n p h => hp n p (by rwa [State.profile?, q.profiles] at h),
        fun k r h => hr k r (by rwa [State.string?, q.strings] at h)⟩
    | profile n p h =>
      refine ⟨fun m q hq => ?_, hr⟩
      rcases tget_tset_cases s.profiles n m (some p) with e | ⟨-, e⟩
      · exact hp m q (e.symm.trans hq)
      · cases e.symm.trans hq; exact h
    | string k r q hk hkeep hq =>
      refine ⟨hp, fun j a ha => ?_⟩
      rcases tget_tset_cases s.strings k j (some q) with e | ⟨-, e⟩
      · exact hr j a (e.symm.trans ha)
      · cases e.symm.trans ha; exact hq hs
    | commission k q hc hq =>
      refine ⟨hp, fun j a ha => ?_⟩
      rcases tget_tset_cases s.strings k j (some q) with e | ⟨-, e⟩
      · exact hr j a (e.symm.trans ha)
      · cases e.symm.trans ha; exact hq hs
    | replace j k old q r hj hkeep hn hc hc' hpos hret hi =>
      refine ⟨hp, fun i a ha => ?_⟩
      rcases tget_tset_cases (tset s.strings j (some q)) k i (some r) with e | ⟨-, e⟩
      · rcases tget_tset_cases s.strings j i (some q) with e' | ⟨-, e'⟩
        · exact hr i a (e'.symm.trans (e.symm.trans ha))
        · cases e'.symm.trans (e.symm.trans ha); exact (hi hs).1
      · cases e.symm.trans ha; exact (hi hs).2
    | freeString k =>
      refine ⟨hp, fun j a ha => ?_⟩
      rcases tget_tset_cases s.strings k j none with e | ⟨-, e⟩
      · exact hr j a (e.symm.trans ha)
      · cases e.symm.trans ha
    | _ => exact ⟨hp, hr⟩

/-! ### Places of the strings -/

theorem StringRecord.Keeps.refl (r : StringRecord) : r.Keeps r := ⟨.inl rfl, rfl, fun h => .inr h⟩

/-- Records that keep their places, at cabinets that stay Present, are still well placed. -/
theorem State.StringsPlaced.of_keeps {s t : State} (h : s.StringsPlaced)
    (hk : ∀ j q, t.string? j = some q → ∃ r, s.string? j = some r ∧ r.Keeps q)
    (hc : ∀ j r c, s.string? j = some r → r.cabinet = some c → (t.cabinet? c).isSome = true) : t.StringsPlaced := by
  have back : ∀ j q c, t.string? j = some q → q.cabinet = some c →
      ∃ r, s.string? j = some r ∧ r.cabinet = some c ∧ r.position = q.position := by
    intro j q c hq hqc
    obtain ⟨r, hr, hkeep⟩ := hk j q hq
    rcases hkeep.cabinet with e | e
    · exact ⟨r, hr, e ▸ hqc, hkeep.position.symm⟩
    · rw [e] at hqc; cases hqc
  refine ⟨fun k q hq => ?_, fun k q hq hret => ?_, fun k q c hq hqc => ?_, fun j k q q' c hq hq' hqc hqc' hpos => ?_⟩
  · obtain ⟨r, hr, hkeep⟩ := hk k q hq
    rw [hkeep.position]; exact h.position k r hr
  · obtain ⟨r, hr, hkeep⟩ := hk k q hq
    rcases hkeep.retired hret with e | e
    · exact e
    · rcases hkeep.cabinet with e' | e'
      · rw [e', h.retired k r hr e]
      · exact e'
  · obtain ⟨r, hr, hrc, -⟩ := back k q c hq hqc
    exact hc k r c hr hrc
  · obtain ⟨r, hr, hrc, hp⟩ := back j q c hq hqc
    obtain ⟨r', hr', hrc', hp'⟩ := back k q' c hq' hqc'
    exact h.single j k r r' c hr hr' hrc hrc' (hp.trans (hpos.trans hp'.symm))

/-- A record put in a slot, where it can be taken, is well placed beside the others. -/
theorem State.StringsPlaced.commission {s : State} {k : Nat} {q : StringRecord} (h : s.StringsPlaced) (hq : s.CanTake q) :
    (s.setString k (some q)).StringsPlaced := by
  obtain ⟨c, hqc, hpres, hpos, hret, hfree⟩ := hq
  have read : ∀ j a, (s.setString k (some q)).string? j = some a → s.string? j = some a ∨ (j = k ∧ a = q) := by
    intro j a ha
    rcases tget_tset_cases s.strings k j (some q) with e | ⟨hj, e⟩
    · exact .inl (e.symm.trans ha)
    · exact .inr ⟨hj, by cases e.symm.trans ha; rfl⟩
  refine ⟨fun j a ha => ?_, fun j a ha hr => ?_, fun j a d ha had => ?_, fun i j a b d ha hb had hbd hp => ?_⟩
  · rcases read j a ha with ha | ⟨-, rfl⟩
    · exact h.position j a ha
    · exact hpos
  · rcases read j a ha with ha | ⟨-, rfl⟩
    · exact h.retired j a ha hr
    · exact absurd hr hret
  · rcases read j a ha with ha | ⟨-, rfl⟩
    · exact h.present j a d ha had
    · cases hqc.symm.trans had; exact hpres
  · rcases read i a ha with ha' | ⟨hi, rfl⟩ <;> rcases read j b hb with hb' | ⟨hj, rfl⟩
    · exact h.single i j a b d ha' hb' had hbd hp
    · cases hqc.symm.trans hbd; exact absurd hp (hfree i a ha' had)
    · cases hqc.symm.trans had; exact absurd hp.symm (hfree j b hb' hbd)
    · exact hi.trans hj.symm

theorem Move.stringsPlaced {s t : State} (h : Move s t) (hs : s.StringsPlaced) : t.StringsPlaced := by
  have same : ∀ j q, s.string? j = some q → ∃ r, s.string? j = some r ∧ r.Keeps q := fun j q hq => ⟨q, hq, .refl q⟩
  cases h with
  | quiet q =>
    refine hs.of_keeps (fun j r hr => same j r (by rwa [State.string?, q.strings] at hr)) fun j r c hr hc => ?_
    rw [State.cabinet?, q.cabinets]; exact hs.present j r c hr hc
  | cabinet c y => exact hs.of_keeps same fun j r d hr hd => State.cabinet?_setCabinet_isSome (hs.present j r d hr hd)
  | ages =>
    refine hs.of_keeps same fun j r d hr hd => ?_
    rw [State.tickCabinets_cabinet?, Option.isSome_map]; exact hs.present j r d hr hd
  | drop c hp hr hi =>
    refine hs.of_keeps same fun j r d hj hd => ?_
    have hne : d ≠ c := by
      rintro rfl
      rw [hs.retired j r hj (hr j r hj (hs.position j r hj) hd)] at hd; cases hd
    rw [State.cabinet?, State.setCabinet_cabinets, tget_tset_ne _ _ _ _ hne]
    exact hs.present j r d hj hd
  | string k r q hk hkeep =>
    refine hs.of_keeps (fun j a ha => ?_) hs.present
    rcases tget_tset_cases s.strings k j (some q) with e | ⟨rfl, e⟩
    · exact same j a (e.symm.trans ha)
    · cases e.symm.trans ha; exact ⟨r, hk, hkeep⟩
  | commission k q hc => exact hs.commission (hc hs)
  | replace j k old q r hj hkeep hn hc hc' hpos hret hi =>
    obtain ⟨c, hrc⟩ := Option.isSome_iff_exists.mp hc'
    have hold : old.cabinet = some c := hc.symm.trans hrc
    have h1 : (s.setString j (some q)).StringsPlaced := by
      refine hs.of_keeps (fun i a ha => ?_) hs.present
      rcases tget_tset_cases s.strings j i (some q) with e | ⟨rfl, e⟩
      · exact same i a (e.symm.trans ha)
      · cases e.symm.trans ha; exact ⟨old, hj, hkeep⟩
    refine h1.commission ⟨c, hrc, hs.present j old c hj hold, hpos ▸ hs.position j old hj, hret, fun i a ha hac hap => ?_⟩
    have hne : i ≠ j := by
      rintro rfl
      cases (tget_tset_some s.strings i old (some q) hj).symm.trans ha
      rw [hn] at hac; cases hac
    have ha' : s.string? i = some a := (tget_tset_ne s.strings j i (some q) hne).symm.trans ha
    exact hne (hs.single i j a old c ha' hj hac hold (hap.trans hpos))
  | freeString k =>
    refine hs.of_keeps (fun j a ha => ?_) hs.present
    rcases tget_tset_cases s.strings k j none with e | ⟨-, e⟩
    · exact same j a (e.symm.trans ha)
    · cases e.symm.trans ha
  | _ => exact ⟨hs.position, hs.retired, hs.present, hs.single⟩

/-! ### Permits -/

/-- An ask waits only while the port is Working. -/
def State.AskWorks (s : State) : Prop := s.ask.isSome = true → s.port.state = .working

/-- What `OnePermitEach` says of an operating part. -/
structure State.PermitsDistinct (s : State) : Prop where
  single : ∀ j k p q, s.permit? j = some p → s.permit? k = some q → p.cabinet = q.cabinet → j = k
  asked : ∀ a, s.ask = some a → ∀ k p, s.permit? k = some p → p.cabinet ≠ a.cabinet
  present : ∀ k p, s.permit? k = some p → (s.cabinet? p.cabinet).isSome = true
  askPresent : ∀ a, s.ask = some a → (s.cabinet? a.cabinet).isSome = true

theorem State.onePermitEach_iff (s : State) : s.OnePermitEach ↔ (s.operating = true → s.PermitsDistinct) :=
  ⟨fun h ho => ⟨(h ho).1, (h ho).2.1, (h ho).2.2.1, (h ho).2.2.2⟩,
    fun h ho => ⟨(h ho).single, (h ho).asked, (h ho).present, (h ho).askPresent⟩⟩

/-- Permits that stand where they stood, for cabinets that stay Present, beside the same ask or none, are as distinct as before. -/
theorem State.PermitsDistinct.of_standing {s t : State} (h : s.PermitsDistinct)
    (hp : ∀ k q, t.permit? k = some q → ∃ p, s.permit? k = some p ∧ q.cabinet = p.cabinet)
    (ha : ∀ a, t.ask = some a → ∃ b, s.ask = some b ∧ a.cabinet = b.cabinet)
    (hc : ∀ c, (s.cabinet? c).isSome = true → (∃ k p, s.permit? k = some p ∧ p.cabinet = c) ∨ s.ask.isSome = true →
      (t.cabinet? c).isSome = true) : t.PermitsDistinct := by
  refine ⟨fun j k p q hj hk hpq => ?_, fun a hta k q hk => ?_, fun k q hk => ?_, fun a hta => ?_⟩
  · obtain ⟨p', hp', e⟩ := hp j p hj
    obtain ⟨q', hq', e'⟩ := hp k q hk
    exact h.single j k p' q' hp' hq' (by rw [← e, ← e', hpq])
  · obtain ⟨b, hb, e⟩ := ha a hta
    obtain ⟨p, hp', e'⟩ := hp k q hk
    rw [e, e']; exact h.asked b hb k p hp'
  · obtain ⟨p, hp', e⟩ := hp k q hk
    rw [e]; exact hc _ (h.present k p hp') (.inl ⟨k, p, hp', rfl⟩)
  · obtain ⟨b, hb, e⟩ := ha a hta
    rw [e]; exact hc _ (h.askPresent b hb) (.inr (by simp [hb]))

/-- The invariant of the permits that every elementary change keeps. -/
structure State.PermitsSound (s : State) : Prop where
  works : s.AskWorks
  distinct : s.operating = true → s.PermitsDistinct

theorem State.operating_eq (s : State) : s.operating = true ↔ s.phase = .running ∧ s.port.state ≠ .starting := by
  simp [State.operating]

theorem Move.permitsDistinct {s t : State} (h : Move s t) (hw : s.AskWorks) (hs : s.PermitsDistinct) : t.PermitsDistinct := by
  have same : ∀ k q, s.permit? k = some q → ∃ p, s.permit? k = some p ∧ q.cabinet = p.cabinet := fun k q hq => ⟨q, hq, rfl⟩
  have sameAsk : ∀ a, s.ask = some a → ∃ b, s.ask = some b ∧ a.cabinet = b.cabinet := fun a ha => ⟨a, ha, rfl⟩
  cases h with
  | quiet q =>
    refine hs.of_standing (fun k p hp => same k p (by rwa [State.permit?, q.permits] at hp)) (fun a ha => ?_)
      (fun c hc _ => by rwa [State.cabinet?, q.cabinets])
    have e := q.ask
    rw [ha] at e
    obtain ⟨b, hb, e'⟩ := Option.map_eq_some_iff.mp e.symm
    exact ⟨b, hb, e'.symm⟩
  | cabinet c y => exact hs.of_standing same sameAsk fun d hd _ => State.cabinet?_setCabinet_isSome hd
  | ages => exact hs.of_standing same sameAsk fun d hd _ => by rwa [State.tickCabinets_cabinet?, Option.isSome_map]
  | drop c hp hr hi =>
    refine hs.of_standing same sameAsk fun d hd hd' => ?_
    have hne : d ≠ c := by
      rintro rfl
      rcases hd' with ⟨k, p, hk, e⟩ | ha
      · exact hp k p hk e
      · rw [hw ha] at hi; cases hi
    rwa [State.cabinet?, State.setCabinet_cabinets, tget_tset_ne _ _ _ _ hne]
  | permit k p q hk h =>
    refine hs.of_standing (fun j r hr => ?_) sameAsk fun _ hd _ => hd
    rcases tget_tset_cases s.permits k j (some q) with e | ⟨rfl, e⟩
    · exact same j r (e.symm.trans hr)
    · cases e.symm.trans hr; exact ⟨p, hk, h⟩
  | freePermit k =>
    refine hs.of_standing (fun j r hr => ?_) sameAsk fun _ hd _ => hd
    rcases tget_tset_cases s.permits k j none with e | ⟨rfl, e⟩
    · exact same j r (e.symm.trans hr)
    · cases e.symm.trans hr
  | grant a k p r ha h =>
    have read : ∀ j q, tget (tset s.permits k (some p)) j = some q → s.permit? j = some q ∨ (j = k ∧ q = p) := by
      intro j q hq
      rcases tget_tset_cases s.permits k j (some p) with e | ⟨hj, e⟩
      · exact .inl (e.symm.trans hq)
      · exact .inr ⟨hj, by cases e.symm.trans hq; rfl⟩
    refine ⟨fun i j x y hx hy hxy => ?_, fun _ hb => (by cases hb), fun j q hq => ?_, fun _ hb => (by cases hb)⟩
    · rcases read i x hx with hx' | ⟨hi, rfl⟩ <;> rcases read j y hy with hy' | ⟨hj, rfl⟩
      · exact hs.single i j x y hx' hy' hxy
      · exact absurd (hxy.trans h) (hs.asked a ha i x hx')
      · exact absurd (hxy.symm.trans h) (hs.asked a ha j y hy')
      · exact hi.trans hj.symm
    · rcases read j q hq with hq | ⟨-, rfl⟩
      · exact hs.present j q hq
      · rw [h]; exact hs.askPresent a ha
  | beginAsk a hi hc hp =>
    exact ⟨hs.single, fun b hb => by cases hb; exact hp, hs.present, fun b hb => by cases hb; exact hc⟩
  | endAsk a r ha => exact hs.of_standing same (fun _ hb => by cases hb) fun _ hd _ => hd
  | portReset =>
    refine hs.of_standing same (fun b hb => ?_) fun _ hd _ => hd
    rw [State.portReset] at hb
    split at hb
    · cases hb
    · exact sameAsk b hb
  | _ => exact ⟨hs.single, hs.asked, hs.present, hs.askPresent⟩

/-- An elementary change does not end the start of a part, and an ask waits only in Working after it. -/
theorem Move.operating_of {s t : State} (h : Move s t) (hw : s.AskWorks) :
    t.AskWorks ∧ (t.operating = true → s.operating = true) := by
  simp only [State.operating_eq, State.AskWorks] at *
  cases h with
  | quiet q =>
    rw [q.phase, q.portState, show t.ask.isSome = s.ask.isSome by simpa using congrArg Option.isSome q.ask]
    exact ⟨hw, id⟩
  | grant a k p r ha => exact ⟨fun h => (by cases h), fun h => ⟨h.1, by rw [hw (by simp [ha])]; simp⟩⟩
  | endAsk a r ha => exact ⟨fun h => (by cases h), fun h => ⟨h.1, by rw [hw (by simp [ha])]; simp⟩⟩
  | beginAsk a hi => exact ⟨fun _ => rfl, fun h => ⟨h.1, by rw [hi]; simp⟩⟩
  | port p hp =>
    rcases hp with hp | ⟨hs, hp⟩
    · exact ⟨fun h => hp.trans (hw h), fun h => ⟨h.1, hp ▸ h.2⟩⟩
    · refine ⟨fun h => ?_, fun h => ⟨h.1, ?_⟩⟩
      · rw [PortState.calm, hw h] at hs; rcases hs with e | e <;> cases e
      · rcases hs with e | e <;> simp [e]
  | portReset =>
    cases hp : s.port.state <;> simp_all [State.portReset, stateAfterPortReset]
  | _ => exact ⟨hw, id⟩

theorem Move.permitsSound {s t : State} (h : Move s t) (hs : s.PermitsSound) : t.PermitsSound := by
  obtain ⟨hw, ho⟩ := h.operating_of hs.works
  exact ⟨hw, fun ht => h.permitsDistinct hs.works (hs.distinct (ho ht))⟩

end Sys2Proof.Machine

namespace Sys2Proof.Machine

/-! ## What the stages make of a record -/

/-- The state of a record after a stage: derived anew, but for Retiring and Retired (R52, R88). -/
def StringRecord.restated (p : Option Profile) (r : StringRecord) : StringState :=
  if r.state = .retiring ∨ r.state = .retired then r.state else derivedState p r.suspect r.soh

theorem derivedState_ne (p : Option Profile) (b : Bool) (n : Nat) :
    derivedState p b n ≠ .retiring ∧ derivedState p b n ≠ .retired := by
  unfold derivedState
  split
  · simp
  · split
    · simp
    · split
      · simp
      · split <;> simp

@[simp] theorem takeState_r (st : StringState) (w : Work) : (takeState st w).r = { w.r with state := st } := by
  unfold takeState
  split
  · rename_i h; rw [← h]
  · rfl

theorem takeState_changed (st : StringState) (w : Work) : (takeState st w).changed = (w.changed || decide (w.r.state ≠ st)) := by
  unfold takeState
  split <;> simp [*]

theorem takeState_save (st : StringState) (w : Work) : (takeState st w).save = (w.save || decide (w.r.state ≠ st)) := by
  unfold takeState
  split <;> simp [*]

@[simp] theorem rederive_r (p : Option Profile) (w : Work) : (rederive p w).r = { w.r with state := w.r.restated p } := by
  unfold rederive StringRecord.restated
  split
  · rfl
  · simp

theorem rederive_changed (p : Option Profile) (w : Work) :
    (rederive p w).changed = (w.changed || decide (w.r.state ≠ w.r.restated p)) := by
  unfold rederive StringRecord.restated
  split
  · simp
  · exact takeState_changed _ _

theorem rederive_save (p : Option Profile) (w : Work) :
    (rederive p w).save = (w.save || decide (w.r.state ≠ w.r.restated p)) := by
  unfold rederive StringRecord.restated
  split
  · simp
  · exact takeState_save _ _

@[simp] theorem mustSave_r (w : Work) : (mustSave w).r = w.r := rfl
@[simp] theorem mustSave_changed (w : Work) : (mustSave w).changed = w.changed := rfl
@[simp] theorem mustSave_save (w : Work) : (mustSave w).save = true := rfl
@[simp] theorem startWork_r (r : StringRecord) : (startWork r).r = r := rfl

/-- The record after stage 5 (R87, R88). -/
def StringRecord.weighed (p : Profile) (r : StringRecord) : StringRecord :=
  let sl := lifeIndicatorOf r.life
  { r with
    lifeIndicator := sl, soh := min sl r.resistanceIndicator
    state := StringRecord.restated (some p) { r with lifeIndicator := sl, soh := min sl r.resistanceIndicator } }

@[simp] theorem stage5_r (p : Profile) (w : Work) : (stage5 p w).r = w.r.weighed p := by
  simp [stage5, StringRecord.weighed]

/-! ## Records that stay where they are -/

/-- The record stays where it is, with its profile, and does not come to or from Retired. -/
structure StringRecord.Steady (r q : StringRecord) : Prop where
  cabinet : q.cabinet = r.cabinet
  position : q.position = r.position
  profile : q.profile = r.profile
  retired : q.state = .retired ↔ r.state = .retired

theorem StringRecord.Steady.refl (r : StringRecord) : r.Steady r := ⟨rfl, rfl, rfl, .rfl⟩

theorem StringRecord.Steady.trans {r q u : StringRecord} (h : r.Steady q) (g : q.Steady u) : r.Steady u :=
  ⟨g.cabinet.trans h.cabinet, g.position.trans h.position, g.profile.trans h.profile, g.retired.trans h.retired⟩

theorem StringRecord.Steady.keeps {r q : StringRecord} (h : r.Steady q) : r.Keeps q :=
  ⟨.inl h.cabinet, h.position, fun e => .inr (h.retired.mp e)⟩

theorem StringRecord.restated_retired (p : Option Profile) (r : StringRecord) :
    r.restated p = .retired ↔ r.state = .retired := by
  unfold StringRecord.restated
  split
  · rfl
  · rename_i h
    simp only [(derivedState_ne p r.suspect r.soh).2, false_iff]
    exact fun e => h (.inr e)

theorem StringRecord.weighed_steady (p : Profile) (r : StringRecord) : r.Steady (r.weighed p) :=
  ⟨rfl, rfl, rfl, StringRecord.restated_retired _ _⟩

/-- Stage 5 keeps a record in range. -/
theorem StringRecord.InRange.weighed {r : StringRecord} (h : r.InRange) (p : Profile) : (r.weighed p).InRange :=
  have hl : lifeIndicatorOf r.life ≤ 1000 := Nat.sub_le _ _
  { h with lifeIndicator := hl, soh := (Nat.min_le_left _ _).trans hl }

/-- One stage on a record, for profile `p`: the record stays where it is, and it stays in range with a profile in range. -/
structure Work.Sound (p : Option Profile) (w v : Work) : Prop where
  steady : w.r.Steady v.r
  range : (∀ q, p = some q → q.InRange) → w.r.InRange → v.r.InRange

theorem Work.Sound.refl (p : Option Profile) (w : Work) : w.Sound p w := ⟨.refl _, fun _ h => h⟩

theorem Work.Sound.trans {p : Option Profile} {w v u : Work} (h : w.Sound p v) (g : v.Sound p u) : w.Sound p u :=
  ⟨h.steady.trans g.steady, fun hp hr => g.range hp (h.range hp hr)⟩

theorem Work.Sound.mustSave {p : Option Profile} {w v : Work} (h : w.Sound p v) : w.Sound p (mustSave v) := ⟨h.steady, h.range⟩

theorem Work.Sound.stage5 {p : Option Profile} {w v : Work} (q : Profile) (h : w.Sound p v) : w.Sound p (stage5 q v) := by
  refine ⟨?_, fun hp hr => ?_⟩ <;> rw [stage5_r]
  · exact h.steady.trans (StringRecord.weighed_steady q v.r)
  · exact (h.range hp hr).weighed q

/-- A change of figures that keeps its own field in range. -/
theorem Work.Sound.of_range {p : Option Profile} {w v : Work} (hc : v.r.cabinet = w.r.cabinet) (hp : v.r.position = w.r.position)
    (hf : v.r.profile = w.r.profile) (hs : v.r.state = w.r.state)
    (hr : (∀ q, p = some q → q.InRange) → w.r.InRange → v.r.InRange) : w.Sound p v :=
  ⟨⟨hc, hp, hf, by rw [hs]⟩, hr⟩

theorem resistanceIndicatorOf_le (p : Profile) (rb : Option Nat) (r : Nat) : resistanceIndicatorOf p rb r ≤ 1000 := by
  unfold resistanceIndicatorOf
  split
  · exact le_rfl
  · split
    · exact le_rfl
    · dsimp only
      split
      · exact le_rfl
      · exact Nat.sub_le _ _

theorem stage4_sound (p : Option Profile) (q : Profile) (w : Work) : w.Sound p (stage4 q w) :=
  .stage5 q (.of_range rfl rfl rfl rfl fun _ h => { h with resistanceIndicator := resistanceIndicatorOf_le _ _ _ })

theorem addLife_le (life add : Nat) : addLife life add ≤ Config.lifeLimit := Nat.min_le_right _ _

theorem idleBucketCharge_sound (p : Option Profile) (q : Profile) (w : Work) : w.Sound p (idleBucketCharge q w) := by
  unfold idleBucketCharge
  split
  · refine .mustSave (.stage5 q (.of_range rfl rfl rfl rfl fun _ h => ?_))
    exact { h with life := addLife_le _ _, bucket := (Nat.mod_le _ _).trans h.bucket }
  · exact .refl p w

theorem closeEvent_sound (p : Option Profile) (w : Work) : w.Sound p (closeEvent p w) := by
  unfold closeEvent
  split
  · exact .refl p w
  · split
    · exact .mustSave (.of_range rfl rfl rfl rfl fun _ h => { h with event := fun _ he => by cases he })
    · refine .mustSave (.stage5 _ (.of_range rfl rfl rfl rfl fun _ h => ?_))
      exact { h with life := addLife_le _ _, event := fun _ he => by cases he }

theorem reanchor_sound (p : Option Profile) (measured : Nat) (w : Work) : w.Sound p (reanchor p measured w) := by
  unfold reanchor
  split
  · exact .refl _ w
  · refine .mustSave (.stage5 _ (.of_range rfl rfl rfl rfl fun _ h => { h with life := ?_ }))
    exact (Nat.mul_le_mul_right _ (Nat.sub_le _ _)).trans (by decide)

theorem setBaseline_sound (p : Option Profile) (result : Nat) (w : Work) : w.Sound p (setBaseline p result w) := by
  unfold setBaseline
  split
  · exact .refl p w
  · rename_i h0
    have hb : Work.Sound p w { w with r := { w.r with rb := some (min result 65535) } } :=
      .of_range rfl rfl rfl rfl fun _ h => { h with baseline := fun b hb => by simp at hb; omega }
    split
    · exact hb.mustSave
    · exact (hb.trans (stage4_sound _ _ _)).mustSave

theorem afterProfileWrite_sound (p : Option Profile) (q : Profile) (w : Work) : w.Sound p (afterProfileWrite q w) :=
  (idleBucketCharge_sound p q w).trans (stage4_sound p q _)

/-! ### The calendar window -/

/-- One counted minute: the window's sum stays within what its minutes give, and the 60th minute empties it (R75, R76). -/
theorem stage1_sound (p : Option Profile) (q : Profile) (t : Int) (w : Work)
    (ht : (∀ q, p = some q → q.InRange) → w.r.InRange → -200 ≤ t ∧ t ≤ 700) : w.Sound p (stage1 q t w) := by
  unfold stage1
  simp only
  split
  · have hr : (stage2 q { w with r := { w.r with m := w.r.m + 1, s := w.r.s + t } }).r =
        { ({ w.r with
              life := addLife w.r.life (calendarShare q (w.r.s + t)), m := 0, s := 0 } : StringRecord).weighed q with
          m := 0, s := 0 } := by
      simp [stage2, StringRecord.weighed, StringRecord.restated]
    refine ⟨?_, fun hp h => ?_⟩ <;> rw [hr]
    · exact ⟨rfl, rfl, rfl, StringRecord.restated_retired _ _⟩
    · have h0 : ({ w.r with
              life := addLife w.r.life (calendarShare q (w.r.s + t)), m := 0, s := 0 } : StringRecord).InRange :=
        { h with life := addLife_le _ _, window := by simp, sum := by simp }
      exact { h0.weighed q with }
  · refine .of_range rfl rfl rfl rfl fun hp h => ?_
    obtain ⟨h1, h2⟩ := ht hp h
    have := h.sum
    exact { h with window := by simp only; omega, sum := by push_cast; omega }

/-! ### The intake of a block -/

/-- The readings of a block that two characters each can carry (R193). -/
structure Block.InRange (b : Block) : Prop where
  voltage : b.voltage ≤ 65535
  current : -32768 ≤ b.current ∧ b.current ≤ 32767
  resistance : b.resistance ≤ 65535

theorem leAt_le (data : List Byte) (i : Nat) : leAt data i ≤ 65535 := by
  unfold leAt; omega

theorem signed16_bounds (n : Nat) (h : n ≤ 65535) : -32768 ≤ signed16 n ∧ signed16 n ≤ 32767 := by
  unfold signed16; split <;> omega

theorem blockAt_inRange (data : List Byte) (p : Nat) : (blockAt data p).InRange :=
  ⟨leAt_le _ _, signed16_bounds _ (leAt_le _ _), leAt_le _ _⟩

theorem reportOf_block_inRange (halted : Bool) (data : List Byte) (p : Nat) : ((reportOf halted data).block p).InRange := by
  unfold Report.block
  split <;> exact blockAt_inRange _ _

/-- A reply judged to be a report carries the fields of its characters. -/
theorem judgeReply_report {c : Nat} {cs : List RxChar} {rep : Report} (h : judgeReply c cs = .report rep) :
    ∃ halted, rep = reportOf halted (cs.map RxChar.data) := by
  simp only [judgeReply] at h
  repeat' split at h
  all_goals cases h
  · exact ⟨false, rfl⟩
  · exact ⟨true, rfl⟩

theorem openEvent_sound (p : Option Profile) (old new : Mode) (b : Block) (hb : b.InRange) (w : Work) :
    w.Sound p (openEvent p old new b w) := by
  unfold openEvent
  split
  · refine .mustSave (.of_range rfl rfl rfl rfl fun _ h => { h with event := fun e he => ?_ })
    cases he; exact ⟨Nat.zero_le _, Nat.zero_le _, hb.voltage⟩
  · exact .refl p w

theorem clampInt_bounds {lo hi : Int} (h : lo ≤ hi) (x : Int) : lo ≤ clampInt lo hi x ∧ clampInt lo hi x ≤ hi := by
  unfold clampInt; omega

theorem clampNat_bounds {lo hi : Nat} (h : lo ≤ hi) (x : Nat) : lo ≤ clampNat lo hi x ∧ clampNat lo hi x ≤ hi := by
  unfold clampNat; omega

theorem takeReadings_sound (p : Option Profile) (b : Block) (hb : b.InRange) (w : Work) : w.Sound p (takeReadings b w) := by
  refine .of_range rfl rfl rfl rfl fun _ h =>
    { h with voltage := hb.voltage, current := hb.current, temperature := clampInt_bounds (by omega) _, event := fun e he => ?_ }
  obtain ⟨e', he', rfl⟩ := Option.map_eq_some_iff.mp he
  exact { h.event e' he' with lowest := (Nat.min_le_left _ _).trans (h.event e' he').lowest }

theorem takeResistance_sound (p : Option Profile) (b : Block) (hb : b.InRange) (w : Work) : w.Sound p (takeResistance p b w) := by
  unfold takeResistance
  split
  · exact .refl p w
  · have h1 : w.Sound p { w with r := { w.r with r := b.resistance, sinceR := 0 } } :=
      .of_range rfl rfl rfl rfl fun _ h => { h with resistance := hb.resistance, sinceR := Nat.zero_le _ }
    split
    · exact h1
    · exact h1.trans (stage4_sound _ _ _)

theorem takeDelta_sound (p : Option Profile) (isNew : Bool) (b : Block) (w : Work) : w.Sound p (takeDelta p isNew b w) := by
  unfold takeDelta
  split
  · split
    · exact .refl _ w
    · split
      · rename_i e he
        refine .of_range rfl rfl rfl rfl fun _ h => { h with event := fun e' he' => ?_ }
        cases he'
        exact { h.event e he with charge := Nat.min_le_right _ _ }
      · have h1 : ∀ o, Work.Sound o w { w with r := { w.r with bucket := min (w.r.bucket + b.delta) Config.chargeLimit } } :=
          fun _ => .of_range rfl rfl rfl rfl fun _ h => { h with bucket := Nat.min_le_right _ _ }
        exact (h1 _).trans (idleBucketCharge_sound _ _ _)
  · exact .refl p w

theorem leaveBattery_sound (p : Option Profile) (old new : Mode) (w : Work) : w.Sound p (leaveBattery p old new w) := by
  unfold leaveBattery
  split
  · exact closeEvent_sound p w
  · exact .refl p w

theorem intakeBlock_sound (old new : Mode) (isNew : Bool) (b : Block) (hb : b.InRange) (p : Option Profile) (w : Work) :
    w.Sound p (intakeBlock old new isNew b p w) :=
  ((((openEvent_sound p old new b hb w).trans (takeReadings_sound p b hb _)).trans (takeResistance_sound p b hb _)).trans
    (takeDelta_sound p isNew b _)).trans (leaveBattery_sound p old new _)

/-! ### The minute tick -/

theorem countEventMinute_sound (p : Option Profile) (w : Work) : w.Sound p (countEventMinute w) := by
  refine .of_range rfl rfl rfl rfl fun _ h => { h with event := fun e he => ?_ }
  obtain ⟨e', he', rfl⟩ := Option.map_eq_some_iff.mp he
  exact { h.event e' he' with minutes := Nat.min_le_right _ _ }

theorem countCalendarMinute_sound (s : State) (p : Option Profile) (w : Work) : w.Sound p (countCalendarMinute s p w) := by
  unfold countCalendarMinute
  split
  · exact .refl _ w
  · rename_i q
    split
    · refine stage1_sound (some q) q _ w fun hp h => ?_
      unfold State.minuteTemperature
      split
      · exact (hp q rfl).assumed
      · split
        · exact h.temperature
        · exact (hp q rfl).assumed
    · exact .refl _ w

theorem countSinceR_sound (p : Option Profile) (w : Work) : w.Sound p (countSinceR w) := by
  unfold countSinceR
  split
  · exact .of_range rfl rfl rfl rfl fun _ h => { h with sinceR := Nat.min_le_right _ _ }
  · exact .refl p w

/-- What the minute tick makes of a record, in the state `s` that holds the cabinets (R67, R70, R74 to R76). -/
def tickWork (s : State) (p : Option Profile) (r : StringRecord) : Work :=
  countSinceR (countCalendarMinute s p (countEventMinute (startWork r)))

theorem tickWork_sound (s : State) (p : Option Profile) (r : StringRecord) : (startWork r).Sound p (tickWork s p r) :=
  ((countEventMinute_sound p _).trans (countCalendarMinute_sound s p _)).trans (countSinceR_sound p _)

/-! ### Retiring, Retired, and the check of a start -/

/-- One act on a record that may take its cabinet or make it Retiring: it keeps its place or loses it, and stays in range. -/
structure Work.Loosens (w v : Work) : Prop where
  keeps : w.r.Keeps v.r
  range : w.r.InRange → v.r.InRange

theorem toRetiring_loosens (v : Nat) (w : Work) (hv : 1 ≤ v ∧ v ≤ 4) : w.Loosens (toRetiring v w) := by
  refine ⟨⟨.inl ?_, ?_, ?_⟩, fun h => ?_⟩ <;> simp only [toRetiring, mustSave_r, takeState_r]
  · simp
  · exact { h with owner := fun u hu => by cases hu; exact hv }

theorem fromRetiring_loosens (p : Option Profile) (w : Work) : w.Loosens (fromRetiring p w) := by
  unfold fromRetiring
  split
  · refine ⟨⟨.inl ?_, ?_, ?_⟩, fun h => ?_⟩ <;> simp only [mustSave_r, takeState_r]
    · exact fun e => absurd e (derivedState_ne _ _ _).2
    · exact { h with owner := fun u hu => by cases hu }
  · exact ⟨.refl _, id⟩

theorem retire_cabinet (p : Option Profile) (w : Work) : (retire p w).r.cabinet = none := by simp [retire]

theorem retire_position (p : Option Profile) (w : Work) : (retire p w).r.position = w.r.position := by
  simp only [retire, mustSave_r, takeState_r]
  exact (closeEvent_sound p w).steady.position

theorem retire_loosens (p : Option Profile) (w : Work) (hp : ∀ q, p = some q → q.InRange) : w.Loosens (retire p w) := by
  have h := closeEvent_sound p w
  refine ⟨⟨.inr (retire_cabinet p w), ?_, fun _ => .inl (retire_cabinet p w)⟩, fun hr => ?_⟩ <;>
    simp only [retire, mustSave_r, takeState_r]
  · exact h.steady.position
  · exact { h.range hp hr with cabinet := fun c hc => by cases hc }

theorem loseOwner_loosens (w : Work) : w.Loosens (loseOwner w) :=
  ⟨⟨.inl rfl, rfl, fun h => .inr h⟩, fun h => { h with owner := fun u hu => by cases hu }⟩

theorem holdTarget_loosens (v : Nat) (w : Work) (hv : 1 ≤ v ∧ v ≤ 4) : w.Loosens (holdTarget v w) := by
  unfold holdTarget
  split
  · exact ⟨.refl _, id⟩
  · exact toRetiring_loosens v w hv

/-- The record that the string check of a start leaves (R53, R171). -/
theorem checkRecord_r (l : State) (k : Nat) (p : Option Profile) (w : Work) :
    ∃ gone mark : Bool, gone = (l.cabinetAbsent w.r || l.outdated k w.r) ∧ mark = (w.r.suspect || gone || p.isNone) ∧
      (checkRecord l k p w).r = { w.r with
        cabinet := if gone = true then none else w.r.cabinet, suspect := mark
        state := if w.r.state = .retiring ∨ w.r.state = .retired then w.r.state else derivedState p mark w.r.soh } := by
  refine ⟨_, _, rfl, rfl, ?_⟩
  simp [checkRecord, StringRecord.restated]

theorem checkRecord_loosens (l : State) (k : Nat) (p : Option Profile) (w : Work) : w.Loosens (checkRecord l k p w) := by
  obtain ⟨gone, mark, -, -, hr⟩ := checkRecord_r l k p w
  refine ⟨⟨?_, ?_, ?_⟩, fun h => ?_⟩ <;> rw [hr]
  · cases gone <;> simp
  · intro e
    simp only at e
    split at e
    · exact .inr e
    · exact absurd e (derivedState_ne _ _ _).2
  · exact { h with cabinet := fun c hc => h.cabinet c (by cases gone <;> simp_all) }

end Sys2Proof.Machine

namespace Sys2Proof.Machine

/-! ## Every operation on the records is a chain of elementary changes

Each lemma carries a chain one operation further. -/

section
variable {s t : State}

theorem Moves.quiet (h : Moves s t) {u : State} (hq : t.Quiet u) : Moves s u := h.tail (.quiet hq)

theorem State.Quiet.link (s : State) (l : Link) : s.Quiet { s with link := l } :=
  ⟨rfl, rfl, rfl, rfl, rfl, rfl, rfl, rfl, .inl rfl, rfl, id⟩

theorem Moves.checkpoint (h : Moves s t) (id : ImageId) : Moves s (t.checkpoint id) :=
  h.quiet ⟨rfl, rfl, rfl, rfl, rfl, rfl, rfl, rfl, .inl rfl, rfl, fun h => h⟩

theorem Moves.attend (h : Moves s t) (f : Attention → Attention) : Moves s (t.attend f) :=
  h.quiet ⟨rfl, rfl, rfl, rfl, rfl, rfl, rfl, rfl, .inl rfl, rfl, id⟩

theorem Moves.recompute (h : Moves s t) : Moves s t.recompute :=
  h.quiet ⟨rfl, rfl, rfl, rfl, rfl, rfl, rfl, rfl, .inr (by simp [numbers]), rfl, id⟩

theorem Moves.setVisit (h : Moves s t) (v : Nat) (x : Option Visit) : Moves s (t.setVisit v x) :=
  h.quiet ⟨rfl, rfl, rfl, rfl, rfl, rfl, rfl, rfl, .inl rfl, by simp, id⟩

theorem Moves.link (h : Moves s t) (l : Link) : Moves s { t with link := l } := h.quiet (.link t l)

/-- A change of a Present entry. -/
theorem Moves.cabinet (h : Moves s t) {c : Nat} {x : Cabinet} (y : Cabinet) (hx : t.cabinet? c = some x)
    (hy : x.InRange → y.InRange) : Moves s (t.setCabinet c (some y)) :=
  h.tail (.cabinet c y fun hf => hy (hf.cabinets c x hx))

theorem Moves.post (h : Moves s t) (c : Nat) (n : Notice) : Moves s (t.post c n) := by
  unfold State.post
  split
  · exact h
  · rename_i x hx
    refine Moves.link (h.cabinet _ hx ?_) _
    exact fun hr => { hr with }

theorem Moves.retract (h : Moves s t) (c : Nat) (n : Notice) : Moves s (t.retract c n) := by
  unfold State.retract
  split
  · exact h
  · rename_i x hx
    refine h.cabinet _ hx ?_
    exact fun hr => { hr with }

/-! ### Strings -/

theorem Moves.commit (h : Moves s t) {k : Nat} {w : Work} (hm : Move t (t.setString k (some w.r))) : Moves s (t.commit k w) := by
  have h1 : Moves s (t.setString k (some w.r)) := h.tail hm
  unfold State.commit
  cases w.changed <;> cases w.save
  · exact h1
  · exact h1.checkpoint _
  · exact h1.attend _
  · exact (h1.attend _).checkpoint _

theorem State.InRanges.profile {s : State} (h : s.InRanges) (n : Nat) : ∀ q, s.profile? n = some q → q.InRange :=
  fun q hq => h.records.profiles n q hq

/-- Work on a record that loosens its place at most. -/
theorem Moves.workOn (h : Moves s t) (k : Nat) (f : Option Profile → Work → Work)
    (hf : ∀ r, t.string? k = some r → r.Keeps (f (t.profile? r.profile) (startWork r)).r ∧
      (t.InRanges → (f (t.profile? r.profile) (startWork r)).r.InRange)) : Moves s (t.workOn k f) := by
  unfold State.workOn
  split
  · exact h
  · rename_i r hr
    exact h.commit (.string k r _ hr (hf r hr).1 (hf r hr).2)

/-- Work on a record by stages. -/
theorem Moves.workOn_sound (h : Moves s t) (k : Nat) (f : Option Profile → Work → Work) (hf : ∀ p (w : Work), w.Sound p (f p w)) :
    Moves s (t.workOn k f) :=
  h.workOn k f fun r hr =>
    have hs := hf (t.profile? r.profile) (startWork r)
    ⟨hs.steady.keeps, fun ht => hs.range (ht.profile _) (ht.records.strings k r hr)⟩

/-- Work on a record that may make it Retiring or lose its place. -/
theorem Moves.workOn_loosens (h : Moves s t) (k : Nat) (f : Option Profile → Work → Work)
    (hf : ∀ p (w : Work), t.Sized → w.Loosens (f p w)) (hk : ∀ p (w : Work), w.r.Keeps (f p w).r) : Moves s (t.workOn k f) :=
  h.workOn k f fun r hr =>
    ⟨hk _ (startWork r), fun ht => (hf _ (startWork r) ht.sized).range (ht.records.strings k r hr)⟩

theorem Moves.freeString (h : Moves s t) (k : Nat) : Moves s (t.freeString k) :=
  ((h.tail (.freeString k)).checkpoint _).attend _

theorem Moves.intakeAt (h : Moves s t) (c : Nat) (old new : Mode) (isNew : Bool) (rep : Report)
    (hb : ∀ p, (rep.block p).InRange) (pos : Nat) : Moves s (t.intakeAt c old new isNew rep pos) := by
  unfold State.intakeAt
  split
  · exact h
  · exact h.workOn_sound _ _ fun p w => intakeBlock_sound old new isNew _ (hb pos) p w

theorem Moves.intake (h : Moves s t) (c : Nat) (old new : Mode) (isNew : Bool) (rep : Report)
    (hb : ∀ p, (rep.block p).InRange) : Moves s (t.intake c old new isNew rep) :=
  h.trans (Moves.foldl _ (fun pos _ _ => Moves.intakeAt .refl c old new isNew rep hb pos) t)

theorem Moves.setPulse (h : Moves s t) (c pos : Nat) : Moves s (t.setPulse c pos) := by
  unfold State.setPulse
  split
  · exact h
  · rename_i x hx
    refine h.cabinet _ hx ?_
    exact fun hr => { hr with }

theorem Moves.pulseIfDue (h : Moves s t) (k : Nat) : Moves s (t.pulseIfDue k) := by
  unfold State.pulseIfDue
  split
  · exact h
  · split
    · exact h.setPulse _ _
    · exact h

/-- The minute tick on a record is its work, its pulse, and a recomputation where the window was completed. -/
theorem State.tickString_record {s : State} {k : Nat} {r : StringRecord} (h : s.string? k = some r) :
    s.tickString k =
      if (tickWork s (s.profile? r.profile) r).save = true
      then ((s.commit k (tickWork s (s.profile? r.profile) r)).pulseIfDue k).recompute
      else (s.commit k (tickWork s (s.profile? r.profile) r)).pulseIfDue k := by
  unfold State.tickString
  rw [h]
  rfl

theorem State.tickString_free {s : State} {k : Nat} (h : s.string? k = none) : s.tickString k = s := by
  simp [State.tickString, h]

theorem Moves.tickString (h : Moves s t) (k : Nat) : Moves s (t.tickString k) := by
  cases hr : t.string? k with
  | none => rw [State.tickString_free hr]; exact h
  | some r =>
    rw [State.tickString_record hr]
    have hw := tickWork_sound t (t.profile? r.profile) r
    have h1 := (h.commit (.string k r _ hr hw.steady.keeps
      fun ht => hw.range (ht.profile _) (ht.records.strings k r hr))).pulseIfDue k
    split
    · exact h1.recompute
    · exact h1

/-! ### Permits and visits -/

theorem Moves.setPermit (h : Moves s t) {k : Nat} {p : Permit} (q : Permit) (hp : t.permit? k = some p)
    (hc : q.cabinet = p.cabinet) : Moves s (t.setPermit k (some q)) := h.tail (.permit k p q hp hc)

theorem Moves.freePermit (h : Moves s t) (k : Nat) : Moves s (t.freePermit k) := (h.tail (.freePermit k)).checkpoint _

theorem Moves.closePermit (h : Moves s t) (k : Nat) : Moves s (t.closePermit k) := by
  unfold State.closePermit
  split
  · exact h
  · split
    · exact (h.post _ _).freePermit k
    · exact h.freePermit k

theorem Moves.closeRaising (h : Moves s t) (k : Nat) : Moves s (t.closeRaising k) := (h.closePermit k).attend _

theorem Moves.closeIfGranted (h : Moves s t) (k : Nat) : Moves s (t.closeIfGranted k) := by
  unfold State.closeIfGranted
  split
  · exact h.closeRaising k
  · exact h

theorem Moves.closeAllGranted (h : Moves s t) : Moves s t.closeAllGranted :=
  h.trans (Moves.foldl _ (fun k _ _ => Moves.closeIfGranted .refl k) t)

theorem Moves.endAsk (h : Moves s t) (res : ResultCode) : Moves s (t.endAsk res) := by
  cases ha : t.ask with
  | none => rw [State.endAsk_none _ _ ha]; exact h
  | some a => rw [State.endAsk_some _ _ a ha]; exact h.tail (.endAsk a _ ha)

theorem PortBlind.port {f : State → State} (hf : PortBlind f) (s : State) : (f s).port = s.port := by
  have h : f s = (f s).withPort s.port := hf s.port s
  exact (congrArg State.port h).trans rfl

/-- An operation that does not look at the port can be done after the reply as well as before it. -/
theorem PortBlind.reply {f : State → State} (hf : PortBlind f) (s : State) (code : Byte) (res : ResultCode) (body : List Byte) :
    (f s).reply code res body = f (s.reply code res body) := by
  rw [State.reply, hf.port s]
  exact (hf _ s).symm

theorem Moves.grantAsk (h : Moves s t) {a : Ask} (ha : t.ask = some a) (k : Nat) (g : Group) :
    Moves s (State.grantAsk a k g { t with ask := none }) := by
  unfold State.grantAsk
  dsimp only
  rw [blind_recompute.reply, (blind_checkpoint _).reply, (blind_post _ _).reply]
  refine Moves.recompute (Moves.checkpoint (Moves.post ?_ _ _) _)
  exact h.tail (.grant a k (grantedPermit a t.floor.config.grantTimeout g) _ ha rfl)

theorem Moves.judgeAsk (h : Moves s t) {a : Ask} (ha : t.ask = some a) : Moves s (t.judgeAsk a) := by
  have hend : ∀ res body, Moves s (({ t with ask := none } : State).reply askCode res body) :=
    fun _ _ => h.tail (.endAsk a _ ha)
  unfold State.judgeAsk
  dsimp only
  split
  · exact hend _ _
  · split
    · exact hend _ _
    · split
      · exact hend _ _
      · split
        · exact hend _ _
        · split
          · exact hend _ _
          · exact h.grantAsk ha _ _

theorem Moves.judgeIfSettled (h : Moves s t) : Moves s t.judgeIfSettled := by
  unfold State.judgeIfSettled
  split
  · exact h
  · split
    · exact h.judgeAsk ‹_›
    · exact h

theorem Moves.settleWait (h : Moves s t) (c : Nat) : Moves s (t.settleWait c) := by
  unfold State.settleWait
  split
  · exact h
  · rename_i a ha
    refine Moves.judgeIfSettled (h.quiet ?_)
    exact ⟨rfl, rfl, rfl, rfl, rfl, rfl, by simp [ha], rfl, .inl rfl, rfl, id⟩

theorem Moves.releaseTarget (h : Moves s t) (it : Item) : Moves s (t.releaseTarget it) := by
  unfold State.releaseTarget
  split
  · exact h.workOn_loosens _ _ (fun p w _ => fromRetiring_loosens p w) fun p w => (fromRetiring_loosens p w).keeps
  · exact h

theorem Moves.interruptVisit (h : Moves s t) (k v : Nat) : Moves s (State.interruptVisit k t v) := by
  unfold State.interruptVisit
  split
  · exact h
  · split
    · refine (((h.trans (Moves.foldl _ (fun it _ u => ?_) t)).setVisit _ _).attend _).checkpoint _
      split
      · exact Moves.releaseTarget .refl it
      · exact .refl
    · exact h

theorem Moves.interruptHolders (h : Moves s t) (k : Nat) : Moves s (t.interruptHolders k) :=
  h.trans (Moves.foldl _ (fun v _ _ => Moves.interruptVisit .refl k v) t)

theorem Moves.enterBypass (h : Moves s t) {k : Nat} {p : Permit} (hp : t.permit? k = some p) : Moves s (t.enterBypass k p) := by
  unfold State.enterBypass
  split
  · refine Moves.checkpoint (Moves.attend (h.setPermit _ hp ?_) _) _
    rfl
  · refine Moves.checkpoint (Moves.attend (h.setPermit _ hp ?_) _) _
    rfl

theorem Moves.reportOnPermit (h : Moves s t) {k : Nat} {p : Permit} (hp : t.permit? k = some p) (m : Mode) :
    Moves s (t.reportOnPermit k p m) := by
  have hactive : Moves s (t.reportOnActive k p m) := by
    unfold State.reportOnActive
    split
    · refine Moves.interruptHolders (Moves.checkpoint (Moves.attend (h.setPermit _ hp ?_) _) _) k
      rfl
    · exact h
  unfold State.reportOnPermit
  split
  · unfold State.reportOnGranted
    split
    · exact (h.enterBypass hp).retract _ _
    · exact h
  · exact hactive
  · exact hactive
  · unfold State.reportOnReturning
    split
    · exact h.closeRaising k
    · dsimp only
      split
      · exact (h.enterBypass hp).post _ _
      · exact h.enterBypass hp
    · exact h

theorem Moves.judgeBypass (h : Moves s t) (c : Nat) (m : Mode) (named : Bool) : Moves s (t.judgeBypass c m named) := by
  unfold State.judgeBypass
  split
  · exact h
  · rename_i x hx
    split
    · split
      · refine Moves.attend (h.cabinet _ hx ?_) _
        exact fun hr => { hr with }
      · exact h
    · exact h
    · refine h.cabinet _ hx ?_
      exact fun hr => { hr with }

/-- The permit that names a cabinet stands in the slot it is found in, and names it. -/
theorem State.permitOf_some {s : State} {c k : Nat} {p : Permit} (h : s.permitOf c = some (k, p)) :
    s.permit? k = some p ∧ p.cabinet = c :=
  ⟨(mem_entries _ _ _).mp (List.mem_of_find?_eq_some h), by simpa using List.find?_some h⟩

/-- No permit names a cabinet for which none is found. -/
theorem State.permitOf_none {s : State} {c : Nat} (h : s.permitOf c = none) (k : Nat) (p : Permit)
    (hp : s.permit? k = some p) : p.cabinet ≠ c := by
  simpa using List.find?_eq_none.mp h (k, p) ((mem_entries _ _ _).mpr hp)

theorem Moves.permitReport (h : Moves s t) (c : Nat) (m : Mode) : Moves s (t.permitReport c m) := by
  unfold State.permitReport
  split
  · exact h.judgeBypass _ _ _
  · rename_i k p hp
    exact (h.reportOnPermit (State.permitOf_some hp).1 m).judgeBypass _ _ _

theorem Moves.acceptUtility (h : Moves s t) (u : UtilityState) : Moves s (t.acceptUtility u) := by
  have h1 : Moves s (({ t with floor := { t.floor with utility := u } } : State).attend (raiseUtilityChange u)) :=
    h.quiet ⟨rfl, rfl, rfl, rfl, rfl, rfl, rfl, rfl, .inl rfl, rfl, id⟩
  unfold State.acceptUtility
  dsimp only
  split
  · exact (h1.closeAllGranted.recompute).endAsk _
  · exact h1

theorem Moves.recallPermit (h : Moves s t) {k : Nat} {p : Permit} (hp : t.permit? k = some p) : Moves s (t.recallPermit k p) := by
  have e : (t.post p.cabinet .recall).permit? k = some p := by
    have : (t.post p.cabinet .recall).permits = t.permits := by unfold State.post; split <;> rfl
    rw [State.permit?, this]; exact hp
  refine Moves.checkpoint ((h.post _ _).setPermit _ e ?_) _
  rfl

theorem Moves.recallSlot (h : Moves s t) (k : Nat) : Moves s (t.recallSlot k) := by
  unfold State.recallSlot
  split
  · exact h
  · split
    · exact h.closeRaising k
    · exact h.recallPermit ‹_›
    · exact h.recallPermit ‹_›
    · exact h

theorem Moves.recallAll (h : Moves s t) : Moves s t.recallAll :=
  (h.trans (Moves.foldl _ (fun k _ _ => Moves.recallSlot .refl k) t)).recompute

theorem Moves.setHold (h : Moves s t) (b : Bool) : Moves s (t.setHold b) :=
  h.quiet ⟨rfl, rfl, rfl, rfl, rfl, rfl, rfl, rfl, .inl rfl, rfl, id⟩

theorem Moves.port (h : Moves s t) (p : Port) (hp : p.state = t.port.state) : Moves s { t with port := p } :=
  h.tail (.port p (.inl hp))

theorem Moves.takeUrgent (h : Moves s t) : Moves s t.takeUrgent := by
  unfold State.takeUrgent
  split
  · exact h
  · rename_i o _
    have h1 := h.port { t.port with urgent := none } rfl
    cases o with
    | hold => exact (h1.setHold true).endAsk _
    | release => exact h1.setHold false
    | recallAll => exact h1.recallAll

theorem Moves.makeOverdue (h : Moves s t) {k : Nat} {p : Permit} (hp : t.permit? k = some p) : Moves s (t.makeOverdue k p) := by
  refine Moves.checkpoint (Moves.attend (h.setPermit _ hp ?_) _) _
  rfl

theorem Moves.expireGrant (h : Moves s t) (k : Nat) : Moves s (t.expireGrant k) := (h.closeRaising k).recompute

theorem Moves.tickPermit (h : Moves s t) (k : Nat) : Moves s (t.tickPermit k) := by
  unfold State.tickPermit
  split
  · exact h
  · rename_i p hp
    split
    · split
      · exact h.expireGrant k
      · exact h.setPermit _ hp (by rfl)
    · split
      · exact h.makeOverdue hp
      · exact h.setPermit _ hp (by rfl)
    · exact h
    · exact h.setPermit _ hp (by rfl)

theorem Moves.makeOvertime (h : Moves s t) (v : Nat) (x : Visit) : Moves s (t.makeOvertime v x) :=
  ((h.setVisit _ _).attend _).checkpoint _

theorem Moves.tickVisit (h : Moves s t) (v : Nat) : Moves s (t.tickVisit v) := by
  unfold State.tickVisit
  split
  · exact h
  · split
    · exact h
    · split
      · exact h.makeOvertime _ _
      · exact h.setVisit _ _

theorem Moves.tick (h : Moves s t) : Moves s t.tick :=
  (((h.tail .ages).trans (Moves.foldl _ (fun k _ _ => Moves.tickString .refl k) _)).trans
    (Moves.foldl _ (fun k _ _ => Moves.tickPermit .refl k) _)).trans (Moves.foldl _ (fun v _ _ => Moves.tickVisit .refl v) _)

/-! ### The port, the link, the store -/

theorem Moves.frameEvent (h : Moves s t) (n : Nat) (tail : State → List Byte) (act : State → State)
    (ha : t.phase = .running → ∀ u, Moves u (act u)) : Moves s (t.frameEvent n tail act) := by
  unfold State.frameEvent
  split
  · rename_i hr
    rw [State.openFrame_eq]
    refine Moves.port (Moves.trans (h.port t.openedPort rfl) (ha hr _)) _ ?_
    rfl
  · exact h.port _ rfl
  · exact h.port _ rfl

/-- What a block does with a request taken in Idle: a chain of changes that leaves the port calm, or the begin of a wait. -/
def Handled (s : State) (r : State × Answer) : Prop :=
  match r.2 with
  | .now _ _ => Moves s r.1 ∧ r.1.port.state.calm
  | .waits => Moves s { r.1 with port := { r.1.port with state := .working } }

theorem Moves.reply (h : Moves s t) (hc : t.port.state.calm) (code : Byte) (res : ResultCode) (body : List Byte) :
    Moves s (t.reply code res body) := h.tail (.port _ (.inr ⟨hc, .inr rfl⟩))

theorem Moves.discardRequest (h : Moves s t) : Moves s t.discardRequest := h.port _ rfl

theorem State.clearOverrun_port (s : State) : s.clearOverrun.port.state = s.port.state := by
  unfold State.clearOverrun; split <;> rfl

theorem Moves.clearOverrun (h : Moves s t) : Moves s t.clearOverrun := by
  unfold State.clearOverrun
  split
  · exact h.port _ rfl
  · exact h

theorem Moves.judgeRequest (h : Moves s t) (code : Byte) (need : Nat) (f : RequestFrame)
    {handle : List Byte → State → State × Answer} (hh : ∀ b u, u.port.state = .idle → Handled u (handle b u)) :
    Moves s (t.judgeRequest code need f handle) := by
  unfold State.judgeRequest
  split
  · rename_i hi
    have hi2 : t.clearOverrun.port.state = .idle := by rw [State.clearOverrun_port, hi]
    dsimp only
    split
    · have hd := hh f.body _ hi2
      unfold State.answer
      unfold Handled at hd
      split
      · rename_i he
        rw [he] at hd
        exact (h.clearOverrun.trans hd.1).reply hd.2 _ _ _
      · rename_i he
        rw [he] at hd
        exact h.clearOverrun.trans hd
    · exact h.clearOverrun.reply (.inl hi2) _ _ _
  · exact h.discardRequest
  · exact h.discardRequest
  · exact h.discardRequest

theorem Moves.takeRequest (h : Moves s t) (code : Byte) (need : Nat) (f : RequestFrame)
    {handle : List Byte → State → State × Answer} (hh : ∀ b u, u.port.state = .idle → Handled u (handle b u)) :
    Moves s (t.takeRequest code need f handle) :=
  h.frameEvent _ _ _ fun _ _ => Moves.judgeRequest .refl code need f hh

theorem Handled.refuse (h : s.port.state = .idle) (res : ResultCode) : Handled s (refuse res s) := ⟨.refl, .inl h⟩

/-- An effect that does not look at the port, answered at once. -/
theorem Handled.done_blind {f : State → State} (h : s.port.state = .idle) (hf : PortBlind f) (hm : Moves s (f s))
    (body : List Byte) :
    Handled s (done body (f s)) := ⟨hm, .inl (by rw [show (done body (f s)).1 = f s from rfl, hf.port, h])⟩

theorem Handled.done_same (h : s.port.state = .idle) (hm : Moves s t) (hp : t.port = s.port) (body : List Byte) :
    Handled s (done body t) := ⟨hm, .inl (by rw [show (done body t).1 = t from rfl, hp, h])⟩

theorem Moves.failPoll (h : Moves s t) {c : Nat} {x : Cabinet} (hx : t.cabinet? c = some x) : Moves s (t.failPoll c x) := by
  have hr : x.InRange → x.afterFailure.InRange := fun hr =>
    { hr with
      errors := Nat.min_le_right _ _
      failures := by
        simp only [Cabinet.afterFailure]
        unfold linkAfterFailure
        split
        · simp
        · simp
        · split
          · simp
          · simp only; omega
        · simp }
  have h1 := (h.cabinet _ hx hr).link t.link.countFailure
  unfold State.failPoll
  dsimp only
  split
  · exact ((h1.attend _).recompute).settleWait c
  · exact h1

theorem Moves.closeWindow (h : Moves s t) : Moves s t.closeWindow := h.link _

theorem Moves.pollFails (h : Moves s t) : Moves s t.pollFails := by
  unfold State.pollFails
  split
  · exact h
  · split
    · exact h.closeWindow
    · rename_i x hx
      split
      · exact h.closeWindow.failPoll hx
      · exact h.closeWindow

theorem Moves.releaseWait (h : Moves s t) (c : Nat) (f : Flight) : Moves s (t.releaseWait c f) := by
  unfold State.releaseWait
  split
  · exact h.settleWait c
  · exact h

theorem Moves.takeBusy (h : Moves s t) {c : Nat} {x : Cabinet} (hx : t.cabinet? c = some x) (f : Flight) :
    Moves s (t.takeBusy c x f) := by
  refine Moves.releaseWait (Moves.link (h.cabinet _ hx fun hr => ?_) _) _ _
  unfold Cabinet.afterBusy
  split <;> exact { hr with failures := by simp }

theorem Moves.askReport (h : Moves s t) (c : Nat) (m : Mode) (f : Flight) : Moves s (t.askReport c m f) := by
  unfold State.askReport
  split
  · exact h.endAsk _
  · exact h.releaseWait _ _

theorem Cabinet.InRange.afterReport {x : Cabinet} (hr : x.InRange) (carried : Option Posting) (rep : Report) :
    (x.afterReport carried rep).InRange :=
  { hr with load := Nat.min_le_right _ _, age := Nat.zero_le _, failures := Nat.zero_le _ }

theorem Moves.takeReport (h : Moves s t) {c : Nat} {x : Cabinet} (hx : t.cabinet? c = some x) (f : Flight) (rep : Report)
    (hb : ∀ p, (rep.block p).InRange) : Moves s (t.takeReport c x f rep) := by
  have h1 : Moves s ((t.setCabinet c (some (x.afterReport f.posting rep))).goodContact) :=
    (h.cabinet _ hx fun hr => hr.afterReport f.posting rep).link _
  have h2 : Moves s (if x.link = .lost then
      ((t.setCabinet c (some (x.afterReport f.posting rep))).goodContact).attend (raiseCabinetBack c)
      else (t.setCabinet c (some (x.afterReport f.posting rep))).goodContact) := by
    split
    · exact h1.attend _
    · exact h1
  exact (((h2.intake c x.mode rep.givenMode (x.isNew rep) rep hb).permitReport c rep.givenMode).recompute).askReport _ _ _

theorem Moves.takeReply (h : Moves s t) (cs : List RxChar) : Moves s (t.takeReply cs) := by
  unfold State.takeReply
  split
  · exact h
  · split
    · exact h.closeWindow
    · rename_i x hx
      split
      · split
        · exact h.closeWindow.failPoll hx
        · exact h.closeWindow.takeBusy hx _
        · rename_i rep hj
          obtain ⟨halted, rfl⟩ := judgeReply_report hj
          exact h.closeWindow.takeReport hx _ _ (reportOf_block_inRange halted _)
      · exact h.closeWindow

theorem Moves.formPoll (h : Moves s t) : Moves s t.formPoll := by
  unfold State.formPoll
  split
  · exact h
  · split
    · exact h.link _
    · rename_i x hx
      refine Moves.link (h.cabinet _ hx fun hr => ?_) _
      unfold Cabinet.polled
      split <;> exact { hr with }

theorem endWrite_sized {im : Images} (h : im.Sized) (w : ImageWrite) (o : WriteOutcome) : (endWrite w o im).Sized :=
  putImage_sized _ _ _ _ _ h

theorem Moves.finishWrite (h : Moves s t) (w : ImageWrite) (o : WriteOutcome) : Moves s (t.finishWrite w o) :=
  h.quiet ⟨rfl, rfl, rfl, rfl, rfl, rfl, rfl, rfl, .inl rfl, rfl, fun hi => endWrite_sized hi w o⟩

theorem Moves.endRunningWrite (h : Moves s t) (o : WriteOutcome) : Moves s (t.endRunningWrite o) := by
  unfold State.endRunningWrite
  split
  · exact h
  · split
    · exact h.finishWrite _ _
    · exact ((h.finishWrite _ _).attend _).checkpoint _

theorem Moves.endResetWrite (h : Moves s t) (o : WriteOutcome) : Moves s (t.endResetWrite o) := by
  unfold State.endResetWrite
  split
  · exact h
  · exact h.finishWrite _ _

theorem Moves.passTime (h : Moves s t) (ms : Nat) : Moves s (t.passTime ms) := by
  unfold State.passTime
  split
  · have h1 : Moves s (t.countTime ms) := h.quiet ⟨rfl, rfl, rfl, rfl, rfl, rfl, rfl, rfl, .inl rfl, rfl, id⟩
    unfold State.judgeFilter
    split
    · exact h1.acceptUtility _
    · exact h1
  · exact h
  · exact h

end

end Sys2Proof.Machine

namespace Sys2Proof.Machine

/-! ## Fields of a body -/

theorem beNat_lt (bs : List Byte) : beNat bs < 256 ^ bs.length := by
  have key : ∀ (bs : List Byte) (a : Nat), bs.foldl (fun a b => a * 256 + b.toNat) a < (a + 1) * 256 ^ bs.length := by
    intro bs
    induction bs with
    | nil => simp
    | cons b t ih =>
      intro a
      have hb : b.toNat < 256 := b.isLt
      calc (b :: t).foldl (fun a b => a * 256 + b.toNat) a < (a * 256 + b.toNat + 1) * 256 ^ t.length := ih _
        _ ≤ ((a + 1) * 256) * 256 ^ t.length := Nat.mul_le_mul_right _ (by omega)
        _ = (a + 1) * 256 ^ (b :: t).length := by rw [List.length_cons, pow_succ]; ring
  simpa [beNat] using key bs 0

theorem field_lt (b : List Byte) (off width : Nat) : field b off width < 256 ^ width := by
  refine (beNat_lt _).trans_le (Nat.pow_le_pow_right (by omega) ?_)
  simp

/-! ## Strings at a position -/

theorem State.stringAt_some {s : State} {c p k : Nat} {r : StringRecord} (h : s.stringAt c p = some (k, r)) :
    s.string? k = some r ∧ r.cabinet = some c ∧ r.position = p ∧ r.state ≠ .retired := by
  have hm := List.mem_of_find?_eq_some h
  have hp := List.find?_some h
  simp only [Bool.and_eq_true, beq_iff_eq, bne_iff_ne] at hp
  exact ⟨(mem_entries _ _ _).mp hm, hp.1.1, hp.1.2, hp.2⟩

theorem State.stringAt_none {s : State} {c p : Nat} (h : s.stringAt c p = none) (k : Nat) (r : StringRecord)
    (hr : s.string? k = some r) (hc : r.cabinet = some c) (hp : r.position = p) : r.state = .retired := by
  have := List.find?_eq_none.mp h (k, r) ((mem_entries _ _ _).mpr hr)
  simpa [hc, hp] using this

/-- A cabinet whose string list shows no slot has no string at any position (R12, R18). -/
theorem State.stringList_empty {s : State} {c : Nat} (h : ∀ k ∈ s.stringList c, k = 0) (k : Nat) (r : StringRecord)
    (hr : s.string? k = some r) (hp : 1 ≤ r.position ∧ r.position ≤ 4) (hc : r.cabinet = some c) : r.state = .retired := by
  cases ha : s.stringAt c r.position with
  | none => exact State.stringAt_none ha k r hr hc rfl
  | some e =>
    obtain ⟨j, q⟩ := e
    have h0 := h j (List.mem_map.mpr ⟨r.position, (mem_numbers _ _).mpr hp, by simp [ha]⟩)
    have := tget_some _ _ _ (State.stringAt_some ha).1
    omega

/-! ## A new record -/

theorem newRecord_steady (p : Profile) (c pos n day : Nat) (rb : Option Nat) :
    (newRecord p c pos n day rb).cabinet = some c ∧ (newRecord p c pos n day rb).position = pos ∧
      (newRecord p c pos n day rb).state ≠ .retired := by
  obtain ⟨h1, h2, -, h4⟩ := (stage4_sound none p (startWork
    { cabinet := some c, position := pos, profile := n, day := day, rb := rb, r := 0, voltage := 0, current := 0,
      temperature := p.assumed, life := 0, m := 0, s := 0, bucket := 0, event := none, soh := 1000, resistanceIndicator := 1000,
      lifeIndicator := 1000, suspect := false, state := .good, sinceR := 0, owner := none })).steady
  exact ⟨h1, h2, fun h => by cases h4.mp h⟩

theorem newRecord_inRange {p : Profile} {c pos n day : Nat} {rb : Option Nat} (hp : p.InRange) (hc : 1 ≤ c ∧ c ≤ 24)
    (hpos : 1 ≤ pos ∧ pos ≤ 4) (hn : 1 ≤ n ∧ n ≤ 4) (hday : day ≤ 65535) (hrb : ∀ b, rb = some b → 1 ≤ b ∧ b ≤ 65535) :
    (newRecord p c pos n day rb).InRange := by
  refine (stage4_sound none p _).range (fun q hq => by cases hq) ?_
  constructor <;> simp only [startWork_r, Config.lifeLimit]
  case cabinet => intro d hd; cases hd; exact hc
  case baseline => exact hrb
  case event => intro e he; cases he
  case owner => intro v hv; cases hv
  case temperature => exact hp.assumed
  all_goals omega

theorem baselineOf_bounds (n b : Nat) (h : baselineOf n = some b) : 1 ≤ b ∧ b ≤ 65535 := by
  unfold baselineOf at h
  split at h
  · cases h
  · cases h; omega

theorem State.Sized.cabinet_bounds {s : State} (h : s.Sized) {c : Nat} (hc : (s.cabinet? c).isSome = true) : 1 ≤ c ∧ c ≤ 24 := by
  obtain ⟨x, hx⟩ := Option.isSome_iff_exists.mp hc
  have := tget_some _ _ _ hx
  rwa [h.cabinets] at this

theorem State.Sized.profile_bounds {s : State} (h : s.Sized) {n : Nat} {p : Profile} (hp : s.profile? n = some p) :
    1 ≤ n ∧ n ≤ 4 := by
  have := tget_some _ _ _ hp
  rwa [h.profiles] at this

theorem State.Sized.visit_bounds {s : State} (h : s.Sized) {v : Nat} {x : Visit} (hv : s.visit? v = some x) :
    1 ≤ v ∧ v ≤ 4 := by
  have := tget_some _ _ _ hv
  rwa [h.visits] at this

theorem State.itemOf_some {s : State} {v n : Nat} {x : Visit} {it : Item} (h : s.itemOf v n = some (x, it)) :
    s.visit? v = some x ∧ itemAt x.items n = some it := by
  unfold State.itemOf at h
  split at h
  · cases h
  · rename_i y hy
    obtain ⟨a, ha, he⟩ := Option.map_eq_some_iff.mp h
    cases he
    exact ⟨hy, ha⟩

/-! ## Ranges of what the host writes -/

theorem FloorConfig.clamp_inRange (c : FloorConfig) : c.clamp.InRange := by
  have hb : ∀ {lo hi : Nat}, lo ≤ hi → ∀ x, lo ≤ clampNat lo hi x ∧ clampNat lo hi x ≤ hi := fun h x => clampNat_bounds h x
  exact ⟨(hb (by omega) _).2, (hb (by omega) _).2, (hb (by omega) _).2, (hb (by omega) _).2, (hb (by omega) _).2,
    (hb (by omega) _).2, hb (by omega) _, hb (by omega) _, hb (by omega) _, hb (by omega) _, hb (by omega) _⟩

theorem FloorConfig.default_inRange : FloorConfig.default.InRange := by
  constructor <;> decide

theorem Profile.clamp_inRange (p : Profile) : p.clamp.InRange := by
  have hw := clampNat_bounds (show 500 ≤ 950 by omega) p.watch
  have hr := clampNat_bounds (show 300 ≤ clampNat 500 950 p.watch - 10 by omega) p.replace
  constructor <;> simp only [Profile.clamp]
  case replace => omega
  case tref => exact clampInt_bounds (by omega) _
  case assumed => exact clampInt_bounds (by omega) _
  all_goals exact clampNat_bounds (by omega) _

theorem newCabinet_inRange {g r : Nat} (hg : 1 ≤ g ∧ g ≤ 4) (hr : 100 ≤ r ∧ r ≤ 8000) : (newCabinet g r).InRange :=
  ⟨hg, hr, Nat.zero_le _, le_rfl, Nat.zero_le _, Nat.zero_le _⟩

/-! ## Every request is a chain of elementary changes -/

theorem blind_closeIfGranted (k : Nat) : PortBlind (fun s => State.closeIfGranted s k) := by
  intro p s
  change (if s.isGranted k = true then _ else _) = _
  simp only [State.closeIfGranted]
  split
  · unfold State.closeRaising
    rw [blind_closePermit]; rfl
  · rfl

theorem blind_closeAllGranted : PortBlind State.closeAllGranted := PortBlind.foldl _ blind_closeIfGranted _

theorem State.endAsk_calm {s : State} (res : ResultCode) (hc : s.port.state.calm) : (s.endAsk res).port.state.calm := by
  unfold State.endAsk
  split
  · exact hc
  · exact .inr rfl

theorem State.acceptUtility_calm {s : State} (u : UtilityState) (hc : s.port.state.calm) :
    (s.acceptUtility u).port.state.calm := by
  unfold State.acceptUtility
  dsimp only
  split
  · refine State.endAsk_calm _ ?_
    rw [State.recompute_port, blind_closeAllGranted.port]
    exact hc
  · exact hc

theorem Moves.storeItem {s t : State} (h : Moves s t) (v n : Nat) (it : Item) : Moves s (t.storeItem v n it) := by
  unfold State.storeItem
  split
  · exact h
  · exact (h.setVisit _ _).checkpoint _

theorem Moves.closeVisit {s t : State} (h : Moves s t) (v : Nat) : Moves s (t.closeVisit v) := by
  have h1 := h.trans (Moves.foldl (t.permitsOfVisit v)
    (fun e _ u => (Moves.refl.closePermit e.1 : Moves u (u.closeVisitPermit e))) t)
  have h2 := h1.trans (Moves.foldl (t.retiredOf v) (fun k _ u => (Moves.refl.freeString k : Moves u (u.freeString k))) _)
  have h3 := h2.trans (Moves.foldl ((numbers Config.visitCount).filter (fun w => w != v))
    (f := State.abandonIn (t.retiredOf v)) (fun w _ u => by
      unfold State.abandonIn
      split
      · exact .refl
      · split
        · exact .refl
        · exact (Moves.refl.setVisit _ _).checkpoint _) _)
  exact ((h3.setVisit v none).checkpoint _).recompute

theorem Moves.profileWriteOn {s t : State} (h : Moves s t) (n : Nat) (p : Profile) (k : Nat) :
    Moves s (t.profileWriteOn n p k) := by
  unfold State.profileWriteOn
  split
  · exact h
  · split
    · exact h.workOn_sound k _ fun o w => afterProfileWrite_sound o p w
    · exact h

/-- A record put in a free slot, raised and checkpointed, is a commission (R58). -/
theorem Moves.commission {s t : State} (h : Moves s t) (k : Nat) (q : StringRecord) (hc : t.StringsPlaced → t.CanTake q)
    (hq : t.InRanges → q.InRange) : Moves s (t.commission k q) := h.commit (.commission k q hc hq)

theorem State.askRefusal_none {s : State} {c : Nat} {x : Cabinet} {v : Option Nat} (h : s.askRefusal c x v = none) :
    s.permitOf c = none := by
  unfold State.askRefusal at h
  split at h
  · cases h
  · rename_i hp
    simpa using hp

theorem Moves.retireTarget {s t : State} (h : Moves s t) (k v : Nat) (hv : t.Sized → 1 ≤ v ∧ v ≤ 4) :
    Moves s (t.workOn k (fun _ => toRetiring v)) :=
  h.workOn_loosens k _ (fun _ w ht => toRetiring_loosens v w (hv ht)) fun _ w =>
    ⟨.inl (by simp [toRetiring]), by simp [toRetiring], by simp [toRetiring]⟩

theorem Moves.handResult {s t : State} (h : Moves s t) (it : Item) (value : Nat) : Moves s (t.handResult it value) := by
  unfold State.handResult
  split
  · exact h
  · exact h
  · exact (h.workOn_sound _ _ fun p w => reanchor_sound p value w).recompute
  · exact (h.workOn_sound _ _ fun p w => setBaseline_sound p value w).recompute

/-- The retirement of a target and the commission of its replacement in a free slot (R149). -/
theorem Moves.replaceString {s : State} {j k : Nat} {old r : StringRecord} {c : Nat} (hj : s.string? j = some old)
    (hcab : old.cabinet = some c) (hc : r.cabinet = some c) (hp : r.position = old.position) (hr : r.state ≠ .retired)
    (hq : s.InRanges → r.InRange) : Moves s ((s.workOn j retire).commission k r) := by
  set w := retire (s.profile? old.profile) (startWork old) with hw
  have hl : s.InRanges → (startWork old).Loosens w := fun hs => retire_loosens _ _ (hs.profile _)
  have hk : old.Keeps w.r := ⟨.inr (retire_cabinet _ _), retire_position _ _, fun _ => .inl (retire_cabinet _ _)⟩
  have hm : Moves s ((s.setString j (some w.r)).setString k (some r)) :=
    Moves.refl.tail (.replace j k old w.r r hj hk (retire_cabinet _ _) (hc.trans hcab.symm) (by simp [hc]) hp hr
      fun hs => ⟨(hl hs).range (hs.records.strings j old hj), hq hs⟩)
  rw [State.workOn_record _ _ _ old hj, State.commission, State.commit_eq, State.commit_eq]
  exact hm.quiet ⟨rfl, rfl, rfl, rfl, rfl, rfl, rfl, rfl, .inl rfl, rfl, id⟩

section
variable {s : State} (hi : s.port.state = .idle) (b : List Byte)
include hi

theorem floorRead_handled : Handled s (floorRead b s) := .done_same hi .refl rfl _

theorem floorConfigWrite_handled : Handled s (floorConfigWrite b s) := by
  have h1 : Moves s (({ s with floor := { s.floor with config := (configOfBody b).clamp } } : State).checkpoint
      configImage).recompute :=
    ((Moves.refl.tail (.config _ (FloorConfig.clamp_inRange _))).checkpoint _).recompute
  show Moves s (s.writeConfig _) ∧ (s.writeConfig _).port.state.calm
  unfold State.writeConfig State.filterAfterWrite
  split
  · exact ⟨h1.acceptUtility _, State.acceptUtility_calm _ (.inl hi)⟩
  · exact ⟨h1, .inl hi⟩

theorem clockSet_handled : Handled s (clockSet b s) := by
  refine ⟨Moves.refl.quiet ?_, .inl hi⟩
  exact ⟨rfl, rfl, rfl, rfl, rfl, rfl, rfl, rfl, .inl rfl, rfl, id⟩

theorem attentionRead_handled : Handled s (attentionRead b s) := .done_same hi (Moves.refl.attend fun _ => .empty) rfl _

theorem cabinetSet_handled : Handled s (cabinetSet b s) := by
  unfold cabinetSet
  dsimp only
  split
  · have hr : s.FloorInRange → (setEntry (s.cabinet? (field b 0 1)) (clampNat 1 4 (field b 1 1))
        (clampNat 100 8000 (field b 2 2))).InRange := by
      intro hf
      unfold setEntry
      split
      · exact newCabinet_inRange (clampNat_bounds (by omega) _) (clampNat_bounds (by omega) _)
      · rename_i x hx
        exact { hf.cabinets _ x hx with
          group := clampNat_bounds (by omega) _, rated := clampNat_bounds (by omega) _ }
    have h1 := Moves.refl.tail (.cabinet (field b 0 1) _ hr)
    unfold State.setEntryOf
    dsimp only
    split
    · exact .done_same hi (h1.checkpoint _).recompute rfl _
    · exact .done_same hi h1.recompute rfl _
  · exact .refuse hi _

theorem cabinetDrop_handled : Handled s (cabinetDrop b s) := by
  unfold cabinetDrop
  dsimp only
  split
  · exact .refuse hi _
  · split
    · exact .refuse hi _
    · rename_i hp
      split
      · exact .refuse hi _
      · rename_i hl
        have hp0 : s.permitOf (field b 0 1) = none := by simpa using hp
        have hl0 : ∀ k ∈ s.stringList (field b 0 1), k = 0 := by simpa using hl
        have h1 : Moves s (s.setCabinet (field b 0 1) none) := Moves.refl.tail (.drop _ (State.permitOf_none hp0)
          (fun k r hr hpos hc => State.stringList_empty hl0 k r hr hpos hc) hi)
        exact .done_same hi (((h1.link _).checkpoint _).recompute) rfl _

theorem cabinetRead_handled : Handled s (cabinetRead b s) := by
  unfold cabinetRead
  dsimp only
  split
  · exact .refuse hi _
  · rename_i x hx
    split
    · exact .done_same hi .refl rfl _
    · refine .done_same hi (Moves.refl.cabinet _ hx ?_) rfl _
      exact fun hr => { hr with errors := Nat.zero_le _ }

theorem profileWrite_handled : Handled s (profileWrite b s) := by
  unfold profileWrite
  dsimp only
  split
  · refine .done_blind hi (blind_writeProfile _ _) ?_ _
    exact (Moves.trans ((Moves.refl.tail (.profile _ _ (Profile.clamp_inRange _))).checkpoint _)
      (Moves.foldl _ (fun k _ _ => Moves.profileWriteOn .refl _ _ k) _)).recompute
  · exact .refuse hi _

theorem profileRead_handled : Handled s (profileRead b s) := by
  unfold profileRead
  dsimp only
  split
  · exact .done_same hi .refl rfl _
  · exact .refuse hi _

theorem stringCommission_handled : Handled s (stringCommission b s) := by
  unfold stringCommission
  dsimp only
  split
  · exact .refuse hi _
  · rename_i x hx
    split
    · rename_i hpos
      have hpos : 1 ≤ field b 1 1 ∧ field b 1 1 ≤ 4 :=
        of_decide_eq_true hpos
      split
      · exact .refuse hi _
      · rename_i p hp
        split
        · exact .refuse hi _
        · rename_i hat
          have hat0 : s.stringAt (field b 0 1) (field b 1 1) = none := by simpa using hat
          split
          · exact .refuse hi _
          · have hcab : (s.cabinet? (field b 0 1)).isSome = true := by simp [hx]
            obtain ⟨hc, hpo, hst⟩ := newRecord_steady p (field b 0 1) (field b 1 1) (field b 2 1) (field b 3 2)
              (baselineOf (field b 5 4))
            refine .done_blind hi (f := fun u => (u.commission _ _).recompute)
              (PortBlind.comp blind_recompute (blind_commission _ _)) (Moves.recompute (Moves.commission .refl _ _ ?_ ?_)) _
            · intro hs
              refine ⟨_, hc, hcab, by rw [hpo]; exact hpos, hst, fun j r hr hrc hrp => ?_⟩
              have := State.stringAt_none hat0 j r hr hrc (hrp.trans hpo)
              rw [hs.retired j r hr this] at hrc; cases hrc
            · intro hs
              have hday := field_lt b 3 2
              exact newRecord_inRange (hs.records.profiles _ p hp) (hs.sized.cabinet_bounds hcab) hpos
                (hs.sized.profile_bounds hp) (by omega) fun n hn => baselineOf_bounds _ n hn
    · exact .refuse hi _

theorem stringRead_handled : Handled s (stringRead b s) := by
  unfold stringRead
  split
  · exact .refuse hi _
  · exact .done_same hi .refl rfl _

theorem stringPulse_handled : Handled s (stringPulse b s) := by
  unfold stringPulse
  split
  · exact .refuse hi _
  · split
    · exact .refuse hi _
    · exact .done_blind hi (blind_setPulse _ _) (Moves.refl.setPulse _ _) _

theorem stringDrop_handled : Handled s (stringDrop b s) := by
  unfold stringDrop
  dsimp only
  split
  · exact .refuse hi _
  · split
    · exact .refuse hi _
    · split
      · exact .refuse hi _
      · split
        · exact .refuse hi _
        · exact .done_blind hi (blind_freeString _) (Moves.refl.freeString _) _

theorem permitAsk_handled : Handled s (permitAsk b s) := by
  unfold permitAsk
  dsimp only
  split
  · exact .refuse hi _
  · rename_i x hx
    split
    · exact .refuse hi _
    · rename_i hr
      have h1 := Moves.refl.tail (.beginAsk
        { cabinet := field b 0 1, duration := clampNat 10 s.floor.config.maxPermit (field b 1 2)
          visit := visitOfByte (field b 3 1),
          group := x.group, waitSet := s.waitSetFor x.group } hi (by simp [hx])
        (State.permitOf_none (State.askRefusal_none hr)))
      exact h1.link { s.link with flight := s.link.flight.map (fun f => { f with afterAsk := false }) }

theorem permitRead_handled : Handled s (permitRead b s) := by
  unfold permitRead
  dsimp only
  split
  · exact .refuse hi _
  · exact .done_same hi .refl rfl _

theorem permitRecall_handled : Handled s (permitRecall b s) := by
  unfold permitRecall
  dsimp only
  split
  · exact .refuse hi _
  · rename_i hp
    split
    · exact .done_blind hi (blind_recallPermit _ _) (Moves.refl.recallPermit hp) _
    · exact .refuse hi _

theorem permitCancel_handled : Handled s (permitCancel b s) := by
  unfold permitCancel
  dsimp only
  split
  · exact .refuse hi _
  · split
    · exact .done_blind hi (f := fun u => (u.closePermit (field b 0 1)).recompute)
        (PortBlind.comp blind_recompute (blind_closePermit _)) (Moves.refl.closePermit _).recompute _
    · exact .refuse hi _

theorem visitOpen_handled : Handled s (visitOpen b s) := by
  unfold visitOpen
  split
  · exact .refuse hi _
  · exact .done_same hi ((Moves.refl.setVisit _ _).checkpoint _) rfl _

theorem visitAdd_handled : Handled s (visitAdd b s) := by
  unfold visitAdd
  dsimp only
  split
  · exact .refuse hi _
  · split
    · exact .refuse hi _
    · split
      · exact .refuse hi _
      · split
        · exact .refuse hi _
        · split
          · exact .refuse hi _
          · exact .done_same hi ((Moves.refl.setVisit _ _).checkpoint _) rfl _

theorem visitStart_handled : Handled s (visitStart b s) := by
  unfold visitStart
  dsimp only
  split
  · exact .refuse hi _
  · rename_i x it hit
    split
    · exact .refuse hi _
    · split
      · refine .done_blind hi (f := fun u => State.storeItem (field b 0 1) (field b 1 1) (s.startedItem (field b 0 1) it)
            (State.recompute (State.workOn it.target (fun _ => toRetiring (field b 0 1)) u)))
          (PortBlind.comp (blind_storeItem _ _ _) (PortBlind.comp blind_recompute (blind_workOn _ _))) ?_ _
        exact (Moves.retireTarget .refl _ _ fun hs => hs.visit_bounds (State.itemOf_some hit).1).recompute.storeItem _ _ _
      · exact .done_blind hi (blind_storeItem _ _ _) (Moves.refl.storeItem _ _ _) _

theorem finishReplace_handled (v n profileNo value : Nat) (x : Visit) (it : Item) :
    Handled s (finishReplace v n profileNo value x it s) := by
  unfold finishReplace
  split
  · exact .refuse hi _
  · rename_i p hp
    split
    · exact .refuse hi _
    · split
      · exact .refuse hi _
      · rename_i k hk
        split
        · exact .refuse hi _
        · rename_i old hold
          split
          · exact .refuse hi _
          · rename_i c hcab
            obtain ⟨hc, hpo, hst⟩ := newRecord_steady p c old.position profileNo (openingDay x.opened) (baselineOf value)
            refine .done_blind hi (f := fun u => State.recompute (State.storeItem v n _ (State.commission k _
              (State.workOn it.target retire u)))) (PortBlind.comp blind_recompute (PortBlind.comp (blind_storeItem _ _ _)
              (PortBlind.comp (blind_commission _ _) (blind_workOn _ _)))) ?_ _
            refine ((Moves.replaceString hold hcab hc hpo hst fun hs => ?_).storeItem _ _ _).recompute
            have hr := hs.records.strings _ old hold
            exact newRecord_inRange (hs.records.profiles _ p hp) (hr.cabinet c hcab) hr.position (hs.sized.profile_bounds hp)
              (by unfold openingDay; omega) fun m hm => baselineOf_bounds _ m hm

theorem visitFinish_handled : Handled s (visitFinish b s) := by
  unfold visitFinish
  dsimp only
  split
  · exact .refuse hi _
  · split
    · exact .refuse hi _
    · split
      · exact finishReplace_handled hi _ _ _ _ _ _
      · exact .done_blind hi (f := fun u => State.storeItem _ _ _ (State.handResult _ _ u))
          (PortBlind.comp (blind_storeItem _ _ _) (blind_handResult _ _)) ((Moves.handResult .refl _ _).storeItem _ _ _) _

theorem visitAbandon_handled : Handled s (visitAbandon b s) := by
  unfold visitAbandon
  dsimp only
  split
  · exact .refuse hi _
  · split
    · exact .done_blind hi (f := fun u => State.storeItem _ _ _ (State.recompute (State.releaseTarget _ u)))
        (PortBlind.comp (blind_storeItem _ _ _) (PortBlind.comp blind_recompute (blind_releaseTarget _)))
        ((Moves.refl.releaseTarget _).recompute.storeItem _ _ _) _
    · exact .refuse hi _

theorem visitClose_handled : Handled s (visitClose b s) := by
  unfold visitClose
  dsimp only
  split
  · exact .refuse hi _
  · split
    · exact .refuse hi _
    · exact .done_blind hi (blind_closeVisit _) (Moves.refl.closeVisit _) _

theorem visitRead_handled : Handled s (visitRead b s) := by
  unfold visitRead
  dsimp only
  split
  · exact .refuse hi _
  · exact .done_same hi .refl rfl _

end

end Sys2Proof.Machine

namespace Sys2Proof.Machine

/-! ## The marks of a map -/

theorem markOf_getLsbD {w i : Nat} (n : Nat) (h : i < w) : (markOf w n).getLsbD i = decide (i + 1 = n) := by
  cases n with
  | zero => simp [markOf]
  | succ k =>
    rw [markOf, BitVec.getLsbD_twoPow]
    by_cases e : i = k
    · subst e; simp [h]
    · simp [e, Ne.symm e]

/-! ## Work on many records

What a pass over the String Table leaves, where each record is worked on at most once: `out k r` is the work on the record `r` in
slot `k`. -/

/-- The records of `s` have gone through the works `out`, and nothing else has changed but their causes and checkpoints. -/
structure State.Worked (s t : State) (out : Nat → StringRecord → Work) : Prop where
  strings : ∀ k, t.string? k = (s.string? k).map (fun r => (out k r).r)
  size : t.strings.length = s.strings.length
  changed : ∀ i, i < 64 → t.attention.stringStateChanged.getLsbD i = (s.attention.stringStateChanged.getLsbD i ||
    (s.string? (i + 1)).any (fun r => (out (i + 1) r).changed))
  queue : ∀ id, id ∈ t.store.queue ↔ id ∈ s.store.queue ∨
    ∃ k r, s.string? k = some r ∧ (out k r).save = true ∧ id = stringImage k
  frame : t = { s with
    strings := t.strings
    attention := { s.attention with stringStateChanged := t.attention.stringStateChanged }
    store := { s.store with queue := t.store.queue } }

theorem State.Worked.refl (s : State) : s.Worked s (fun _ => startWork) :=
  ⟨fun k => by simp, rfl, fun i _ => by simp [startWork], fun id => by simp [startWork], rfl⟩

theorem State.Worked.congr {s t : State} {out out' : Nat → StringRecord → Work} (h : s.Worked t out)
    (he : ∀ k r, s.string? k = some r → out k r = out' k r) : s.Worked t out' := by
  refine ⟨fun k => ?_, h.size, fun i hi => ?_, fun id => ?_, h.frame⟩
  · rw [h.strings]
    exact Option.map_congr fun r hr => by rw [he k r hr]
  · rw [h.changed i hi]
    cases hr : s.string? (i + 1) with
    | none => rfl
    | some r => simp [he _ r hr]
  · rw [h.queue]
    refine or_congr_right (exists_congr fun k => exists_congr fun r => and_congr_right fun hr => ?_)
    rw [he k r hr]

theorem State.Worked.profile? {s t : State} {out : Nat → StringRecord → Work} (h : s.Worked t out) : t.profile? = s.profile? := by
  rw [h.frame]; rfl

theorem State.Worked.cabinet? {s t : State} {out : Nat → StringRecord → Work} (h : s.Worked t out) : t.cabinet? = s.cabinet? := by
  rw [h.frame]; rfl

/-- The work on one more record. -/
theorem State.Worked.commit {s t : State} {out : Nat → StringRecord → Work} (h : s.Worked t out) {k : Nat} {r : StringRecord}
    (hr : s.string? k = some r) (ho : out k r = startWork r) (w : Work) :
    s.Worked (t.commit k w) (fun j q => if j = k then w else out j q) := by
  have htr : t.string? k = some r := by rw [h.strings, hr, Option.map_some, ho]; rfl
  rw [State.commit_eq]
  refine ⟨fun j => ?_, ?_, fun i hi => ?_, fun id => ?_, ?_⟩
  · rw [State.string?, tget_tset_of_some _ _ _ r _ htr]
    by_cases hj : j = k
    · subst hj; simp [hr]
    · simp only [if_neg hj]; exact h.strings j
  · simp only [tset_length]; exact h.size
  · have hbit : (if w.changed = true then raiseStringChanged k t.attention else t.attention).stringStateChanged.getLsbD i =
        (t.attention.stringStateChanged.getLsbD i || (w.changed && decide (i + 1 = k))) := by
      cases w.changed <;> simp [raiseStringChanged, markOf_getLsbD k hi]
    simp only [hbit, h.changed i hi]
    by_cases hik : i + 1 = k
    · subst hik; simp [hr, ho, startWork]
    · simp [hik]
  · have hsaved : id ∈ (if w.save = true then enqueue (stringImage k) t.store.queue else t.store.queue) ↔
        id ∈ t.store.queue ∨ (w.save = true ∧ id = stringImage k) := by
      cases w.save <;> simp
    simp only [hsaved, h.queue id, or_assoc]
    refine or_congr_right ⟨?_, ?_⟩
    · rintro (⟨j, q, hq, hs, e⟩ | ⟨hs, e⟩)
      · have hj : j ≠ k := by rintro rfl; rw [hr] at hq; cases hq; rw [ho] at hs; cases hs
        exact ⟨j, q, hq, by rwa [if_neg hj], e⟩
      · exact ⟨k, r, hr, by rwa [if_pos rfl], e⟩
    · rintro ⟨j, q, hq, hs, e⟩
      by_cases hj : j = k
      · subst hj; rw [if_pos rfl] at hs; exact .inr ⟨hs, e⟩
      · rw [if_neg hj] at hs; exact .inl ⟨j, q, hq, hs, e⟩
  · conv_lhs => rw [h.frame]
    cases w.changed <;> rfl

/-- Work on one more slot, free or not. -/
theorem State.Worked.workOn {s t : State} {out : Nat → StringRecord → Work} (h : s.Worked t out) {k : Nat}
    (ho : ∀ r, s.string? k = some r → out k r = startWork r) (f : Option Profile → Work → Work) :
    s.Worked (t.workOn k f) (fun j q => if j = k then f (s.profile? q.profile) (startWork q) else out j q) := by
  cases hr : s.string? k with
  | none =>
    rw [State.workOn_free _ _ _ (by rw [h.strings, hr]; rfl)]
    refine h.congr fun j q hq => ?_
    rw [if_neg (by rintro rfl; rw [hr] at hq; cases hq)]
  | some r =>
    have htr : t.string? k = some r := by rw [h.strings, hr, Option.map_some, ho r hr]; rfl
    rw [State.workOn_record _ _ _ r htr, h.profile?]
    refine (h.commit hr (ho r hr) _).congr fun j q hq => ?_
    by_cases hj : j = k
    · subst hj; rw [hr] at hq; cases hq; simp
    · simp [hj]

/-- A pass over the slots `1..N`. -/
theorem State.worked_pass (s : State) (f : Nat → Option Profile → Work → Work) (N : Nat) :
    s.Worked ((numbers N).foldl (fun t k => t.workOn k (f k)) s)
      (fun k r => if k ≤ N then f k (s.profile? r.profile) (startWork r) else startWork r) := by
  refine foldl_numbers
    (P := fun n t => s.Worked t (fun k r => if k ≤ n then f k (s.profile? r.profile) (startWork r) else startWork r)) N
    ((State.Worked.refl s).congr fun k r hr => ?_) fun n t _ h => ?_
  · rw [if_neg (by have := tget_some _ _ _ hr; omega)]
  · refine (h.workOn (k := n + 1) (fun r _ => if_neg (by omega)) (f (n + 1))).congr fun k r _ => ?_
    by_cases hk : k = n + 1
    · subst hk; simp
    · simp only [if_neg hk, show (k ≤ n + 1) = (k ≤ n) by simp only [eq_iff_iff]; omega]

/-- A pass over the whole table. -/
theorem State.worked_table {s : State} (hs : s.Sized) (f : Nat → Option Profile → Work → Work) :
    s.Worked ((numbers Config.stringCount).foldl (fun t k => t.workOn k (f k)) s)
      (fun k r => f k (s.profile? r.profile) (startWork r)) :=
  (s.worked_pass f Config.stringCount).congr fun k r hr => by
    have := tget_some _ _ _ hr
    rw [hs.strings] at this
    exact if_pos this.2

/-! ## The tables as loaded -/

theorem tget_map_images {α β : Type} (f : Image (Option α) → Option β) (t : List (Image (Option α))) (n : Nat) :
    tget (t.map f) n = (imageAt t n).bind f := by
  cases n with
  | zero => rfl
  | succ n => simp [tget, imageAt, List.getElem?_map]; cases t[n]? <;> rfl

theorem loaded_some {α : Type} {i : Image (Option α)} {a : α} : loaded i = some a ↔ i.good = true ∧ i.content = some a := by
  unfold loaded
  split <;> simp [*]

theorem State.load_string? (cause : StartCause) (s : State) (k : Nat) :
    (s.load cause).string? k = (imageAt s.store.images.strings k).bind (loadedString (s.load cause).profiles) :=
  tget_map_images _ _ _

theorem State.load_profile? (cause : StartCause) (s : State) (n : Nat) :
    (s.load cause).profile? n = (imageAt s.store.images.profiles n).bind (fun i => (loaded i).map Profile.clamp) :=
  tget_map_images _ _ _

theorem State.load_cabinet? (cause : StartCause) (s : State) (c : Nat) :
    (s.load cause).cabinet? c = (imageAt s.store.images.cabinets c).bind loadedCabinet := tget_map_images _ _ _

theorem State.load_permit? (cause : StartCause) (s : State) (k : Nat) :
    (s.load cause).permit? k =
      (imageAt s.store.images.permits k).bind (loadedPermit (loadedConfig s.store.images.config).grantTimeout) :=
  tget_map_images _ _ _

theorem State.load_visit? (cause : StartCause) (s : State) (v : Nat) :
    (s.load cause).visit? v = (imageAt s.store.images.visits v).bind (fun i => (loaded i).map Visit.clamp) :=
  tget_map_images _ _ _

theorem State.load_sized (cause : StartCause) {s : State} (h : s.store.images.Sized) : (s.load cause).Sized := by
  constructor <;> simp [State.load, h.profiles, h.cabinets, h.strings, h.permits, h.visits, numbers]
  exact h

/-- A record as a start loads it from its image (R63, R72, R162). -/
def StringRecord.reloaded (profiles : List (Option Profile)) (r : StringRecord) : StringRecord :=
  { r.clamp with
    voltage := 0, current := 0, temperature := ((tget profiles (clampNat 1 4 r.profile)).map Profile.assumed).getD 0 }

theorem loadedString_some {profiles : List (Option Profile)} {i : Image (Option StringRecord)} {q : StringRecord} :
    loadedString profiles i = some q ↔ ∃ r, i.good = true ∧ i.content = some r ∧ q = r.reloaded profiles := by
  unfold loadedString
  simp only [Option.map_eq_some_iff, loaded_some, and_assoc]
  exact exists_congr fun r => and_congr_right fun _ => and_congr_right fun _ => eq_comm

theorem StringRecord.clamp_inRange (r : StringRecord) : ∀ t : Int, -200 ≤ t ∧ t ≤ 700 →
    StringRecord.InRange { r.clamp with voltage := 0, current := 0, temperature := t } := by
  intro t ht
  constructor <;> simp only [StringRecord.clamp]
  case cabinet =>
    intro c hc
    split at hc
    · cases hc
    · obtain ⟨d, -, rfl⟩ := Option.map_eq_some_iff.mp hc
      exact clampNat_bounds (by omega) _
  case baseline =>
    intro b hb
    obtain ⟨d, -, rfl⟩ := Option.map_eq_some_iff.mp hb
    exact clampNat_bounds (by omega) _
  case owner =>
    intro v hv
    obtain ⟨d, -, rfl⟩ := Option.map_eq_some_iff.mp hv
    exact clampNat_bounds (by omega) _
  case event =>
    intro e he
    obtain ⟨d, -, rfl⟩ := Option.map_eq_some_iff.mp he
    exact ⟨Nat.min_le_right _ _, Nat.min_le_right _ _, Nat.min_le_right _ _⟩
  case position => exact clampNat_bounds (by omega) _
  case profile => exact clampNat_bounds (by omega) _
  case sum =>
    refine clampInt_bounds ?_ _
    push_cast
    omega
  case temperature => exact ht
  case current => omega
  case voltage => omega
  all_goals exact Nat.min_le_right _ _

theorem State.load_inRanges (cause : StartCause) {s : State} (h : s.store.images.Sized) : (s.load cause).InRanges := by
  have hprof : ∀ n p, (s.load cause).profile? n = some p → p.InRange := by
    intro n p hp
    rw [State.load_profile?] at hp
    obtain ⟨i, -, hi⟩ := Option.bind_eq_some_iff.mp hp
    obtain ⟨q, -, rfl⟩ := Option.map_eq_some_iff.mp hi
    exact q.clamp_inRange
  refine ⟨State.load_sized cause h, ⟨?_, fun c x hx => ?_⟩, hprof, fun k r hr => ?_⟩
  · show (loadedConfig s.store.images.config).InRange
    unfold loadedConfig
    split
    · exact FloorConfig.clamp_inRange _
    · exact FloorConfig.default_inRange
  · rw [State.load_cabinet?] at hx
    obtain ⟨i, -, hi⟩ := Option.bind_eq_some_iff.mp hx
    obtain ⟨y, -, rfl⟩ := Option.map_eq_some_iff.mp hi
    exact newCabinet_inRange (clampNat_bounds (by omega) _) (clampNat_bounds (by omega) _)
  · rw [State.load_string?] at hr
    obtain ⟨i, -, hi⟩ := Option.bind_eq_some_iff.mp hr
    obtain ⟨q, -, -, rfl⟩ := loadedString_some.mp hi
    refine q.clamp_inRange _ ?_
    cases hp : tget (s.load cause).profiles (clampNat 1 4 q.profile) with
    | none => simp
    | some p => exact (hprof _ p hp).assumed

/-! ## The string check -/

theorem State.start_worked (cause : StartCause) {s : State} (h : s.store.images.Sized) :
    (s.load cause).Worked (s.start cause)
      (fun k r => checkRecord (s.load cause) k ((s.load cause).profile? r.profile) (startWork r)) :=
  State.worked_table (State.load_sized cause h) (checkRecord (s.load cause))

theorem Moves.checkStrings (s : State) : Moves s s.checkStrings :=
  Moves.foldl (f := State.checkString s) _ (fun k _ _ => Moves.refl.workOn_loosens k _
    (fun p w _ => checkRecord_loosens s k p w) (fun p w => (checkRecord_loosens s k p w).keeps)) s

/-- Two images are never both the later one's elder: one of two records at one place stays (R171; log 19). -/
theorem writtenLater_or {a j b k : Nat} (h : j ≠ k) : writtenLater a j b k = true ∨ writtenLater b k a j = true := by
  simp only [writtenLater, decide_eq_true_eq]; omega

/-- A loaded record names no cabinet once Retired, and stands at a position (log 20). -/
theorem State.load_record {cause : StartCause} {s : State} {k : Nat} {r : StringRecord} (h : (s.load cause).string? k = some r) :
    (1 ≤ r.position ∧ r.position ≤ 4) ∧ (r.state = .retired → r.cabinet = none) := by
  rw [State.load_string?] at h
  obtain ⟨i, -, hi⟩ := Option.bind_eq_some_iff.mp h
  obtain ⟨q, -, -, rfl⟩ := loadedString_some.mp hi
  refine ⟨?_, fun hr => if_pos hr⟩
  have hp := clampNat_bounds (show 1 ≤ 4 by omega) q.position
  exact hp

/-- After the string check the records are well placed, whatever the images held (R171). -/
theorem State.start_stringsPlaced (cause : StartCause) {s : State} (h : s.store.images.Sized) :
    (s.start cause).StringsPlaced := by
  have hw := State.start_worked cause h
  set l := s.load cause with hl
  have hcab : (s.start cause).cabinet? = l.cabinet? := hw.cabinet?
  have read : ∀ k q, (s.start cause).string? k = some q → ∃ r gone, l.string? k = some r ∧
      gone = (l.cabinetAbsent r || l.outdated k r) ∧ q.cabinet = (if gone = true then none else r.cabinet) ∧
      q.position = r.position ∧ (q.state = .retired → r.state = .retired) := by
    intro k q hq
    rw [hw.strings] at hq
    obtain ⟨r, hr, rfl⟩ := Option.map_eq_some_iff.mp hq
    obtain ⟨gone, mark, hg, -, e⟩ := checkRecord_r l k (l.profile? r.profile) (startWork r)
    refine ⟨r, gone, hr, hg, by rw [e]; rfl, by rw [e]; rfl, fun hret => ?_⟩
    rw [e] at hret
    by_cases hs : r.state = .retiring ∨ r.state = .retired
    · exact (if_pos hs).symm.trans hret
    · exact absurd ((if_neg hs).symm.trans hret) (derivedState_ne _ _ _).2
  have stays : ∀ k q c, (s.start cause).string? k = some q → q.cabinet = some c → ∃ r, l.string? k = some r ∧
      r.cabinet = some c ∧ q.position = r.position ∧ r.state ≠ .retired ∧ l.cabinetAbsent r = false ∧ l.outdated k r = false := by
    intro k q c hq hc
    obtain ⟨r, gone, hr, hg, hqc, hpos, -⟩ := read k q hq
    cases hgone : gone with
    | true => rw [hqc, hgone] at hc; cases hc
    | false =>
      rw [hqc, hgone] at hc
      rw [hgone] at hg
      obtain ⟨h1, h2⟩ := Bool.or_eq_false_iff.mp hg.symm
      refine ⟨r, hr, hc, hpos, fun hret => ?_, h1, h2⟩
      rw [(State.load_record (hl ▸ hr)).2 hret] at hc; cases hc
  refine ⟨fun k q hq => ?_, fun k q hq hret => ?_, fun k q c hq hc => ?_, fun j k q q' c hq hq' hc hc' hpos => ?_⟩
  · obtain ⟨r, gone, hr, -, -, hp, -⟩ := read k q hq
    rw [hp]; exact (State.load_record (hl ▸ hr)).1
  · obtain ⟨r, gone, hr, -, hqc, -, hret'⟩ := read k q hq
    rw [hqc, (State.load_record (hl ▸ hr)).2 (hret' hret)]
    simp
  · obtain ⟨r, hr, hrc, -, -, habs, -⟩ := stays k q c hq hc
    rw [hcab]
    simpa [State.cabinetAbsent, hrc] using habs
  · obtain ⟨r, hr, hrc, hp, hns, -, hout⟩ := stays j q c hq hc
    obtain ⟨r', hr', hrc', hp', hns', -, hout'⟩ := stays k q' c hq' hc'
    by_contra hne
    have later : ∀ {i n : Nat} {a b : StringRecord}, l.string? i = some a → l.string? n = some b → a.cabinet = some c →
        b.cabinet = some c → b.position = a.position → a.state ≠ .retired → b.state ≠ .retired → n ≠ i →
        writtenLater (l.stringNumber n) n (l.stringNumber i) i = true → l.outdated i a = true := by
      intro i n a b _ hb hac hbc hpos has hbs hni hlater
      simp only [State.outdated, Bool.and_eq_true, List.any_eq_true, bne_iff_ne, beq_iff_eq]
      exact ⟨⟨has, by simp [hac]⟩, (n, b), (mem_entries _ _ _).mpr hb, ⟨⟨⟨⟨hni, hbs⟩, by rw [hbc, hac]⟩, hpos⟩, hlater⟩⟩
    have hpe : r'.position = r.position := by rw [← hp, ← hp', hpos]
    rcases writtenLater_or (a := l.stringNumber k) (b := l.stringNumber j) (Ne.symm hne) with hl' | hl'
    · rw [later hr hr' hrc hrc' hpe hns hns' (Ne.symm hne) hl'] at hout; cases hout
    · rw [later hr' hr hrc' hrc hpe.symm hns' hns hne hl'] at hout'; cases hout'

end Sys2Proof.Machine

namespace Sys2Proof.Machine

/-! ## What changes permits, notices and their causes alone -/

/-- The state `t` with the permits, the notices, PERMIT CHANGED and the dirty queue of `s`. -/
def State.withPermitsOf (t s : State) : State :=
  { t with
    permits := s.permits, cabinets := s.cabinets, link := { t.link with nextSerial := s.link.nextSerial }
    attention := { t.attention with permitChanged := s.attention.permitChanged }
    store := { t.store with queue := s.store.queue } }

/-- `t` differs from `s` in permits, notices, PERMIT CHANGED and dirty queue alone. -/
structure State.PermitFrame (s t : State) : Prop where
  rest : t.withPermitsOf s = s
  serial : s.link.nextSerial ≤ t.link.nextSerial
  notices : ∀ c, ∃ f : Option Posting → Option Posting,
    t.cabinet? c = (s.cabinet? c).map (fun x => { x with notice := f x.notice })

theorem State.PermitFrame.refl (s : State) : s.PermitFrame s := ⟨rfl, le_rfl, fun c => ⟨id, by simp⟩⟩

theorem State.PermitFrame.trans {s t u : State} (h : s.PermitFrame t) (g : t.PermitFrame u) : s.PermitFrame u := by
  refine ⟨?_, h.serial.trans g.serial, fun c => ?_⟩
  · calc u.withPermitsOf s = (u.withPermitsOf t).withPermitsOf s := rfl
      _ = t.withPermitsOf s := by rw [g.rest]
      _ = s := h.rest
  · obtain ⟨f, hf⟩ := h.notices c
    obtain ⟨f', hf'⟩ := g.notices c
    exact ⟨f' ∘ f, by rw [hf', hf]; simp [Function.comp_def]⟩

section
variable {s t : State} (h : s.PermitFrame t)
include h

theorem State.PermitFrame.phase : t.phase = s.phase := (congrArg State.phase h.rest :)
theorem State.PermitFrame.floor : t.floor = s.floor := (congrArg State.floor h.rest :)
theorem State.PermitFrame.profiles : t.profiles = s.profiles := (congrArg State.profiles h.rest :)
theorem State.PermitFrame.strings : t.strings = s.strings := (congrArg State.strings h.rest :)
theorem State.PermitFrame.groups : t.groups = s.groups := (congrArg State.groups h.rest :)
theorem State.PermitFrame.ask : t.ask = s.ask := (congrArg State.ask h.rest :)
theorem State.PermitFrame.visits : t.visits = s.visits := (congrArg State.visits h.rest :)
theorem State.PermitFrame.port : t.port = s.port := (congrArg State.port h.rest :)
theorem State.PermitFrame.link : { t.link with nextSerial := s.link.nextSerial } = s.link := (congrArg State.link h.rest :)
theorem State.PermitFrame.attention : { t.attention with permitChanged := s.attention.permitChanged } = s.attention :=
  (congrArg State.attention h.rest :)
theorem State.PermitFrame.images : t.store.images = s.store.images := (congrArg (fun u => u.store.images) h.rest :)
theorem State.PermitFrame.writer : t.store.writer = s.store.writer := (congrArg (fun u => u.store.writer) h.rest :)

theorem State.PermitFrame.present (c : Nat) : (t.cabinet? c).isSome = (s.cabinet? c).isSome := by
  obtain ⟨f, hf⟩ := h.notices c
  rw [hf, Option.isSome_map]

end

theorem State.permitFrame_setPermit (s : State) (k : Nat) (p : Option Permit) : s.PermitFrame (s.setPermit k p) :=
  ⟨rfl, le_rfl, fun c => ⟨id, by simp [State.cabinet?]⟩⟩

theorem State.permitFrame_checkpoint (s : State) (i : ImageId) : s.PermitFrame (s.checkpoint i) :=
  ⟨rfl, le_rfl, fun c => ⟨id, by simp [State.cabinet?]⟩⟩

theorem State.permitFrame_raiseChanged (s : State) (k : Nat) : s.PermitFrame (s.attend (raisePermitChanged k)) :=
  ⟨rfl, le_rfl, fun c => ⟨id, by simp [State.cabinet?]⟩⟩

/-- What the entries read after one entry was replaced by a changed one. -/
theorem tget_tset_map {α : Type} {t : List (Option α)} {c : Nat} {x : α} (h : tget t c = some x) (f : α → α) (d : Nat) :
    tget (tset t c (some (f x))) d = (tget t d).map (fun y => if d = c then f y else y) := by
  rw [tget_tset_of_some t c d x _ h]
  by_cases hd : d = c
  · subst hd; simp [h]
  · simp [hd]

theorem State.permitFrame_post (s : State) (c : Nat) (n : Notice) : s.PermitFrame (s.post c n) := by
  cases hx : s.cabinet? c with
  | none => rw [State.post_absent _ _ _ hx]; exact .refl s
  | some x =>
    rw [State.post_present _ _ _ x hx]
    refine ⟨rfl, Nat.le_succ _, fun d => ?_⟩
    refine ⟨fun o => if d = c then some { notice := n, serial := s.link.nextSerial } else o, ?_⟩
    refine (tget_tset_map hx (fun y => { y with notice := some { notice := n, serial := s.link.nextSerial } }) d).trans ?_
    refine Option.map_congr fun y _ => ?_
    split <;> rfl

theorem State.PermitFrame.post {s t : State} (h : s.PermitFrame t) (c : Nat) (n : Notice) : s.PermitFrame (t.post c n) :=
  h.trans (t.permitFrame_post c n)
theorem State.PermitFrame.setPermit {s t : State} (h : s.PermitFrame t) (k : Nat) (p : Option Permit) :
    s.PermitFrame (t.setPermit k p) := h.trans (t.permitFrame_setPermit k p)
theorem State.PermitFrame.checkpoint {s t : State} (h : s.PermitFrame t) (id : ImageId) : s.PermitFrame (t.checkpoint id) :=
  h.trans (t.permitFrame_checkpoint id)
theorem State.PermitFrame.raiseChanged {s t : State} (h : s.PermitFrame t) (k : Nat) :
    s.PermitFrame (t.attend (raisePermitChanged k)) := h.trans (t.permitFrame_raiseChanged k)
theorem State.PermitFrame.freePermit {s t : State} (h : s.PermitFrame t) (k : Nat) : s.PermitFrame (t.freePermit k) :=
  (h.setPermit k none).checkpoint _

theorem State.PermitFrame.closePermit {s t : State} (h : s.PermitFrame t) (k : Nat) : s.PermitFrame (t.closePermit k) := by
  unfold State.closePermit
  split
  · exact h
  · split
    · exact (h.post _ _).freePermit k
    · exact h.freePermit k

theorem State.PermitFrame.closeRaising {s t : State} (h : s.PermitFrame t) (k : Nat) : s.PermitFrame (t.closeRaising k) :=
  (h.closePermit k).raiseChanged k

/-- A posting leaves the permits as they are. -/
@[simp] theorem State.post_permits (c : Nat) (n : Notice) (s : State) : (s.post c n).permits = s.permits := by
  unfold State.post
  split <;> rfl

/-- What a slot of the Permit Table reads once an occupied one was freed or rewritten. -/
theorem State.setPermit_permit? {s : State} {k : Nat} {p : Permit} (h : s.permit? k = some p) (q : Option Permit) (j : Nat) :
    (s.setPermit k q).permit? j = if j = k then q else s.permit? j := tget_tset_of_some _ _ _ _ _ h

/-- A close frees its slot and leaves every other. -/
theorem State.closePermit_permit? {s : State} {k : Nat} {p : Permit} (h : s.permit? k = some p) (j : Nat) :
    (s.closePermit k).permit? j = if j = k then none else s.permit? j := by
  rw [State.closePermit_standing k s p h]
  have key : ∀ u : State, u.permits = s.permits → (u.freePermit k).permit? j = if j = k then none else s.permit? j := by
    intro u hu
    show tget (tset u.permits k none) j = _
    rw [hu]; exact tget_tset_of_some _ _ _ _ _ h
  split
  · exact key _ (State.post_permits _ _ _)
  · exact key _ rfl

/-! ## Step 5 of a start: the permits -/

/-- What the first pass leaves of the permit `p` in slot `k` (R173). -/
def State.undoubled (l : State) (k : Nat) (p : Permit) : Option Permit := if l.permitOutdated k p = true then none else some p

theorem State.dropDuplicate_pass (s : State) (hs : s.Sized) :
    s.PermitFrame ((numbers Config.permitCount).foldl (State.dropDuplicate s) s) ∧
    ∀ k, ((numbers Config.permitCount).foldl (State.dropDuplicate s) s).permit? k = (s.permit? k).bind (s.undoubled k) := by
  suffices hP : s.PermitFrame ((numbers Config.permitCount).foldl (State.dropDuplicate s) s) ∧ ∀ k,
      ((numbers Config.permitCount).foldl (State.dropDuplicate s) s).permit? k =
        if k ≤ Config.permitCount then (s.permit? k).bind (s.undoubled k) else s.permit? k by
    refine ⟨hP.1, fun k => (hP.2 k).trans ?_⟩
    split
    · rfl
    · rename_i hk
      cases hp : s.permit? k with
      | none => rfl
      | some p =>
        have := tget_some _ _ _ hp
        rw [hs.permits] at this
        exact absurd this.2 hk
  refine foldl_numbers (P := fun n t => s.PermitFrame t ∧ ∀ k, t.permit? k =
    if k ≤ n then (s.permit? k).bind (s.undoubled k) else s.permit? k) _ ⟨.refl s, fun k => ?_⟩ fun n t _ ⟨hf, hp⟩ => ?_
  · split
    · rw [show k = 0 by omega]; rfl
    · rfl
  · have hn : t.permit? (n + 1) = s.permit? (n + 1) := by rw [hp, if_neg (by omega)]
    have hle : ∀ k, k ≠ n + 1 → ((k ≤ n + 1) = (k ≤ n)) := fun k hk => by simp only [eq_iff_iff]; omega
    unfold State.dropDuplicate
    cases hs1 : s.permit? (n + 1) with
    | none =>
      refine ⟨hf, fun k => ?_⟩
      by_cases hk : k = n + 1
      · subst hk; simp [hn, hs1]
      · simp only [hp, hle k hk]
    | some p =>
      dsimp only
      split
      · rename_i hout
        refine ⟨(hf.freePermit _).raiseChanged _, fun k => ?_⟩
        refine (State.setPermit_permit? (hn.trans hs1) none k).trans ?_
        by_cases hk : k = n + 1
        · subst hk; simp [hs1, State.undoubled, hout]
        · simp only [if_neg hk, hp, hle k hk]
      · rename_i hout
        refine ⟨hf, fun k => ?_⟩
        by_cases hk : k = n + 1
        · subst hk; simp [hn, hs1, State.undoubled, hout]
        · simp only [hp, hle k hk]

/-- What the second pass makes of a permit (R137, R173). -/
def State.restoredPermit (s : State) (p : Permit) : Option Permit :=
  if (s.cabinet? p.cabinet).isNone = true then none
  else if p.state = .granted ∧ s.floor.utility ≠ .present then none
  else some { p with
    timeout := if p.state = .granted then some s.floor.config.grantTimeout else p.timeout
    visit := if s.visitMissing p.visit = true then none else p.visit }

theorem State.loseVisit_frame (s : State) (k : Nat) : s.PermitFrame (s.loseVisit k) := by
  unfold State.loseVisit
  split
  · exact .refl s
  · split
    · exact ((State.PermitFrame.refl s).setPermit _ _).checkpoint _
    · exact .refl s

theorem State.loseVisit_permit? {s : State} {k : Nat} {p : Permit} (h : s.permit? k = some p) (j : Nat) :
    (s.loseVisit k).permit? j =
      if j = k then some { p with visit := if s.visitMissing p.visit = true then none else p.visit } else s.permit? j := by
  unfold State.loseVisit
  rw [h]
  dsimp only
  split
  · exact State.setPermit_permit? h _ j
  · split
    · subst_vars; exact h
    · rfl

theorem State.restorePermit_spec (s : State) (k : Nat) :
    s.PermitFrame (s.restorePermit k) ∧
    ∀ j, (s.restorePermit k).permit? j = if j = k then (s.permit? k).bind s.restoredPermit else s.permit? j := by
  unfold State.restorePermit
  cases hp : s.permit? k with
  | none =>
    refine ⟨.refl s, fun j => ?_⟩
    dsimp only
    split
    · subst_vars; exact hp
    · rfl
  | some p =>
    dsimp only
    rw [Option.bind_some]
    split
    · rename_i hc
      refine ⟨((State.PermitFrame.refl s).freePermit k).raiseChanged k, fun j => ?_⟩
      rw [State.restoredPermit, if_pos hc]
      exact State.setPermit_permit? hp none j
    · rename_i hc
      split
      · rename_i hg
        split
        · rename_i hu
          have hr : s.restoredPermit p = some { p with
              timeout := some s.floor.config.grantTimeout
              visit := if s.visitMissing p.visit = true then none else p.visit } := by
            rw [State.restoredPermit, if_neg hc, if_neg (fun h => h.2 hu), if_pos hg]
          rw [hr]
          set q : Permit := { p with timeout := some s.floor.config.grantTimeout } with hq
          have hf : s.PermitFrame ((s.setPermit k (some q)).post p.cabinet .grant) :=
            ((State.PermitFrame.refl s).setPermit _ _).post _ _
          have hq1 : ∀ j, ((s.setPermit k (some q)).post p.cabinet .grant).permit? j =
              if j = k then some q else s.permit? j := by
            intro j
            rw [State.permit?, State.post_permits]
            exact State.setPermit_permit? hp _ j
          have hv : ((s.setPermit k (some q)).post p.cabinet .grant).visitMissing = s.visitMissing := by
            unfold State.visitMissing State.visit?
            rw [hf.visits]
          refine ⟨hf.trans (State.loseVisit_frame _ _), fun j => ?_⟩
          rw [State.loseVisit_permit? ((hq1 k).trans (if_pos rfl)), hq1, hv]
          split <;> rfl
        · rename_i hu
          refine ⟨(State.PermitFrame.refl s).closeRaising k, fun j => ?_⟩
          have hr : s.restoredPermit p = none := by rw [State.restoredPermit, if_neg hc, if_pos ⟨hg, hu⟩]
          rw [hr]
          exact State.closePermit_permit? hp j
      · rename_i hg
        have hr : s.restoredPermit p =
            some { p with visit := if s.visitMissing p.visit = true then none else p.visit } := by
          rw [State.restoredPermit, if_neg hc, if_neg (fun h => hg h.1), if_neg hg]
        refine ⟨State.loseVisit_frame s k, fun j => ?_⟩
        rw [hr, State.loseVisit_permit? hp]

theorem State.restoredPermit_frame {s t : State} (h : s.PermitFrame t) : t.restoredPermit = s.restoredPermit := by
  funext p
  have hv : t.visitMissing = s.visitMissing := by unfold State.visitMissing State.visit?; rw [h.visits]
  have hc : (t.cabinet? p.cabinet).isNone = (s.cabinet? p.cabinet).isNone := by
    rw [← Option.not_isSome, ← Option.not_isSome, h.present]
  simp only [State.restoredPermit, hv, hc, h.floor]

/-- Step 5 of a start: the duplicates go, then each permit is restored in its slot (R137, R173). -/
theorem State.restorePermits_spec {s : State} (hs : s.Sized) :
    s.PermitFrame s.restorePermits ∧
    ∀ k, s.restorePermits.permit? k = ((s.permit? k).bind (s.undoubled k)).bind s.restoredPermit := by
  obtain ⟨hf, hp⟩ := s.dropDuplicate_pass hs
  unfold State.restorePermits
  generalize (numbers Config.permitCount).foldl (State.dropDuplicate s) s = d at *
  have key := foldl_numbers (f := State.restorePermit) (s := d) (P := fun n t => d.PermitFrame t ∧ ∀ k, t.permit? k =
      if k ≤ n then (d.permit? k).bind d.restoredPermit else d.permit? k) Config.permitCount ⟨.refl d, fun k => ?_⟩
      fun n t _ ⟨hf, hp⟩ => ?_
  · refine ⟨hf.trans key.1, fun k => ?_⟩
    rw [key.2, hp, State.restoredPermit_frame hf]
    split
    · rfl
    · rename_i hk
      cases hpk : s.permit? k with
      | none => rfl
      | some p =>
        have := tget_some _ _ _ hpk
        rw [hs.permits] at this
        exact absurd this.2 hk
  · split
    · rw [show k = 0 by omega]; rfl
    · rfl
  · obtain ⟨hf', hp'⟩ := t.restorePermit_spec (n + 1)
    refine ⟨hf.trans hf', fun k => ?_⟩
    rw [hp']
    by_cases hk : k = n + 1
    · subst hk
      rw [if_pos rfl, if_pos le_rfl, hp, if_neg (by omega), State.restoredPermit_frame hf]
    · rw [if_neg hk, hp]
      simp only [show (k ≤ n + 1) = (k ≤ n) by simp only [eq_iff_iff]; omega]

/-- After step 5 no two permits name one cabinet and each names a Present one (R110, R173). -/
theorem State.restorePermits_distinct {s : State} (hs : s.Sized) (ha : s.ask = none) : s.restorePermits.PermitsDistinct := by
  obtain ⟨hf, hp⟩ := State.restorePermits_spec hs
  have read : ∀ k q, s.restorePermits.permit? k = some q → ∃ p, s.permit? k = some p ∧ s.permitOutdated k p = false ∧
      q.cabinet = p.cabinet ∧ (s.cabinet? p.cabinet).isSome = true := by
    intro k q hq
    rw [hp] at hq
    obtain ⟨p', hp', hq⟩ := Option.bind_eq_some_iff.mp hq
    obtain ⟨p, hpk, hu⟩ := Option.bind_eq_some_iff.mp hp'
    unfold State.undoubled at hu
    split at hu
    · cases hu
    · rename_i ho
      cases hu
      unfold State.restoredPermit at hq
      split at hq
      · cases hq
      · rename_i hc
        split at hq
        · cases hq
        · cases hq
          exact ⟨p', hpk, by simpa using ho, rfl, by simpa using Option.isSome_iff_ne_none.mpr (by simpa using hc)⟩
  have hask : s.restorePermits.ask = none := hf.ask.trans ha
  refine ⟨fun j k p q hj hk hpq => ?_, fun a h => ?_, fun k q hk => ?_, fun a h => ?_⟩
  · obtain ⟨p', hp', hop, ep, -⟩ := read j p hj
    obtain ⟨q', hq', hoq, eq, -⟩ := read k q hk
    have hc : p'.cabinet = q'.cabinet := by rw [← ep, ← eq, hpq]
    by_contra hne
    have later : ∀ {i n : Nat} {a b : Permit}, s.permit? n = some b → b.cabinet = a.cabinet → n ≠ i →
        writtenLater (s.permitNumber n) n (s.permitNumber i) i = true → s.permitOutdated i a = true := by
      intro i n a b hb hcab hni hl
      simp only [State.permitOutdated, List.any_eq_true, Bool.and_eq_true, bne_iff_ne, beq_iff_eq]
      exact ⟨(n, b), (mem_entries _ _ _).mpr hb, ⟨hni, hcab⟩, hl⟩
    rcases writtenLater_or (a := s.permitNumber k) (b := s.permitNumber j) (Ne.symm hne) with hl | hl
    · rw [later hq' hc.symm (Ne.symm hne) hl] at hop; cases hop
    · rw [later hp' hc hne hl] at hoq; cases hoq
  · rw [hask] at h; cases h
  · obtain ⟨p, -, -, e, hc⟩ := read k q hk
    rw [e, hf.present]; exact hc
  · rw [hask] at h; cases h

end Sys2Proof.Machine

namespace Sys2Proof.Machine

/-! ## The end of a start as a chain of changes -/

theorem Moves.judgeFirst {s t : State} (h : Moves s t) : Moves s t.judgeFirst := by
  have h1 : Moves s { t with floor := { t.floor with utility := t.floor.firstJudgement } } :=
    h.quiet ⟨rfl, rfl, rfl, rfl, rfl, rfl, rfl, rfl, .inl rfl, rfl, id⟩
  unfold State.judgeFirst
  dsimp only
  split
  · exact h1
  · exact h1.attend _

theorem Moves.dropPermit {s t : State} (h : Moves s t) (k : Nat) : Moves s (t.dropPermit k) := (h.freePermit k).attend _

theorem Moves.loseVisit {s t : State} (h : Moves s t) (k : Nat) : Moves s (t.loseVisit k) := by
  unfold State.loseVisit
  split
  · exact h
  · rename_i p hp
    split
    · refine Moves.checkpoint (h.setPermit _ hp ?_) _
      rfl
    · exact h

theorem Moves.restorePermit {s t : State} (h : Moves s t) (k : Nat) : Moves s (t.restorePermit k) := by
  unfold State.restorePermit
  split
  · exact h
  · rename_i p hp
    split
    · exact h.dropPermit k
    · split
      · split
        · refine ((h.setPermit _ hp ?_).post _ _).loseVisit k
          rfl
        · exact h.closeRaising k
      · exact h.loseVisit k

theorem Moves.restorePermits {s t : State} (h : Moves s t) : Moves s t.restorePermits := by
  refine (h.trans (Moves.foldl (f := State.dropDuplicate t) _ (fun k _ u => ?_) t)).trans
    (Moves.foldl _ (fun k _ _ => Moves.refl.restorePermit k) _)
  unfold State.dropDuplicate
  split
  · exact .refl
  · split
    · exact Moves.refl.dropPermit k
    · exact .refl

theorem Moves.holdTargetOf {s t : State} (h : Moves s t) (v : Nat) (hv : 1 ≤ v ∧ v ≤ 4) (it : Item) :
    Moves s (State.holdTargetOf v t it) := by
  unfold State.holdTargetOf
  split
  · refine h.workOn_loosens _ _ (fun _ w _ => holdTarget_loosens v w hv) fun _ w => (holdTarget_loosens v w hv).keeps
  · exact h

theorem Moves.restoreVisit {s t : State} (h : Moves s t) (v : Nat) (hv : 1 ≤ v ∧ v ≤ 4) : Moves s (t.restoreVisit v) := by
  unfold State.restoreVisit
  split
  · exact h
  · rename_i x _
    dsimp only
    refine Moves.trans ?_ (Moves.foldl (f := State.holdTargetOf v) _ (fun it _ _ => Moves.refl.holdTargetOf v hv it) _)
    have h1 : Moves s (if x.items.map (t.restoredItem v) = x.items then t else
        (t.setVisit v (some { x with items := x.items.map (t.restoredItem v) })).checkpoint (visitImage v)) := by
      split
      · exact h
      · exact (h.setVisit _ _).checkpoint _
    split
    · exact h1.attend _
    · exact h1

theorem Moves.settleString {s t : State} (h : Moves s t) (k : Nat) : Moves s (t.settleString k) := by
  unfold State.settleString
  split
  · exact h
  · split
    · exact h.workOn_loosens _ _ (fun p w _ => fromRetiring_loosens p w) fun p w => (fromRetiring_loosens p w).keeps
    · split
      · exact h.workOn_loosens _ _ (fun _ w _ => loseOwner_loosens w) fun _ w => (loseOwner_loosens w).keeps
      · exact h

theorem Moves.restoreVisits {s t : State} (h : Moves s t) : Moves s t.restoreVisits :=
  (h.trans (Moves.foldl _ (fun v hv _ => Moves.refl.restoreVisit v ((mem_numbers _ _).mp hv)) t)).trans
    (Moves.foldl _ (fun k _ _ => Moves.refl.settleString k) _)

theorem Moves.closeStoredEvents {s t : State} (h : Moves s t) : Moves s t.closeStoredEvents :=
  h.trans (Moves.foldl (f := State.closeStored) _ (fun k _ _ => Moves.refl.workOn_sound k _ closeEvent_sound) t)

/-- Steps 4 to 9 of a start, up to the port's going to Idle (R172 to R175). -/
def State.nearlyStarted (s : State) : State :=
  (s.judgeFirst.restorePermits.restoreVisits.closeStoredEvents.firstBreak).recompute

theorem State.finishStartUp_eq (s : State) : s.finishStartUp = s.nearlyStarted.endStartUp.deliverHeldTick.takeUrgent := rfl

theorem State.moves_nearlyStarted (s : State) : Moves s s.nearlyStarted :=
  (Moves.refl.judgeFirst.restorePermits.restoreVisits.closeStoredEvents.link _).recompute

theorem Moves.deliverHeldTick {s t : State} (h : Moves s t) : Moves s t.deliverHeldTick := by
  unfold State.deliverHeldTick
  split
  · refine Moves.tick (h.quiet ?_)
    exact ⟨rfl, rfl, rfl, rfl, rfl, rfl, rfl, rfl, .inl rfl, rfl, id⟩
  · exact h

/-- An invariant that elementary changes keep, and the end of a start with them, holds after the first judgement. -/
theorem State.finishStartUp_keeps {P : State → Prop} (hP : ∀ s t, Move s t → P s → P t) {s : State} (hs : P s)
    (he : P s.nearlyStarted → P s.nearlyStarted.endStartUp) : P s.finishStartUp := by
  rw [State.finishStartUp_eq]
  exact (Moves.refl.deliverHeldTick.takeUrgent).keep hP (he ((s.moves_nearlyStarted).keep hP hs))

/-! ## What a step can do -/

/-- Working memory with no record in it: what a loss of power and an assertion of RESET leave (log 12). -/
structure State.Blanked (s t : State) : Prop where
  phase : t.phase ≠ .running
  config : t.floor.config = FloorConfig.default
  cabinets : t.cabinets = List.replicate Config.cabinetCount none
  profiles : t.profiles = List.replicate Config.profileCount none
  strings : t.strings = List.replicate Config.stringCount none
  groups : t.groups.length = Config.groupCount
  permits : t.permits = List.replicate Config.permitCount none
  visits : t.visits = List.replicate Config.visitCount none
  ask : t.ask = none
  images : s.store.images.Sized → t.store.images.Sized

theorem State.losePower_blanked (s : State) : s.Blanked s.losePower := by
  refine ⟨by simp [State.losePower, State.blank], rfl, rfl, rfl, rfl, by simp [State.losePower, State.blank], rfl, rfl, rfl,
    fun h => ?_⟩
  show (s.imagesAfterLoss).Sized
  unfold State.imagesAfterLoss
  split
  · exact h
  · exact putImage_sized _ _ _ _ _ h

theorem State.enterReset_blanked (o : WriteOutcome) (s : State) : s.Blanked (s.enterReset o) :=
  ⟨by simp, rfl, rfl, rfl, rfl, by simp [State.enterReset, State.blank], rfl, rfl, rfl, id⟩

theorem State.completeWrite_images (s : State) (h : s.store.images.Sized) : s.completeWrite.store.images.Sized := by
  unfold State.completeWrite State.endResetWrite
  split
  · exact h
  · exact endWrite_sized h _ _

/-- What one command does: a chain of elementary changes, a blanking, a start, or the end of a start. -/
inductive Effect (s : State) : State → Prop where
  | moves {t : State} (h : Moves s t) : Effect s t
  | blanked {t : State} (h : s.Blanked t) : Effect s t
  | started (u : State) (cause : StartCause) (h : s.store.images.Sized → u.store.images.Sized) : Effect s (u.start cause)
  | finished (hr : s.phase = .running) (hp : s.port.state = .starting) : Effect s s.finishStartUp

/-- Every command completes, with one of these effects. -/
theorem exec_effect (i : Instr) (s : State) : ∃ t, exec i s = .next t ∧ Effect s t := by
  have req : ∀ {code need f} {handle : List Byte → State → State × Answer},
      (∀ b u, u.port.state = .idle → Handled u (handle b u)) → Effect s (s.takeRequest code need f handle) :=
    fun hh => .moves (Moves.refl.takeRequest _ _ _ hh)
  cases i with
  | floorRead f => exact ⟨_, rfl, req fun b _ hi => floorRead_handled hi b⟩
  | floorConfigWrite f => exact ⟨_, rfl, req fun b _ hi => floorConfigWrite_handled hi b⟩
  | clockSet f => exact ⟨_, rfl, req fun b _ hi => clockSet_handled hi b⟩
  | attentionRead f => exact ⟨_, rfl, req fun b _ hi => attentionRead_handled hi b⟩
  | cabinetSet f => exact ⟨_, rfl, req fun b _ hi => cabinetSet_handled hi b⟩
  | cabinetDrop f => exact ⟨_, rfl, req fun b _ hi => cabinetDrop_handled hi b⟩
  | cabinetRead f => exact ⟨_, rfl, req fun b _ hi => cabinetRead_handled hi b⟩
  | profileWrite f => exact ⟨_, rfl, req fun b _ hi => profileWrite_handled hi b⟩
  | profileRead f => exact ⟨_, rfl, req fun b _ hi => profileRead_handled hi b⟩
  | stringCommission f => exact ⟨_, rfl, req fun b _ hi => stringCommission_handled hi b⟩
  | stringRead f => exact ⟨_, rfl, req fun b _ hi => stringRead_handled hi b⟩
  | stringPulse f => exact ⟨_, rfl, req fun b _ hi => stringPulse_handled hi b⟩
  | stringDrop f => exact ⟨_, rfl, req fun b _ hi => stringDrop_handled hi b⟩
  | permitAsk f => exact ⟨_, rfl, req fun b _ hi => permitAsk_handled hi b⟩
  | permitRead f => exact ⟨_, rfl, req fun b _ hi => permitRead_handled hi b⟩
  | permitRecall f => exact ⟨_, rfl, req fun b _ hi => permitRecall_handled hi b⟩
  | permitCancel f => exact ⟨_, rfl, req fun b _ hi => permitCancel_handled hi b⟩
  | visitOpen f => exact ⟨_, rfl, req fun b _ hi => visitOpen_handled hi b⟩
  | visitAdd f => exact ⟨_, rfl, req fun b _ hi => visitAdd_handled hi b⟩
  | visitStart f => exact ⟨_, rfl, req fun b _ hi => visitStart_handled hi b⟩
  | visitFinish f => exact ⟨_, rfl, req fun b _ hi => visitFinish_handled hi b⟩
  | visitAbandon f => exact ⟨_, rfl, req fun b _ hi => visitAbandon_handled hi b⟩
  | visitClose f => exact ⟨_, rfl, req fun b _ hi => visitClose_handled hi b⟩
  | visitRead f => exact ⟨_, rfl, req fun b _ hi => visitRead_handled hi b⟩
  | unknownRequest code f =>
    refine ⟨_, rfl, .moves (Moves.refl.frameEvent _ _ _ fun _ u => ?_)⟩
    unfold State.judgeUnknown
    split
    · rename_i hi
      exact Moves.refl.clearOverrun.reply (.inl (by rw [State.clearOverrun_port, hi])) _ _ _
    · exact Moves.refl.discardRequest
    · exact Moves.refl.discardRequest
    · exact Moves.refl.discardRequest
  | statusPeek b => exact ⟨_, rfl, .moves (Moves.refl.frameEvent _ _ _ fun _ _ => .refl)⟩
  | disregardedFrame b rest => exact ⟨_, rfl, .moves (Moves.refl.frameEvent _ _ _ fun _ _ => .refl)⟩
  | fetch rest =>
    refine ⟨_, rfl, .moves (Moves.refl.frameEvent _ _ _ fun _ u => ?_)⟩
    unfold State.judgeFetch
    split
    · rename_i hp _
      split
      · exact Moves.refl.tail (.port _ (.inr ⟨.inr hp, .inl rfl⟩))
      · exact .refl
    · exact .refl
  | urgent order rest =>
    refine ⟨_, rfl, .moves (Moves.refl.frameEvent _ _ _ fun _ u => ?_)⟩
    unfold State.placeOrder
    split
    · exact .refl
    · exact Moves.refl.port _ rfl
  | urgentCancel rest =>
    refine ⟨_, rfl, .moves (Moves.refl.frameEvent _ _ _ fun _ u => ?_)⟩
    unfold State.cancelOrder
    split
    · exact Moves.refl.port _ rfl
    · exact Moves.refl.port _ rfl
  | portReset rest => exact ⟨_, rfl, .moves (Moves.refl.frameEvent _ _ _ fun _ _ => Moves.refl.tail .portReset)⟩
  | pollSlot orderFirst =>
    refine ⟨_, rfl, .moves ?_⟩
    split
    · split
      · exact Moves.refl.takeUrgent.formPoll
      · exact Moves.refl.formPoll.takeUrgent
    · exact .refl
  | breakSlot =>
    refine ⟨_, rfl, .moves ?_⟩
    split
    · exact (Moves.refl.link _).takeUrgent
    · exact .refl
  | idleSlot =>
    refine ⟨_, rfl, .moves ?_⟩
    split
    · exact (Moves.refl.link _).takeUrgent
    · exact .refl
  | noReply => exact ⟨_, rfl, .moves Moves.refl.pollFails⟩
  | noReplyInTime => exact ⟨_, rfl, .moves Moves.refl.pollFails⟩
  | replyEnd chars => exact ⟨_, rfl, .moves (Moves.refl.takeReply _)⟩
  | askWaitEnd => exact ⟨_, rfl, .moves Moves.refl.judgeIfSettled⟩
  | askEarlyEnd =>
    refine ⟨_, rfl, .moves ?_⟩
    split
    · exact .refl
    · split
      · exact .refl
      · exact Moves.refl.endAsk _
  | minuteTick =>
    refine ⟨_, rfl, .moves ?_⟩
    split
    · split
      · exact Moves.refl.tick
      · exact Moves.refl.quiet ⟨rfl, rfl, rfl, rfl, rfl, rfl, rfl, rfl, .inl rfl, rfl, id⟩
    · exact .refl
    · exact .refl
  | calendarStep slot =>
    refine ⟨_, rfl, .moves ?_⟩
    split
    · exact .refl
    · split
      · exact (Moves.refl.workOn_sound _ _ (countCalendarMinute_sound s)).recompute
      · exact .refl
  | automaticPulse slot =>
    refine ⟨_, rfl, .moves ?_⟩
    split
    · exact .refl
    · rename_i r hr
      split
      · exact .refl
      · rename_i p hp
        split
        · refine Moves.setPulse (Moves.refl.tail (.string slot r _ hr ?_ fun hs => ?_)) _ _
          · exact ⟨.inl rfl, rfl, fun h => .inr h⟩
          have h1 := hs.records.strings slot r hr
          have h2 := (hs.records.profiles _ p hp).interval
          have h3 := h1.sinceR
          exact { h1 with sinceR := by simp only [sinceAtPulse]; omega }
        · exact .refl
  | grantTimeout slot =>
    refine ⟨_, rfl, .moves ?_⟩
    split
    · exact .refl
    · split
      · exact Moves.refl.expireGrant _
      · exact .refl
  | permitOverdue slot =>
    refine ⟨_, rfl, .moves ?_⟩
    split
    · exact .refl
    · split
      · exact Moves.refl.makeOverdue ‹_›
      · exact .refl
  | visitOvertime slot =>
    refine ⟨_, rfl, .moves ?_⟩
    split
    · exact .refl
    · split
      · exact Moves.refl.makeOvertime _ _
      · exact .refl
  | utilitySenseEdge high =>
    refine ⟨_, rfl, .moves ?_⟩
    split
    · exact .refl
    · exact Moves.refl.quiet ⟨rfl, rfl, rfl, rfl, rfl, rfl, rfl, rfl, .inl rfl, rfl, id⟩
  | utilityChange => exact ⟨_, rfl, .moves (Moves.refl.passTime _)⟩
  | storeWriteBegin =>
    refine ⟨_, rfl, .moves ?_⟩
    split
    · exact Moves.refl.quiet ⟨rfl, rfl, rfl, rfl, rfl, rfl, rfl, rfl, .inl rfl, rfl, fun h => h⟩
    · exact .refl
  | storeWriteEnd o =>
    refine ⟨_, rfl, .moves ?_⟩
    split
    · exact Moves.refl.endRunningWrite o
    · exact Moves.refl.endResetWrite o
    · exact .refl
  | powerOn =>
    refine ⟨_, rfl, ?_⟩
    split
    · exact .started s _ id
    · exact .started s.losePower _ s.losePower_blanked.images
    · exact .started s.losePower _ s.losePower_blanked.images
  | powerLoss =>
    refine ⟨_, rfl, ?_⟩
    split
    · exact .moves .refl
    · exact .blanked s.losePower_blanked
    · exact .blanked s.losePower_blanked
  | resetAssert o =>
    refine ⟨_, rfl, ?_⟩
    split
    · exact .blanked (s.enterReset_blanked o)
    · exact .moves .refl
    · exact .moves .refl
  | resetLine =>
    refine ⟨_, rfl, ?_⟩
    split
    · exact .moves .refl
    · exact .started s.completeWrite _ s.completeWrite_images
    · exact .started (s.enterReset .matched).completeWrite _ (s.enterReset .matched).completeWrite_images
  | firstUtilityJudgement =>
    refine ⟨_, rfl, ?_⟩
    split
    · exact .finished ‹_› ‹_›
    · exact .moves .refl
  | floorClockSecond =>
    refine ⟨_, rfl, .moves ?_⟩
    split
    · exact .refl
    · exact Moves.refl.quiet ⟨rfl, rfl, rfl, rfl, rfl, rfl, rfl, rfl, .inl rfl, rfl, id⟩
    · exact Moves.refl.quiet ⟨rfl, rfl, rfl, rfl, rfl, rfl, rfl, rfl, .inl rfl, rfl, id⟩
  | chipSelectAssertion =>
    refine ⟨_, rfl, .moves ?_⟩
    split
    · exact Moves.refl.port _ rfl
    · exact .refl
    · exact .refl

/-- An invariant of the machine: kept by the taking of a command from the queue, by every elementary change, and by the other
effects of a command. -/
theorem step_keeps {P : State → Prop} (hP : ∀ s t, Move s t → P s → P t)
    (hE : ∀ s t, Effect s t → P s → P t) {s t : State} (hs : P s) (h : step s = .next t) : P t := by
  unfold step at h
  split at h
  · cases h
    exact (Moves.refl.passTime 1).keep hP hs
  · rename_i c rest _
    obtain ⟨u, hu, he⟩ := exec_effect c { s with pending := rest }
    cases hu.symm.trans h
    refine hE _ _ he (hP _ _ (.quiet ?_) hs)
    exact ⟨rfl, rfl, rfl, rfl, rfl, rfl, rfl, rfl, .inl rfl, rfl, id⟩

/-! ## The invariants along a step -/

theorem State.Blanked.sized {s t : State} (h : s.Blanked t) (hs : s.Sized) : t.Sized :=
  ⟨by simp [h.cabinets], by simp [h.profiles], by simp [h.strings], h.groups, by simp [h.permits], by simp [h.visits],
    h.images hs.images⟩

theorem tget_replicate_none {α : Type} (n k : Nat) : tget (List.replicate n (none : Option α)) k = none := by
  cases k with
  | zero => rfl
  | succ k => simp only [tget, List.getElem?_replicate]; split <;> rfl

theorem State.Blanked.inRanges {s t : State} (h : s.Blanked t) (hs : s.Sized) : t.InRanges := by
  refine ⟨h.sized hs, ⟨h.config ▸ FloorConfig.default_inRange, fun c x hx => ?_⟩, ⟨fun n p hp => ?_, fun k r hr => ?_⟩⟩
  · rw [State.cabinet?, h.cabinets, tget_replicate_none] at hx; cases hx
  · rw [State.profile?, h.profiles, tget_replicate_none] at hp; cases hp
  · rw [State.string?, h.strings, tget_replicate_none] at hr; cases hr

theorem State.Blanked.stringsPlaced {s t : State} (h : s.Blanked t) : t.StringsPlaced := by
  have hno : ∀ k r, t.string? k ≠ some r := by
    intro k r hr
    rw [State.string?, h.strings, tget_replicate_none] at hr; cases hr
  exact ⟨fun k r hr => absurd hr (hno k r), fun k r hr => absurd hr (hno k r), fun k r _ hr => absurd hr (hno k r),
    fun j _ q _ _ hq => absurd hq (hno j q)⟩

theorem State.Sized.endStartUp {s : State} (h : s.Sized) : s.endStartUp.Sized :=
  ⟨h.cabinets, h.profiles, h.strings, h.groups, h.permits, h.visits, h.images⟩

theorem State.InRanges.endStartUp {s : State} (h : s.InRanges) : s.endStartUp.InRanges :=
  ⟨h.sized.endStartUp, ⟨h.floor.config, h.floor.cabinets⟩, ⟨h.records.profiles, h.records.strings⟩⟩

theorem State.StringsPlaced.endStartUp {s : State} (h : s.StringsPlaced) : s.endStartUp.StringsPlaced :=
  ⟨h.position, h.retired, h.present, h.single⟩

theorem State.PermitsDistinct.endStartUp {s : State} (h : s.PermitsDistinct) : s.endStartUp.PermitsDistinct :=
  ⟨h.single, h.asked, h.present, h.askPresent⟩

theorem Effect.sized {s t : State} (h : Effect s t) (hs : s.Sized) : t.Sized := by
  cases h with
  | moves h => exact h.keep (fun _ _ m => m.sized) hs
  | blanked h => exact h.sized hs
  | started u cause h => exact (Moves.checkStrings _).keep (fun _ _ m => m.sized) (State.load_sized cause (h hs.images))
  | finished =>
    exact State.finishStartUp_keeps (fun _ _ m => m.sized) hs fun h => h.endStartUp

theorem Effect.inRanges {s t : State} (h : Effect s t) (hs : s.InRanges) : t.InRanges := by
  cases h with
  | moves h => exact h.keep (fun _ _ m => m.inRanges) hs
  | blanked h => exact h.inRanges hs.sized
  | started u cause h => exact (Moves.checkStrings _).keep (fun _ _ m => m.inRanges) (State.load_inRanges cause (h hs.sized.images))
  | finished =>
    exact State.finishStartUp_keeps (fun _ _ m => m.inRanges) hs fun h => h.endStartUp

theorem Effect.stringsPlaced {s t : State} (h : Effect s t) (hz : s.Sized) (hs : s.StringsPlaced) : t.StringsPlaced := by
  cases h with
  | moves h => exact h.keep (fun _ _ m => m.stringsPlaced) hs
  | blanked h => exact h.stringsPlaced
  | started u cause h => exact State.start_stringsPlaced cause (h hz.images)
  | finished =>
    exact State.finishStartUp_keeps (fun _ _ m => m.stringsPlaced) hs fun h => h.endStartUp

/-- While the start-up procedure runs no ask comes to wait. -/
theorem Move.starting {s t : State} (h : Move s t) (hs : s.port.state = .starting ∧ s.ask = none) :
    t.port.state = .starting ∧ t.ask = none := by
  obtain ⟨hp, ha⟩ := hs
  cases h with
  | quiet q =>
    refine ⟨q.portState.trans hp, ?_⟩
    simpa [ha] using q.ask
  | grant a k p r h => rw [ha] at h; cases h
  | endAsk a r h => rw [ha] at h; cases h
  | beginAsk a h => rw [hp] at h; cases h
  | port p h =>
    refine ⟨h.elim (fun e => e.trans hp) fun hc => ?_, ha⟩
    rcases hc.1 with e | e <;> rw [hp] at e <;> cases e
  | portReset => simp [State.portReset, stateAfterPortReset, hp, ha]
  | _ => exact ⟨hp, ha⟩

theorem State.judgeFirst_frame (s : State) : s.judgeFirst.port = s.port ∧ s.judgeFirst.ask = s.ask := by
  unfold State.judgeFirst
  dsimp only
  split <;> exact ⟨rfl, rfl⟩

/-- The port goes to Idle with the permits restored, and no ask waits (R173, R175). -/
theorem State.endStartUp_permitsSound {s : State} (hz : s.Sized) (hp : s.port.state = .starting) (ha : s.ask = none) :
    s.nearlyStarted.ask = none ∧ s.nearlyStarted.PermitsDistinct := by
  obtain ⟨hjp, hja⟩ := s.judgeFirst_frame
  have hjz : s.judgeFirst.Sized := Moves.refl.judgeFirst.keep (fun _ _ m => m.sized) hz
  have hr := State.restorePermits_distinct hjz (hja.trans ha)
  have hf := (State.restorePermits_spec hjz).1
  have hm : Moves s.judgeFirst.restorePermits s.nearlyStarted :=
    (Moves.refl.restoreVisits.closeStoredEvents.link _).recompute
  have hstart : s.judgeFirst.restorePermits.port.state = .starting ∧ s.judgeFirst.restorePermits.ask = none :=
    ⟨(congrArg Port.state (hf.port.trans hjp)).trans hp, (hf.ask.trans hja).trans ha⟩
  have hboth := hm.keep (P := fun u => (u.port.state = .starting ∧ u.ask = none) ∧ u.PermitsDistinct)
    (fun _ _ m h => ⟨m.starting h.1, m.permitsDistinct (fun hw => by simp [h.1.2] at hw) h.2⟩) ⟨hstart, hr⟩
  exact ⟨hboth.1.2, hboth.2⟩

theorem Effect.permitsSound {s t : State} (h : Effect s t) (hz : s.Sized) (hs : s.PermitsSound) : t.PermitsSound := by
  cases h with
  | moves h => exact h.keep (fun _ _ m => m.permitsSound) hs
  | blanked h => exact ⟨fun ha => by simp [h.ask] at ha, fun ho => absurd ((State.operating_eq t).mp ho).1 h.phase⟩
  | started u cause h =>
    refine (Moves.checkStrings _).keep (fun _ _ m => m.permitsSound) ⟨fun ha => ?_, fun ho => ?_⟩
    · simp [State.load] at ha
    · exact absurd rfl ((State.operating_eq _).mp ho).2
  | finished hr hp =>
    have ha : s.ask = none := by
      cases h : s.ask with
      | none => rfl
      | some a => rw [hs.works (by simp [h])] at hp; cases hp
    obtain ⟨hna, hd⟩ := State.endStartUp_permitsSound hz hp ha
    rw [State.finishStartUp_eq]
    exact (Moves.refl.deliverHeldTick.takeUrgent).keep (fun _ _ m => m.permitsSound)
      ⟨fun h => by simp [State.endStartUp, hna] at h, fun _ => hd.endStartUp⟩

end Sys2Proof.Machine

section
open Sys2Proof Sys2Proof.Machine

/-- Settles O5: every elementary change keeps the sizes, and a start takes them from the image tables. -/
theorem stepKeepsTheTableSizes : Obligations.StepKeepsTheTableSizes :=
  fun _ _ hs h => step_keeps (fun _ _ m => m.sized) (fun _ _ e => e.sized) hs h

/-- Settles O9: every stage on a record keeps its ranges, every request clamps what it writes, and a start clamps what it
loads. -/
theorem stepKeepsTheRanges : Obligations.StepKeepsTheRanges := by
  intro s t hz hf hr h
  have ht : t.InRanges := step_keeps (fun _ _ m => m.inRanges) (fun _ _ e => e.inRanges) ⟨hz, hf, hr⟩ h
  exact ⟨ht.floor, ht.records⟩

/-- Settles O13: no elementary change moves a record or frees the cabinet of an attached one, a commission looks for a free
position, and the string check of a start detaches what it finds out of place. -/
theorem stepKeepsStringsPlaced : Obligations.StepKeepsStringsPlaced := by
  intro s t hz hs h
  have ht : t.Sized ∧ t.StringsPlaced := step_keeps (P := fun u => u.Sized ∧ u.StringsPlaced)
    (fun _ _ m hu => ⟨m.sized hu.1, m.stringsPlaced hu.2⟩) (fun _ _ e hu => ⟨e.sized hu.1, e.stringsPlaced hu.1 hu.2⟩) ⟨hz, hs⟩ h
  exact ht.2

/-- Settles O12: an ask is taken for a cabinet that no permit names and granted to that cabinet alone, a cabinet that a permit
names is not dropped, and step 5 of a start drops the duplicates and the permits of Absent cabinets. -/
theorem stepKeepsOnePermitEach : Obligations.StepKeepsOnePermitEach := by
  intro s t hz hp hs h
  have hsound : s.PermitsSound := ⟨hp.working.mpr, (State.onePermitEach_iff s).mp hs⟩
  have ht : t.Sized ∧ t.PermitsSound := step_keeps (P := fun u => u.Sized ∧ u.PermitsSound)
    (fun _ _ m hu => ⟨m.sized hu.1, m.permitsSound hu.2⟩) (fun _ _ e hu => ⟨e.sized hu.1, e.permitsSound hu.1 hu.2⟩)
    ⟨hz, hsound⟩ h
  exact (State.onePermitEach_iff t).mpr ht.2.distinct

end

namespace Sys2Proof.Machine

/-! ## Requests answered by their blocks -/

/-- A request that its block refuses changes the port alone (R182). -/
theorem State.takeRequest_refused {s : State} {need : Nat} {f : RequestFrame} {code : Byte}
    {handle : List Byte → State → State × Answer} {res : ResultCode} (h : s.Takes need f)
    (hh : ∀ p, handle f.body (s.withPort p) = refuse res (s.withPort p)) :
    s.takeRequest code need f handle = { s with port := s.repliedPort f code res [] } :=
  State.takeRequest_now h hh

/-- A request that its block answers DONE without an effect on the records. -/
theorem State.takeRequest_read {s : State} {need : Nat} {f : RequestFrame} {code : Byte}
    {handle : List Byte → State → State × Answer} {body : List Byte} (h : s.Takes need f)
    (hh : ∀ p, handle f.body (s.withPort p) = done body (s.withPort p)) :
    s.takeRequest code need f handle = { s with port := s.repliedPort f code .done body } :=
  State.takeRequest_now h hh

end Sys2Proof.Machine

section
open Sys2Proof Sys2Proof.Machine

/-- Settles O1: a step is defined by the front of the queue. -/
theorem stepRunsTheFrontCommand : Obligations.StepRunsTheFrontCommand := by
  refine ⟨fun _ _ => rfl, fun c rest s h => ?_, fun s h => ?_⟩
  · unfold step; rw [h]
  · unfold step; rw [h]

/-- Settles O19: a four-byte value fits the clock, and the clock counts modulo 2^32. -/
theorem clockSetAndClockSecond : Obligations.ClockSetAndClockSecond := by
  refine ⟨fun f s h => ?_, fun s h => ?_⟩
  · have hv : (BitVec.ofNat 32 (field f.body 0 4)).toNat = field f.body 0 4 := by
      have := field_lt f.body 0 4
      exact Nat.mod_eq_of_lt this
    have ht : s.takeRequest 0x03 4 f clockSet = { s with
        floor := { s.floor with clock := BitVec.ofNat 32 (field f.body 0 4), clockSet := true }
        port := s.repliedPort f 0x03 .done (be4 (BitVec.ofNat 32 (field f.body 0 4)).toNat ++ beFlag true) } :=
      State.takeRequest_now (t := { s with
        floor := { s.floor with clock := BitVec.ofNat 32 (field f.body 0 4), clockSet := true } }) h fun _ => rfl
    rw [hv] at ht
    exact congrArg Host.Outcome.next ht
  · refine ⟨{ s with floor := { s.floor with clock := s.floor.clock + 1 } }, ?_, BitVec.toNat_add _ _, rfl⟩
    show Host.Outcome.next _ = _
    cases hp : s.phase
    · exact absurd hp h
    · rfl
    · rfl

/-- Settles O4: every table of a delivered part is empty, and its groups stand at the values of a start. -/
theorem resetIsAFirstStart : Obligations.ResetIsAFirstStart := by
  have hno : ∀ {α : Type} (n k : Nat) (a : α), tget (List.replicate n none) k ≠ some a := by
    intro α n k a h
    rw [tget_replicate_none] at h; cases h
  have hz : State.reset.Sized := ⟨rfl, rfl, rfl, rfl, rfl, rfl, ⟨rfl, rfl, rfl, rfl, rfl⟩⟩
  refine ⟨rfl, rfl, rfl, rfl, rfl, rfl, rfl, by decide, by decide, by decide, by decide, by decide, rfl, rfl, rfl, rfl, by decide,
    rfl, rfl, by decide, rfl, rfl, rfl, rfl, rfl, rfl, rfl, rfl,
    congrArg Host.Outcome.next (show State.reset.losePower.start .powerOn = _ by decide +kernel), hz, List.nodup_nil,
    ?_, ?_, ?_, ?_, ?_, ?_, ?_, ?_, ?_⟩
  · exact ⟨by decide, fun w h => by cases h⟩
  · exact ⟨by decide, by decide⟩
  · exact ⟨FloorConfig.default_inRange, fun c x h => absurd h (hno _ c x)⟩
  · exact ⟨fun n p h => absurd h (hno _ n p), fun k r h => absurd h (hno _ k r)⟩
  · exact fun h => by cases h
  · exact fun h => by cases h
  · exact fun h => by cases h
  · exact ⟨fun k r h => absurd h (hno _ k r), fun k r h => absurd h (hno _ k r), fun k r _ h => absurd h (hno _ k r),
      fun j _ r _ _ h => absurd h (hno _ j r)⟩
  · exact ⟨fun v _ x _ _ _ _ _ h => absurd h (hno _ v x), fun v x _ h => absurd h (hno _ v x),
      fun k r h => absurd h (hno _ k r)⟩

end

namespace Sys2Proof.Machine

/-! ## A pass over the Permit Table

A loss of the utility, RECALL ALL and the minute tick take the permits in slot order. What each makes of one permit is a
`PermitWork`; what the whole pass leaves follows from it. -/

/-- What an event makes of one permit: what its slot holds then, the notice posted to its cabinet, whether PERMIT CHANGED and PERMIT
OVERDUE are raised for its slot, and whether its image is checkpointed. -/
structure PermitWork where
  left : Option Permit
  note : Option Notice
  changed : Bool
  overdue : Bool
  save : Bool

/-- A permit that is left as it stands, or counted down, with nothing to tell. -/
def PermitWork.quiet (p : Permit) : PermitWork :=
  { left := some p, note := none, changed := false, overdue := false, save := false }

/-- A Granted permit that is closed: WITHDRAW, PERMIT CHANGED, the slot free (R126). -/
def PermitWork.close : PermitWork := { left := none, note := some .withdraw, changed := true, overdue := false, save := true }

/-- The state `t` with all of `s` that a pass over the permits can touch. -/
def State.withPassOf (t s : State) : State :=
  { t with
    permits := s.permits, cabinets := s.cabinets, groups := s.groups
    link := { t.link with nextSerial := s.link.nextSerial }
    attention := { t.attention with
      permitChanged := s.attention.permitChanged, permitOverdue := s.attention.permitOverdue
      marginShort := s.attention.marginShort }
    store := { t.store with queue := s.store.queue } }

/-- The work `w` on the permit `p` in slot `k` turns `s` into `t`. -/
structure State.PermitWorked (s t : State) (k : Nat) (p : Permit) (w : PermitWork) : Prop where
  permits : ∀ j, t.permit? j = if j = k then w.left else s.permit? j
  cabinets : ∀ c, t.cabinet? c = (s.cabinet? c).map (fun x =>
    if c = p.cabinet then { x with notice := (w.note.map fun m => { notice := m, serial := s.link.nextSerial }).or x.notice }
    else x)
  serial : s.link.nextSerial ≤ t.link.nextSerial
  changed : ∀ i, i < 8 → t.attention.permitChanged.getLsbD i =
    (s.attention.permitChanged.getLsbD i || (w.changed && decide (i + 1 = k)))
  overdue : ∀ i, i < 8 → t.attention.permitOverdue.getLsbD i =
    (s.attention.permitOverdue.getLsbD i || (w.overdue && decide (i + 1 = k)))
  queue : ∀ id, id ∈ t.store.queue ↔ id ∈ s.store.queue ∨ (w.save = true ∧ id = permitImage k)
  rest : t.withPassOf s = s

/-- The notice that a cabinet holds after a pass: its own, if no permit that names it had one posted, or one that was posted. -/
def State.NoticeAfter (s t : State) (n : Nat) (out : Permit → PermitWork) (c : Nat) : Prop :=
  (t.cabinet? c = s.cabinet? c ∧ ∀ k p, k ≤ n → s.permit? k = some p → p.cabinet = c → (out p).note = none) ∨
  ∃ k p m serial, k ≤ n ∧ s.permit? k = some p ∧ p.cabinet = c ∧ (out p).note = some m ∧ s.link.nextSerial ≤ serial ∧
    t.cabinet? c = (s.cabinet? c).map (fun x => { x with notice := some { notice := m, serial := serial } })

/-- The permits in the slots `1..n` of `s` have gone through `out`. -/
structure State.PermitsPassed (s t : State) (n : Nat) (out : Permit → PermitWork) : Prop where
  permits : ∀ k, t.permit? k = if k ≤ n then (s.permit? k).bind (fun p => (out p).left) else s.permit? k
  notices : ∀ c, s.NoticeAfter t n out c
  serial : s.link.nextSerial ≤ t.link.nextSerial
  changed : ∀ i, i < 8 → t.attention.permitChanged.getLsbD i = (s.attention.permitChanged.getLsbD i ||
    (decide (i < n) && (s.permit? (i + 1)).any (fun p => (out p).changed)))
  overdue : ∀ i, i < 8 → t.attention.permitOverdue.getLsbD i = (s.attention.permitOverdue.getLsbD i ||
    (decide (i < n) && (s.permit? (i + 1)).any (fun p => (out p).overdue)))
  queue : ∀ id, id ∈ t.store.queue ↔ id ∈ s.store.queue ∨
    ∃ k p, k ≤ n ∧ s.permit? k = some p ∧ (out p).save = true ∧ id = permitImage k
  rest : t.withPassOf s = s

theorem State.permitsPassed_zero (s : State) (out : Permit → PermitWork) : s.PermitsPassed s 0 out := by
  have hno : ∀ k p, k ≤ 0 → s.permit? k = some p → False := fun k p hk hp => by
    have := (tget_some _ _ _ hp).1; omega
  refine ⟨fun k => ?_, fun c => .inl ⟨rfl, fun k p hk hp => (hno k p hk hp).elim⟩, le_rfl, fun i _ => by simp, fun i _ => by simp,
    fun id => ?_, rfl⟩
  · split
    · rw [show k = 0 by omega]; rfl
    · rfl
  · exact ⟨.inl, fun h => h.elim (fun hm => hm) fun ⟨k, p, hk, hp, _⟩ => (hno k p hk hp).elim⟩

/-- One slot further, when it is free. -/
theorem State.PermitsPassed.skip {s t : State} {n : Nat} {out : Permit → PermitWork} (h : s.PermitsPassed t n out)
    (hf : s.permit? (n + 1) = none) : s.PermitsPassed t (n + 1) out := by
  have hne : ∀ k p, k ≤ n + 1 → s.permit? k = some p → k ≤ n := fun k p hk hp => by
    by_contra hn
    rw [show k = n + 1 by omega, hf] at hp; cases hp
  refine ⟨fun k => ?_, fun c => ?_, h.serial, fun i hi => ?_, fun i hi => ?_, fun id => ?_, h.rest⟩
  · by_cases hk : k = n + 1
    · subst hk; rw [h.permits, if_neg (by omega), hf, if_pos le_rfl]; rfl
    · rw [h.permits]; simp only [show (k ≤ n + 1) = (k ≤ n) by simp only [eq_iff_iff]; omega]
  · rcases h.notices c with ⟨h1, h2⟩ | ⟨k, p, m, serial, hk, rest⟩
    · exact .inl ⟨h1, fun k p hk hp hc => h2 k p (hne k p hk hp) hp hc⟩
    · exact .inr ⟨k, p, m, serial, by omega, rest⟩
  · rw [h.changed i hi]
    by_cases hk : i = n
    · subst hk; simp [hf]
    · simp only [show (i < n + 1) = (i < n) by simp only [eq_iff_iff]; omega]
  · rw [h.overdue i hi]
    by_cases hk : i = n
    · subst hk; simp [hf]
    · simp only [show (i < n + 1) = (i < n) by simp only [eq_iff_iff]; omega]
  · rw [h.queue]
    refine or_congr_right (exists_congr fun k => exists_congr fun p => ⟨fun ⟨hk, r⟩ => ⟨by omega, r⟩, fun ⟨hk, hp, r⟩ => ?_⟩)
    exact ⟨hne k p hk hp, hp, r⟩

/-- One slot further, when a permit stands in it. -/
theorem State.PermitsPassed.next {s t u : State} {n : Nat} {out : Permit → PermitWork} {p : Permit} (h : s.PermitsPassed t n out)
    (hp : s.permit? (n + 1) = some p) (hw : t.PermitWorked u (n + 1) p (out p)) : s.PermitsPassed u (n + 1) out := by
  refine ⟨fun k => ?_, fun c => ?_, h.serial.trans hw.serial, fun i hi => ?_, fun i hi => ?_, fun id => ?_, ?_⟩
  · rw [hw.permits, h.permits]
    by_cases hk : k = n + 1
    · subst hk; simp [hp]
    · rw [if_neg hk]; simp only [show (k ≤ n + 1) = (k ≤ n) by simp only [eq_iff_iff]; omega]
  · have hu := hw.cabinets c
    by_cases hc : c = p.cabinet
    · cases hm : (out p).note with
      | some m =>
        refine .inr ⟨n + 1, p, m, t.link.nextSerial, le_rfl, hp, hc.symm, hm, h.serial, hu.trans ?_⟩
        rcases h.notices c with ⟨h1, -⟩ | ⟨_, _, _, _, -, -, -, -, -, h1⟩ <;> rw [h1] <;> cases s.cabinet? c <;> simp [hm, hc]
      | none =>
        have hsame : u.cabinet? c = t.cabinet? c := by rw [hu]; cases t.cabinet? c <;> simp [hm]
        rcases h.notices c with ⟨h1, h2⟩ | ⟨k, q, m, serial, hk, hq, hqc, hqm, hs, h1⟩
        · refine .inl ⟨hsame.trans h1, fun k q hk hq hqc => ?_⟩
          by_cases hkn : k = n + 1
          · subst hkn; rw [hp] at hq; cases hq; exact hm
          · exact h2 k q (by omega) hq hqc
        · exact .inr ⟨k, q, m, serial, by omega, hq, hqc, hqm, hs, hsame.trans h1⟩
    · have hsame : u.cabinet? c = t.cabinet? c := by rw [hu]; simp [hc]
      rcases h.notices c with ⟨h1, h2⟩ | ⟨k, q, m, serial, hk, hq, hqc, hqm, hs, h1⟩
      · refine .inl ⟨hsame.trans h1, fun k q hk hq hqc => ?_⟩
        by_cases hkn : k = n + 1
        · subst hkn; rw [hp] at hq; cases hq; exact absurd hqc.symm hc
        · exact h2 k q (by omega) hq hqc
      · exact .inr ⟨k, q, m, serial, by omega, hq, hqc, hqm, hs, hsame.trans h1⟩
  · rw [hw.changed i hi, h.changed i hi]
    by_cases hk : i = n
    · subst hk; simp [hp]
    · simp [hk, show (i < n + 1) = (i < n) by simp only [eq_iff_iff]; omega]
  · rw [hw.overdue i hi, h.overdue i hi]
    by_cases hk : i = n
    · subst hk; simp [hp]
    · simp [hk, show (i < n + 1) = (i < n) by simp only [eq_iff_iff]; omega]
  · rw [hw.queue, h.queue, or_assoc]
    refine or_congr_right ⟨?_, fun ⟨k, q, hk, hq, hs, e⟩ => ?_⟩
    · rintro (⟨k, q, hk, r⟩ | ⟨hs, e⟩)
      · exact ⟨k, q, by omega, r⟩
      · exact ⟨n + 1, p, le_rfl, hp, hs, e⟩
    · by_cases hkn : k = n + 1
      · subst hkn; rw [hp] at hq; cases hq; exact .inr ⟨hs, e⟩
      · exact .inl ⟨k, q, by omega, hq, hs, e⟩
  · calc u.withPassOf s = (u.withPassOf t).withPassOf s := rfl
      _ = s := by rw [hw.rest, h.rest]

/-- A pass that leaves a free slot alone and does `out` to a permit. -/
theorem State.permits_pass {f : State → Nat → State} {out : Permit → PermitWork}
    (hfree : ∀ (t : State) (k : Nat), t.permit? k = none → f t k = t)
    (hwork : ∀ (t : State) (k : Nat) (p : Permit), t.permit? k = some p → t.PermitWorked (f t k) k p (out p)) (s : State) :
    s.PermitsPassed ((numbers Config.permitCount).foldl f s) Config.permitCount out := by
  refine foldl_numbers (P := fun n t => s.PermitsPassed t n out) _ (s.permitsPassed_zero out) fun n t _ h => ?_
  have hn : t.permit? (n + 1) = s.permit? (n + 1) := by rw [h.permits, if_neg (by omega)]
  cases hp : s.permit? (n + 1) with
  | none => rw [hfree t _ (hn.trans hp)]; exact h.skip hp
  | some p => exact h.next hp (hwork t _ p (hn.trans hp))

/-! ### What holds of the rest after a pass -/

section
variable {s t : State} {n : Nat} {out : Permit → PermitWork} (h : s.PermitsPassed t n out)
include h

theorem State.PermitsPassed.phase : t.phase = s.phase := (congrArg State.phase h.rest :)
theorem State.PermitsPassed.floor : t.floor = s.floor := (congrArg State.floor h.rest :)
theorem State.PermitsPassed.profiles : t.profiles = s.profiles := (congrArg State.profiles h.rest :)
theorem State.PermitsPassed.strings : t.strings = s.strings := (congrArg State.strings h.rest :)
theorem State.PermitsPassed.ask : t.ask = s.ask := (congrArg State.ask h.rest :)
theorem State.PermitsPassed.visits : t.visits = s.visits := (congrArg State.visits h.rest :)
theorem State.PermitsPassed.port : t.port = s.port := (congrArg State.port h.rest :)
theorem State.PermitsPassed.link : { t.link with nextSerial := s.link.nextSerial } = s.link := (congrArg State.link h.rest :)
theorem State.PermitsPassed.attention : { t.attention with
      permitChanged := s.attention.permitChanged, permitOverdue := s.attention.permitOverdue
      marginShort := s.attention.marginShort } = s.attention := (congrArg State.attention h.rest :)
theorem State.PermitsPassed.images : t.store.images = s.store.images := (congrArg (fun u => u.store.images) h.rest :)
theorem State.PermitsPassed.writer : t.store.writer = s.store.writer := (congrArg (fun u => u.store.writer) h.rest :)

/-- On a full table the pass has reached every permit. -/
theorem State.PermitsPassed.permit_of_full (hz : s.Sized) (hn : n = Config.permitCount) (k : Nat) :
    t.permit? k = (s.permit? k).bind (fun p => (out p).left) := by
  rw [h.permits]
  split
  · rfl
  · rename_i hk
    cases hp : s.permit? k with
    | none => rfl
    | some p =>
      have := tget_some _ _ _ hp
      rw [hz.permits] at this
      omega

/-- A cabinet to which no notice was posted keeps its entry. -/
theorem State.PermitsPassed.cabinet_of_none {c : Nat}
    (hc : ∀ k p, s.permit? k = some p → p.cabinet = c → (out p).note = none) : t.cabinet? c = s.cabinet? c := by
  rcases h.notices c with ⟨h1, -⟩ | ⟨k, p, m, _, -, hp, hpc, hm, -⟩
  · exact h1
  · rw [hc k p hp hpc] at hm; cases hm

/-- A cabinet to which only one kind of notice was posted holds a new posting of it. -/
theorem State.PermitsPassed.cabinet_of_posted {c : Nat} {x : Cabinet} {m : Notice} (hz : s.Sized) (hn : n = Config.permitCount)
    (hx : s.cabinet? c = some x) (hc : ∀ k p m', s.permit? k = some p → p.cabinet = c → (out p).note = some m' → m' = m)
    {k : Nat} {p : Permit} (hp : s.permit? k = some p) (hpc : p.cabinet = c) (hm : (out p).note = some m) :
    ∃ serial, s.link.nextSerial ≤ serial ∧
      t.cabinet? c = some { x with notice := some { notice := m, serial := serial } } := by
  rcases h.notices c with ⟨-, h2⟩ | ⟨j, q, m', serial, -, hq, hqc, hm', hs, h1⟩
  · have hk := tget_some _ _ _ hp
    rw [hz.permits] at hk
    rw [h2 k p (by omega) hp hpc] at hm; cases hm
  · rw [hc j q m' hq hqc hm'] at h1
    exact ⟨serial, hs, by rw [h1, hx]; rfl⟩

end

/-! ### The works of the three passes -/

/-- The notices of a posting. -/
theorem State.post_cabinet? (s : State) (c : Nat) (n : Notice) (d : Nat) : (s.post c n).cabinet? d =
    (s.cabinet? d).map (fun x => if d = c then { x with notice := some { notice := n, serial := s.link.nextSerial } } else x) := by
  cases hx : s.cabinet? c with
  | none =>
    rw [State.post_absent _ _ _ hx]
    cases hd : s.cabinet? d with
    | none => rfl
    | some y =>
      have : d ≠ c := by rintro rfl; rw [hx] at hd; cases hd
      simp [this]
  | some x =>
    rw [State.post_present _ _ _ x hx]
    exact tget_tset_map hx (fun y => { y with notice := some { notice := n, serial := s.link.nextSerial } }) d

theorem State.post_rest (s : State) (c : Nat) (n : Notice) :
    (s.post c n).attention = s.attention ∧ (s.post c n).store = s.store ∧ s.link.nextSerial ≤ (s.post c n).link.nextSerial ∧
      { s.post c n with cabinets := s.cabinets, link := { (s.post c n).link with nextSerial := s.link.nextSerial } } = s := by
  unfold State.post
  split
  · exact ⟨rfl, rfl, le_rfl, rfl⟩
  · exact ⟨rfl, rfl, Nat.le_succ _, rfl⟩

theorem State.permitWorked_quiet {s : State} {k : Nat} {p : Permit} (h : s.permit? k = some p) (q : Permit) :
    s.PermitWorked (s.setPermit k (some q)) k p (.quiet q) := by
  refine ⟨fun j => State.setPermit_permit? h _ j, fun c => ?_, le_rfl, fun i _ => by simp [PermitWork.quiet],
    fun i _ => by simp [PermitWork.quiet], fun id => by simp [PermitWork.quiet], rfl⟩
  show s.cabinet? c = _
  cases s.cabinet? c <;> simp [PermitWork.quiet]

theorem State.permitWorked_keep {s : State} {k : Nat} {p : Permit} (h : s.permit? k = some p) :
    s.PermitWorked s k p (.quiet p) := by
  have hq := State.permitWorked_quiet h p
  have he : s.setPermit k (some p) = s := by
    unfold State.setPermit
    rw [tset_tget _ _ _ h]
  rwa [he] at hq

theorem State.permitWorked_close {s : State} {k : Nat} {p : Permit} (h : s.permit? k = some p) (hg : p.state = .granted) :
    s.PermitWorked (s.closeRaising k) k p .close := by
  obtain ⟨ha, hs, hn, hr⟩ := s.post_rest p.cabinet .withdraw
  rw [State.closeRaising, State.closePermit_standing k s p h, if_pos (.inl hg)]
  refine ⟨fun j => ?_, fun c => ?_, hn, fun i hi => ?_, fun i _ => ?_, fun id => ?_, ?_⟩
  · show tget (tset (s.post p.cabinet .withdraw).permits k none) j = _
    rw [State.post_permits]
    exact State.setPermit_permit? h none j
  · refine (s.post_cabinet? p.cabinet .withdraw c).trans ?_
    simp [PermitWork.close]
  · simp [ha, raisePermitChanged, markOf_getLsbD k hi, PermitWork.close, State.freePermit]
  · simp [ha, raisePermitChanged, PermitWork.close, State.freePermit]
  · simp [hs, PermitWork.close, State.freePermit]
  · calc _ = { s.post p.cabinet .withdraw with
            cabinets := s.cabinets, link := { (s.post p.cabinet .withdraw).link with nextSerial := s.link.nextSerial }
            permits := s.permits, groups := s.groups
            attention := { (s.post p.cabinet .withdraw).attention with
              permitChanged := s.attention.permitChanged, permitOverdue := s.attention.permitOverdue
              marginShort := s.attention.marginShort }
            store := { (s.post p.cabinet .withdraw).store with queue := s.store.queue } } := rfl
      _ = s := by rw [ha, hs]; exact (congrArg (fun u : State => { u with
            permits := s.permits, groups := s.groups, attention := s.attention, store := s.store }) hr :)

theorem State.PermitWorked.recompute {s t : State} {k : Nat} {p : Permit} {w : PermitWork} (h : s.PermitWorked t k p w) :
    s.PermitWorked t.recompute k p w :=
  ⟨h.permits, h.cabinets, h.serial, h.changed, h.overdue, h.queue, h.rest⟩

theorem State.PermitsPassed.recompute {s t : State} {n : Nat} {out : Permit → PermitWork} (h : s.PermitsPassed t n out) :
    s.PermitsPassed t.recompute n out :=
  ⟨h.permits, h.notices, h.serial, h.changed, h.overdue, h.queue, h.rest⟩

/-- A permit that stays, with its image checkpointed: RECALL posted and asked for (R129, R133). -/
theorem State.permitWorked_recall {s : State} {k : Nat} {p : Permit} (h : s.permit? k = some p) :
    s.PermitWorked (s.recallPermit k p) k p
      { left := some { p with recallAsked := true }, note := some .recall, changed := false, overdue := false, save := true } := by
  obtain ⟨ha, hs, hn, hr⟩ := s.post_rest p.cabinet .recall
  refine ⟨fun j => ?_, fun c => ?_, hn, fun i hi => ?_, fun i _ => ?_, fun id => ?_, ?_⟩
  · show tget (tset (s.post p.cabinet .recall).permits k _) j = _
    rw [State.post_permits]
    exact State.setPermit_permit? h _ j
  · exact (s.post_cabinet? p.cabinet .recall c).trans (by simp)
  · simp [State.recallPermit, ha]
  · simp [State.recallPermit, ha]
  · simp [State.recallPermit, hs]
  · calc _ = { s.post p.cabinet .recall with
            cabinets := s.cabinets, link := { (s.post p.cabinet .recall).link with nextSerial := s.link.nextSerial }
            permits := s.permits, groups := s.groups
            attention := { (s.post p.cabinet .recall).attention with
              permitChanged := s.attention.permitChanged, permitOverdue := s.attention.permitOverdue
              marginShort := s.attention.marginShort }
            store := { (s.post p.cabinet .recall).store with queue := s.store.queue } } := rfl
      _ = s := by rw [ha, hs]; exact (congrArg (fun u : State => { u with
            permits := s.permits, groups := s.groups, attention := s.attention, store := s.store }) hr :)

/-- A permit that becomes Overdue (R123). -/
theorem State.permitWorked_overdue {s : State} {k : Nat} {p : Permit} (h : s.permit? k = some p) :
    s.PermitWorked (s.makeOverdue k p) k p
      { left := some { p with state := .overdue, remaining := 0 }, note := none
        changed := false, overdue := true, save := true } := by
  refine ⟨fun j => State.setPermit_permit? h _ j, fun c => ?_, le_rfl, fun i _ => by simp [State.makeOverdue, raisePermitOverdue],
    fun i hi => by simp [State.makeOverdue, raisePermitOverdue, markOf_getLsbD k hi], fun id => by simp [State.makeOverdue], rfl⟩
  show s.cabinet? c = _
  cases s.cabinet? c <;> simp

/-- What a loss of the utility makes of a permit (R131). -/
def closeWork (p : Permit) : PermitWork := if p.state = .granted then .close else .quiet p

/-- What RECALL ALL makes of a permit (R133). -/
def recallWork (p : Permit) : PermitWork :=
  match p.state with
  | .granted => .close
  | .active =>
    { left := some { p with recallAsked := true }, note := some .recall, changed := false, overdue := false, save := true }
  | .overdue =>
    { left := some { p with recallAsked := true }, note := some .recall, changed := false, overdue := false, save := true }
  | .returning => .quiet p

/-- What the minute tick makes of a permit (R111, R122, R123). -/
def minuteWork (p : Permit) : PermitWork :=
  match p.state with
  | .granted =>
    if p.timeout.getD 0 ≤ 1 then .close
    else .quiet { p with remaining := p.remaining - 1, timeout := p.timeout.map (fun t => t - 1) }
  | .active =>
    if p.remaining ≤ 1 then
      { left := some { p with state := .overdue, remaining := 0 }, note := none, changed := false, overdue := true, save := true }
    else .quiet { p with remaining := p.remaining - 1 }
  | .overdue => .quiet p
  | .returning => .quiet { p with remaining := p.remaining - 1 }

theorem State.closeAllGranted_passed (s : State) : s.PermitsPassed s.closeAllGranted Config.permitCount closeWork := by
  refine State.permits_pass (fun t k h => ?_) (fun t k p h => ?_) s
  · simp [State.closeIfGranted, State.isGranted, h]
  · by_cases hg : p.state = .granted
    · simpa [State.closeIfGranted, State.isGranted, h, hg, closeWork] using State.permitWorked_close h hg
    · simpa [State.closeIfGranted, State.isGranted, h, hg, closeWork] using State.permitWorked_keep h

theorem State.recallSlots_passed (s : State) :
    s.PermitsPassed ((numbers Config.permitCount).foldl State.recallSlot s) Config.permitCount recallWork := by
  refine State.permits_pass (fun t k h => ?_) (fun t k p h => ?_) s
  · simp [State.recallSlot, h]
  · cases hp : p.state with
    | granted => simpa [State.recallSlot, h, hp, recallWork] using State.permitWorked_close h hp
    | active => simpa [State.recallSlot, h, hp, recallWork] using State.permitWorked_recall h
    | overdue => simpa [State.recallSlot, h, hp, recallWork] using State.permitWorked_recall h
    | returning => simpa [State.recallSlot, h, hp, recallWork] using State.permitWorked_keep h

theorem State.tickPermits_passed (s : State) :
    s.PermitsPassed ((numbers Config.permitCount).foldl State.tickPermit s) Config.permitCount minuteWork := by
  refine State.permits_pass (fun t k h => ?_) (fun t k p h => ?_) s
  · simp [State.tickPermit, h]
  · cases hp : p.state with
    | granted =>
      by_cases ht : p.timeout.getD 0 ≤ 1
      · simpa [State.tickPermit, State.expireGrant, h, hp, minuteWork, ht] using (State.permitWorked_close h hp).recompute
      · simpa [State.tickPermit, h, hp, minuteWork, ht] using State.permitWorked_quiet h _
    | active =>
      by_cases ht : p.remaining ≤ 1
      · simpa [State.tickPermit, h, hp, minuteWork, ht] using State.permitWorked_overdue h
      · simpa [State.tickPermit, h, hp, minuteWork, ht] using State.permitWorked_quiet h _
    | overdue => simpa [State.tickPermit, h, hp, minuteWork] using State.permitWorked_keep h
    | returning => simpa [State.tickPermit, h, hp, minuteWork] using State.permitWorked_quiet h _

end Sys2Proof.Machine

namespace Sys2Proof.Machine

/-! ## The acceptance of a utility state -/

theorem State.isGranted_iff (s : State) (k : Nat) : s.isGranted k = true ↔ ∃ p, s.permit? k = some p ∧ p.state = .granted := by
  unfold State.isGranted
  cases h : s.permit? k <;> simp

theorem closeWork_granted {p : Permit} (h : p.state = .granted) : closeWork p = .close := if_pos h

theorem closeWork_kept {p : Permit} (h : p.state ≠ .granted) : closeWork p = .quiet p := if_neg h

theorem closeWork_changed (p : Permit) : (closeWork p).changed = (p.state == .granted) := by
  by_cases h : p.state = .granted
  · simp [closeWork_granted h, PermitWork.close, h]
  · simp [closeWork_kept h, PermitWork.quiet, h]

theorem closeWork_save (p : Permit) : (closeWork p).save = true ↔ p.state = .granted := by
  by_cases h : p.state = .granted
  · simp [closeWork_granted h, PermitWork.close, h]
  · simp [closeWork_kept h, PermitWork.quiet, h]

theorem closeWork_note (p : Permit) : (closeWork p).note = if p.state = .granted then some .withdraw else none := by
  by_cases h : p.state = .granted
  · simp [closeWork_granted h, PermitWork.close, h]
  · simp [closeWork_kept h, PermitWork.quiet, h]

/-- What an accepted loss of the utility leaves (R126, R131), up to the ask. -/
theorem State.closeWork_left (s : State) (k : Nat) : (s.permit? k).bind (fun p => (closeWork p).left) =
    if s.isGranted k = true then none else s.permit? k := by
  cases h : s.permit? k with
  | none => simp [State.isGranted, h]
  | some p =>
    by_cases hg : p.state = .granted
    · simp [State.isGranted, h, hg, closeWork_granted hg, PermitWork.close]
    · simp [State.isGranted, h, hg, closeWork_kept hg, PermitWork.quiet]

/-- The state in which a loss is accepted, before the permits are closed. -/
def State.lossTaken (s : State) : State :=
  ({ s with floor := { s.floor with utility := .lost } } : State).attend (raiseUtilityChange .lost)

theorem State.acceptUtility_lost (s : State) :
    s.acceptUtility .lost = (s.lossTaken.closeAllGranted.recompute).endAsk .utilityLost := by
  simp only [State.acceptUtility, if_true, State.lossTaken]

theorem State.acceptUtility_other (s : State) {u : UtilityState} (h : u ≠ .lost) : s.acceptUtility u = { s with
    floor := { s.floor with utility := u }
    attention := { s.attention with utilityChange := some u } } := by
  simp only [State.acceptUtility, if_neg h]
  rfl

/-- A recomputation leaves the groups current (R96). -/
theorem State.recompute_current (s : State) :
    s.recompute.groups = (numbers Config.groupCount).map (s.recompute.figures none) := rfl

theorem State.lossTaken_passed (s : State) :
    s.lossTaken.PermitsPassed s.lossTaken.closeAllGranted.recompute Config.permitCount closeWork :=
  s.lossTaken.closeAllGranted_passed.recompute

/-- An accepted loss of the utility is a pass over the permits, a recomputation, and the end of a waiting ask (R131). -/
theorem State.acceptLost_passed (s : State) : ∃ u : State, s.acceptUtility .lost = u.endAsk .utilityLost ∧
    s.lossTaken.PermitsPassed u Config.permitCount closeWork ∧ u.groups = (numbers 4).map (u.figures none) :=
  ⟨_, s.acceptUtility_lost, s.lossTaken_passed, State.recompute_current _⟩

/-- The end of an ask touches the ask and the port alone (R116). -/
theorem State.endAsk_eq (res : ResultCode) (s : State) : s.endAsk res = { s with
    ask := none
    port := if s.ask.isSome = true then
      { s.port with state := .replyReady, reply := some { code := askCode, result := resultCode res, body := [] } }
    else s.port } := by
  cases h : s.ask with
  | none =>
    rw [State.endAsk_none _ _ h]
    obtain ⟨_⟩ := s
    cases h
    rfl
  | some a => rw [State.endAsk_some _ _ a h]; simp

/-- A pass in which the withdrawn permits are the Granted ones. -/
theorem State.PermitsPassed.withdrawn {s t : State} (h : s.PermitsPassed t Config.permitCount closeWork) (hz : s.Sized) {k : Nat}
    {p : Permit} {x : Cabinet} (hp : s.permit? k = some p) (hg : p.state = .granted) (hx : s.cabinet? p.cabinet = some x) :
    ∃ serial, s.link.nextSerial ≤ serial ∧
      t.cabinet? p.cabinet = some { x with notice := some { notice := .withdraw, serial := serial } } := by
  refine h.cabinet_of_posted hz rfl hx (fun j q m _ _ hm => ?_) hp rfl (by rw [closeWork_note, if_pos hg])
  rw [closeWork_note] at hm
  split at hm
  · cases hm; rfl
  · cases hm

theorem State.PermitsPassed.unwithdrawn {s t : State} (h : s.PermitsPassed t Config.permitCount closeWork) {c : Nat}
    (hc : ∀ k p, s.permit? k = some p → p.state = .granted → p.cabinet ≠ c) : t.cabinet? c = s.cabinet? c :=
  h.cabinet_of_none fun k p hp hpc => by
    rw [closeWork_note, if_neg fun hg => hc k p hp hg hpc]

theorem State.PermitsPassed.closed_queue {s t : State} (h : s.PermitsPassed t Config.permitCount closeWork) (hz : s.Sized)
    (id : ImageId) : id ∈ t.store.queue ↔ id ∈ s.store.queue ∨ ∃ k, s.isGranted k = true ∧ id = permitImage k := by
  rw [h.queue]
  refine or_congr_right (exists_congr fun k => ⟨fun ⟨p, _, hp, hs, e⟩ => ?_, fun ⟨hg, e⟩ => ?_⟩)
  · exact ⟨(s.isGranted_iff k).mpr ⟨p, hp, (closeWork_save p).mp hs⟩, e⟩
  · obtain ⟨p, hp, hg⟩ := (s.isGranted_iff k).mp hg
    have hk := (tget_some _ _ _ hp).2
    rw [hz.permits] at hk
    exact ⟨p, hk, hp, (closeWork_save p).mpr hg, e⟩

theorem State.PermitsPassed.closed_changed {s t : State} (h : s.PermitsPassed t Config.permitCount closeWork) {i : Nat}
    (hi : i < 8) :
    t.attention.permitChanged.getLsbD i = (s.attention.permitChanged.getLsbD i || s.isGranted (i + 1)) := by
  rw [h.changed i hi]
  simp only [closeWork_changed]
  rw [decide_eq_true (show i < Config.permitCount from hi), Bool.true_and]
  rfl

theorem State.PermitsPassed.closed_overdue {s t : State} (h : s.PermitsPassed t Config.permitCount closeWork) :
    t.attention.permitOverdue = s.attention.permitOverdue := by
  refine BitVec.eq_of_getLsbD_eq fun i hi => ?_
  rw [h.overdue i hi]
  have : ∀ p, (closeWork p).overdue = false := fun p => by unfold closeWork; split <;> rfl
  cases s.permit? (i + 1) <;> simp [this]

theorem State.PermitsPassed.rest_of_overdue {s t : State} {n : Nat} {out : Permit → PermitWork} (h : s.PermitsPassed t n out)
    (ho : t.attention.permitOverdue = s.attention.permitOverdue) :
    { t.attention with permitChanged := s.attention.permitChanged, marginShort := s.attention.marginShort } = s.attention := by
  refine Eq.trans ?_ h.attention
  rw [← ho]

end Sys2Proof.Machine

section
open Sys2Proof Sys2Proof.Machine

/-- Settles O22: time is counted, the filter judges, and a loss goes through the permits in a pass. -/
theorem utilityLevelAndChange : Obligations.UtilityLevelAndChange := by
  refine ⟨fun h s hh => ?_, fun s => ?_, fun s h => ?_, ?_⟩
  · exact congrArg Host.Outcome.next (if_neg hh)
  · exact congrArg Host.Outcome.next (if_pos rfl)
  · refine ⟨congrArg Host.Outcome.next (State.passTime_off _ s h), fun hp => ?_⟩
    have : step s = .next (s.passTime 1) := by unfold step; rw [hp]
    rw [this, State.passTime_off _ s h]
  · rintro ms held s w o hr ho rfl hw
    have hwc : w = s.countTime ms := hw
    have ho' : o = .next (s.passTime ms) := by
      rcases ho with ⟨rfl, rfl⟩ | ⟨rfl, hp, rfl⟩
      · rfl
      · unfold step; rw [hp]
    have haccept : s.port.state ≠ .starting → s.floor.config.filterTime ≤ min (s.floor.senseHeld + ms) 50 →
        utilityOfLevel s.floor.sense ≠ s.floor.utility → o = .next (w.acceptUtility (utilityOfLevel s.floor.sense)) := by
      intro hps hf hu
      rw [ho', State.passTime_running _ _ hr, State.judgeFilter_eq, ← hwc]
      have hop : (s.countTime ms).operating = true := by simp [State.operating, State.countTime, hr, hps]
      rw [hwc]
      exact congrArg Host.Outcome.next (if_pos (And.intro hop (And.intro hf hu)))
    refine ⟨fun hc => ?_, fun hps hf hs hu => ?_, fun hz hps hf hs hu => ?_⟩
    · rw [ho', hwc]
      refine congrArg Host.Outcome.next (State.passTime_counts ms s hr fun hop hf => ?_)
      rcases hc with hc | hc | hc
      · have : s.operating = true := hop
        simp [State.operating, hc] at this
      · exact absurd hf (Nat.not_le_of_lt hc)
      · exact hc
    · rw [haccept hps hf (by rw [hs]; exact hu.symm), hs]
      rw [State.acceptUtility_other _ (by decide)]
      subst hw
      rfl
    · have hl : utilityOfLevel s.floor.sense = .lost := by rw [hs]; rfl
      rw [hl] at haccept
      obtain ⟨u, he, hp, hgr⟩ := w.acceptLost_passed
      refine ⟨u.endAsk .utilityLost, (haccept hps hf hu.symm).trans (congrArg _ he), ?_⟩
      rw [State.endAsk_eq, hp.ask, hp.port]
      subst hwc
      have hzw : (s.countTime ms).lossTaken.Sized := ⟨hz.1, hz.2, hz.3, hz.4, hz.5, hz.6, hz.7⟩
      exact ⟨hp.floor, rfl, fun k => (hp.permit_of_full hzw rfl k).trans (State.closeWork_left _ k),
        fun k p x hk hg hx => hp.withdrawn hzw hk hg hx, fun c hc => hp.unwithdrawn hc, hp.closed_queue hzw,
        fun i hi => hp.closed_changed hi, hp.rest_of_overdue hp.closed_overdue, fun ha => if_pos ha,
        fun ha => if_neg (by simp [State.lossTaken, State.attend, ha]), hp.link, hgr, hp.strings, hp.profiles, hp.visits,
        hp.images, hp.writer⟩

end

namespace Sys2Proof.Machine

/-! ## The roster requests -/

theorem inRange_true {count n : Nat} (h1 : 1 ≤ n) (h2 : n ≤ count) : inRange count n = true := decide_eq_true ⟨h1, h2⟩

theorem inRange_false {count n : Nat} (h : ¬(1 ≤ n ∧ n ≤ count)) : inRange count n = false := decide_eq_false h

/-- The effect of CABINET SET on an Absent entry (R16). -/
theorem State.setEntryOf_absent {s : State} {c : Nat} (h : s.cabinet? c = none) (g r : Nat) :
    s.setEntryOf c g r = ({ s with
      cabinets := tset s.cabinets c (some (newCabinet g r))
      store := { s.store with queue := enqueue (cabinetImage c) s.store.queue } } : State).recompute := by
  simp only [State.setEntryOf, h, setEntry, setCheckpoints, if_true]
  rfl

/-- The effect of CABINET SET on a Present entry (R17). -/
theorem State.setEntryOf_present {s : State} {c : Nat} {x : Cabinet} (h : s.cabinet? c = some x) (g r : Nat) :
    s.setEntryOf c g r = ({ s with
      cabinets := tset s.cabinets c (some { x with group := g, rated := r })
      store := { s.store with
        queue := if x.group = g ∧ x.rated = r then s.store.queue else enqueue (cabinetImage c) s.store.queue } } :
        State).recompute := by
  simp only [State.setEntryOf, h, setEntry, setCheckpoints]
  by_cases hx : x.group = g ∧ x.rated = r
  · rw [if_pos hx, if_neg (by simp [hx])]
    rfl
  · rw [if_neg hx, if_pos (by simpa [imp_iff_not_or, or_comm] using hx)]
    rfl

/-- CABINET SET in range answers with the entry it leaves. -/
theorem cabinetSet_inRange {b : List Byte} {s : State} (h1 : 1 ≤ field b 0 1) (h2 : field b 0 1 ≤ 24) :
    cabinetSet b s = done (s.cabinetBody (field b 0 1)
        (setEntry (s.cabinet? (field b 0 1)) (clampNat 1 4 (field b 1 1)) (clampNat 100 8000 (field b 2 2))))
      (s.setEntryOf (field b 0 1) (clampNat 1 4 (field b 1 1)) (clampNat 100 8000 (field b 2 2))) := by
  simp only [cabinetSet, inRange_true (count := Config.cabinetCount) h1 h2, if_true]
  rw [State.cabinetBody, State.cabinetBody]
  have hl : (s.setEntryOf (field b 0 1) (clampNat 1 4 (field b 1 1)) (clampNat 100 8000 (field b 2 2))).stringList
      (field b 0 1) = s.stringList (field b 0 1) := by
    unfold State.setEntryOf
    dsimp only
    split <;> rfl
  rw [hl]

/-- A permit names a cabinet exactly when one is found (R110). -/
theorem State.permitOf_isSome (s : State) (c : Nat) :
    (s.permitOf c).isSome = true ↔ ∃ k p, s.permit? k = some p ∧ p.cabinet = c := by
  rw [State.permitOf, List.find?_isSome]
  constructor
  · rintro ⟨⟨k, p⟩, hm, hc⟩
    exact ⟨k, p, (mem_entries _ _ _).mp hm, by simpa using hc⟩
  · rintro ⟨k, p, hp, hc⟩
    exact ⟨(k, p), (mem_entries _ _ _).mpr hp, by simpa using hc⟩

/-- The string list shows a slot exactly when a string stands at one of the cabinet's positions (R12). -/
theorem State.stringList_shows (s : State) (c : Nat) : (∃ k ∈ s.stringList c, k ≠ 0) ↔
    ∃ k r, s.string? k = some r ∧ r.cabinet = some c ∧ 1 ≤ r.position ∧ r.position ≤ 4 ∧ r.state ≠ .retired := by
  constructor
  · rintro ⟨k, hk, h0⟩
    obtain ⟨p, hp, rfl⟩ := List.mem_map.mp hk
    have hp4 := (mem_numbers _ _).mp hp
    cases ha : s.stringAt c p with
    | none => simp [ha] at h0
    | some e =>
      obtain ⟨j, r⟩ := e
      obtain ⟨hr, hc, rfl, hs⟩ := State.stringAt_some ha
      exact ⟨j, r, hr, hc, hp4.1, hp4.2, hs⟩
  · rintro ⟨k, r, hr, hc, h1, h4, hs⟩
    by_contra hno
    push Not at hno
    exact hs (State.stringList_empty hno k r hr ⟨h1, h4⟩ hc)

/-! ## The configuration -/

theorem endAsk_withPort {u : State} {res : ResultCode} {p : Port} (h : u.ask = none) :
    (u.withPort p).endAsk res = u.withPort p := State.endAsk_none _ _ h

/-- Without a waiting ask the acceptance of a utility state leaves the port alone. -/
theorem blind_acceptUtility {s : State} (ha : s.ask = none) (u : UtilityState) (p : Port) :
    (s.withPort p).acceptUtility u = (s.acceptUtility u).withPort p := by
  by_cases hu : u = .lost
  · subst hu
    have h1 : (s.withPort p).lossTaken = s.lossTaken.withPort p := rfl
    have hask : s.lossTaken.closeAllGranted.recompute.ask = none := s.lossTaken_passed.ask.trans ha
    rw [State.acceptUtility_lost, State.acceptUtility_lost, h1, blind_closeAllGranted, blind_recompute, endAsk_withPort hask,
      State.endAsk_none _ _ hask]
  · rw [State.acceptUtility_other _ hu, State.acceptUtility_other _ hu]
    rfl

theorem blind_setEntryOf (c g r : Nat) : PortBlind (State.setEntryOf c g r) := by
  intro p s
  unfold State.setEntryOf
  have : (s.withPort p).cabinet? c = s.cabinet? c := rfl
  rw [this]
  split <;> rfl

end Sys2Proof.Machine

section
open Sys2Proof Sys2Proof.Machine

/-- Settles O23, by the two cases of the entry. -/
theorem cabinetSetCreatesOrUpdates : Obligations.CabinetSetCreatesOrUpdates := by
  rintro f s c g r h rfl h1 h24 rfl rfl
  have ht : s.takeRequest 0x10 4 f cabinetSet = _ :=
    State.takeRequest_now (t := s.setEntryOf (field f.body 0 1) (clampNat 1 4 (field f.body 1 1))
      (clampNat 100 8000 (field f.body 2 2)))
      (res := .done) (body := s.cabinetBody (field f.body 0 1)
        (setEntry (s.cabinet? (field f.body 0 1)) (clampNat 1 4 (field f.body 1 1)) (clampNat 100 8000 (field f.body 2 2)))) h
      fun p => by rw [cabinetSet_inRange h1 h24, blind_setEntryOf]; rfl
  refine ⟨fun hc => congrArg Host.Outcome.next (ht.trans ?_), fun x hx => congrArg Host.Outcome.next (ht.trans ?_)⟩
  · rw [State.setEntryOf_absent hc, hc]; rfl
  · rw [State.setEntryOf_present hx, hx]; rfl

/-- Settles O24: the three checks in their order, and what each of them looks for. -/
theorem cabinetDropRemoves : Obligations.CabinetDropRemoves := by
  rintro f s c h rfl
  refine ⟨fun hc => ?_, fun hc hp => ?_, fun hc hp hl => ?_, fun hc hp hl => ?_, s.permitOf_isSome _, s.stringList_shows _⟩
  · refine congrArg Host.Outcome.next (State.takeRequest_refused h fun p => ?_)
    simp only [cabinetDrop, show (s.withPort p).cabinet? (field f.body 0 1) = none from hc]
  · obtain ⟨x, hx⟩ := Option.isSome_iff_exists.mp hc
    refine congrArg Host.Outcome.next (State.takeRequest_refused h fun p => ?_)
    simp only [cabinetDrop, show (s.withPort p).cabinet? (field f.body 0 1) = some x from hx]
    exact if_pos hp
  · obtain ⟨x, hx⟩ := Option.isSome_iff_exists.mp hc
    obtain ⟨k, hk, h0⟩ := hl
    refine congrArg Host.Outcome.next (State.takeRequest_refused h fun p => ?_)
    simp only [cabinetDrop, show (s.withPort p).cabinet? (field f.body 0 1) = some x from hx]
    refine (if_neg ?_).trans (if_pos ?_)
    · rw [show (s.withPort p).permitOf (field f.body 0 1) = none from hp]; simp
    · exact List.any_eq_true.mpr ⟨k, hk, by simpa using h0⟩
  · obtain ⟨x, hx⟩ := Option.isSome_iff_exists.mp hc
    refine congrArg Host.Outcome.next (State.takeRequest_now (t := s.dropEntry (field f.body 0 1)) h fun p => ?_)
    simp only [cabinetDrop, show (s.withPort p).cabinet? (field f.body 0 1) = some x from hx]
    refine (if_neg ?_).trans ((if_neg ?_).trans rfl)
    · rw [show (s.withPort p).permitOf (field f.body 0 1) = none from hp]; simp
    · have : s.stringList (field f.body 0 1) = (s.withPort p).stringList (field f.body 0 1) := rfl
      simpa [← this] using hl

end

namespace Sys2Proof.Machine

/-! ## Causes and ATTN (R186, R187) -/

/-- ATTN is asserted exactly when the part runs and a cause is present that the mask enables. -/
theorem State.attn_iff (s : State) : s.attn = true ↔
    s.phase = .running ∧ ∃ n, n < 12 ∧ (presentCauses s.attention).getLsbD n = true ∧ s.floor.config.mask.getLsbD n = true := by
  have key : ∀ x : BitVec 12, (x != 0) = true ↔ ∃ n, n < 12 ∧ x.getLsbD n = true := by
    intro x
    rw [bne_iff_ne, ← not_iff_not]
    simp only [ne_eq, not_not, not_exists, not_and, Bool.not_eq_true]
    exact ⟨fun h n _ => by rw [h]; exact BitVec.getLsbD_zero, fun h => BitVec.eq_of_getLsbD_eq fun i hi => by
      rw [h i hi]; exact BitVec.getLsbD_zero.symm⟩
  simp only [State.attn, Bool.and_eq_true, key, BitVec.getLsbD_and, beq_iff_eq]

/-- Every map and mark of `b` that the acceptance of a utility state can change holds at least what `a` holds. -/
structure Attention.Gains (a b : Attention) : Prop where
  utility : a.utilityChange.isSome = true → b.utilityChange.isSome = true
  margin : ∀ i, a.marginShort.getLsbD i = true → b.marginShort.getLsbD i = true
  permit : ∀ i, a.permitChanged.getLsbD i = true → b.permitChanged.getLsbD i = true
  rest : { b with
    utilityChange := a.utilityChange, marginShort := a.marginShort, permitChanged := a.permitChanged } = a

theorem Attention.Gains.refl (a : Attention) : a.Gains a := ⟨id, fun _ => id, fun _ => id, rfl⟩

theorem Attention.Gains.trans {a b c : Attention} (h : a.Gains b) (g : b.Gains c) : a.Gains c := by
  refine ⟨g.utility ∘ h.utility, fun i => g.margin i ∘ h.margin i, fun i => g.permit i ∘ h.permit i, ?_⟩
  have hg := congrArg (fun d : Attention => { d with
    utilityChange := a.utilityChange, marginShort := a.marginShort, permitChanged := a.permitChanged }) g.rest
  exact Eq.trans hg h.rest

theorem bitVec_ne_zero_of_gains {w : Nat} {x y : BitVec w} (h : ∀ i, x.getLsbD i = true → y.getLsbD i = true) (hx : x ≠ 0) :
    y ≠ 0 := by
  rintro rfl
  refine hx (BitVec.eq_of_getLsbD_eq fun i _ => ?_)
  rw [show BitVec.getLsbD (0 : BitVec w) i = false from BitVec.getLsbD_zero]
  by_contra hb
  have := h i (by simpa using hb)
  simp at this

/-- What has gained marks has lost no cause. -/
theorem Attention.Gains.present {a b : Attention} (h : a.Gains b) {n : Nat} (hn : (presentCauses a).getLsbD n = true) :
    (presentCauses b).getLsbD n = true := by
  obtain ⟨hu, hm, hp, hr⟩ := h
  have hm' := bitVec_ne_zero_of_gains hm
  have hp' := bitVec_ne_zero_of_gains hp
  obtain ⟨u, m, ub, po, pc, cl, cb, vi, vo, ss, sf, st⟩ := a
  obtain ⟨u', m', ub', po', pc', cl', cb', vi', vo', ss', sf', st'⟩ := b
  simp only [Attention.mk.injEq, true_and] at hr
  obtain ⟨rfl, rfl, rfl, rfl, rfl, rfl, rfl, rfl, rfl⟩ := hr
  have h12 : n < 12 := BitVec.lt_of_getLsbD hn
  simp only [presentCauses, BitVec.getLsbD_ofBoolListLE] at hn ⊢
  interval_cases n <;> simp_all

theorem State.recompute_gains (s : State) : s.attention.Gains s.recompute.attention := by
  refine ⟨id, fun i h => ?_, fun _ => id, rfl⟩
  simp [raiseMarginShort, h]

theorem State.PermitFrame.closeAllGranted (s : State) : s.PermitFrame s.closeAllGranted :=
  foldl_numbers (P := fun _ t => s.PermitFrame t) _ (.refl s) fun _ _ _ h => by
    unfold State.closeIfGranted
    split
    · exact h.closeRaising _
    · exact h

/-- Permits that were closed have lost no cause. -/
theorem State.PermitFrame.gains {s u : State} (hf : s.PermitFrame u) (hp : s.PermitsPassed u Config.permitCount closeWork) :
    s.attention.Gains u.attention := by
  have ha := hf.attention
  refine ⟨fun h => ?_, fun i h => ?_, fun i h => ?_, ?_⟩
  · rw [← ha] at h; exact h
  · rw [← ha] at h; exact h
  · have hi : i < 8 := BitVec.lt_of_getLsbD h
    rw [hp.closed_changed hi, h, Bool.true_or]
  · calc _ = { { u.attention with permitChanged := s.attention.permitChanged } with
            utilityChange := s.attention.utilityChange, marginShort := s.attention.marginShort } := rfl
      _ = s.attention := by rw [ha]

theorem State.endAsk_attention (s : State) (res : ResultCode) : (s.endAsk res).attention = s.attention := by
  rw [State.endAsk_eq]

/-- The acceptance of a utility state loses no cause (R6). -/
theorem State.acceptUtility_gains (s : State) (u : UtilityState) : s.attention.Gains (s.acceptUtility u).attention := by
  have h0 : s.attention.Gains { s.attention with utilityChange := some u } := ⟨fun _ => rfl, fun _ => id, fun _ => id, rfl⟩
  by_cases hu : u = .lost
  · subst hu
    have hg := (State.PermitFrame.closeAllGranted s.lossTaken).gains s.lossTaken.closeAllGranted_passed
    rw [State.acceptUtility_lost, State.endAsk_attention]
    exact (h0.trans hg).trans (State.recompute_gains _)
  · rw [State.acceptUtility_other _ hu]
    exact h0

/-- What the acceptance of a utility state leaves of the configuration and the queue. -/
theorem State.acceptUtility_kept (s : State) (u : UtilityState) : (s.acceptUtility u).phase = s.phase ∧
    (s.acceptUtility u).floor.config = s.floor.config ∧ ∀ id ∈ s.store.queue, id ∈ (s.acceptUtility u).store.queue := by
  by_cases hu : u = .lost
  · subst hu
    obtain ⟨t, he, hp, -⟩ := s.acceptLost_passed
    rw [he, State.endAsk_eq]
    exact ⟨hp.phase, (congrArg Floor.config hp.floor :), fun id h => (hp.queue id).mpr (.inl h)⟩
  · rw [State.acceptUtility_other _ hu]
    exact ⟨rfl, rfl, fun _ => id⟩

/-! ## FLOOR CONFIG WRITE (R9) -/

theorem State.countTime_zero {s : State} (h : s.floor.senseHeld ≤ Config.filterLimit) : s.countTime 0 = s := by
  unfold State.countTime
  rw [Nat.add_zero, Nat.min_eq_left h]
  rfl

/-- The configuration replaced, checkpointed, and the groups formed on it. -/
def State.configured (s : State) (c : FloorConfig) : State :=
  ({ s with
      floor := { s.floor with config := c }
      store := { s.store with queue := enqueue configImage s.store.queue } } : State).recompute

theorem State.writeConfig_eq (s : State) (c : FloorConfig) :
    s.writeConfig c = (s.configured c).filterAfterWrite s.floor.config.filterTime := rfl

theorem State.writeConfig_kept (s : State) (c : FloorConfig) : (s.writeConfig c).phase = s.phase ∧
    (s.writeConfig c).floor.config = c ∧ configImage ∈ (s.writeConfig c).store.queue ∧
    s.attention.Gains (s.writeConfig c).attention := by
  have h0 : s.attention.Gains (s.configured c).attention := State.recompute_gains { s with
      floor := { s.floor with config := c }
      store := { s.store with queue := enqueue configImage s.store.queue } }
  have hq : configImage ∈ (s.configured c).store.queue := mem_enqueue_self _ _
  rw [State.writeConfig_eq, State.filterAfterWrite]
  split
  · obtain ⟨hp, hc, hqq⟩ := (s.configured c).acceptUtility_kept (utilityOfLevel (s.configured c).floor.sense)
    exact ⟨hp, hc, hqq _ hq, h0.trans (State.acceptUtility_gains _ _)⟩
  · exact ⟨rfl, rfl, hq, h0⟩

/-- A request that is taken leaves what its block made of some state that differs in the port alone, but for the port. -/
theorem State.takeRequest_answers {s : State} {need : Nat} {f : RequestFrame} {code : Byte} {body : List Byte}
    {handle : List Byte → State → State × Answer} {g : State → State} (h : s.Takes need f)
    (hh : ∀ u, handle f.body u = done body (g u)) :
    ∃ p q, s.takeRequest code need f handle = (g (s.withPort p)).withPort q := by
  obtain ⟨hr, hi, hl⟩ := h
  refine ⟨s.requestPort, ?_⟩
  unfold State.takeRequest
  rw [State.frameEvent_running _ _ _ _ hr]
  have hi2 : (s.withPort s.openedPort).port.state = .idle := hi
  simp only [State.judgeRequest, hi2, hl, if_true, State.clearOverrun_opened, hh, done, State.answer]
  exact ⟨_, rfl⟩

end Sys2Proof.Machine

section
open Sys2Proof Sys2Proof.Machine

/-- Settles O20: the write is a replacement and a judgement of the filter. -/
theorem floorConfigWriteReplaces : Obligations.FloorConfigWriteReplaces := by
  rintro f s w c h hc hw
  have hwc : w = s.configured c := hw
  have hwrite : ∀ u, floorConfigWrite f.body u = done (configBody c) (State.writeConfig c u) := fun u => by
    rw [hc]; rfl
  refine ⟨hc ▸ FloorConfig.clamp_inRange _, ?_, rfl, fun t ht => ?_, fun h1 h2 h3 => ?_, fun hn => ?_, fun h1 h2 h3 ha => ?_⟩
  · rw [hc]
    simp [FloorConfig.clamp, configOfBody, clampNat]
  · obtain ⟨p, q, he⟩ := State.takeRequest_answers (code := 0x02) h hwrite
    have ht' : t = ((s.withPort p).writeConfig c).withPort q :=
      (Host.Outcome.next.inj (ht : Host.Outcome.next _ = _)).symm.trans he
    obtain ⟨hph, hcf, hq, hg⟩ := (s.withPort p).writeConfig_kept c
    subst ht'
    refine ⟨hcf, hq, fun n _ hn => hg.present hn, (State.attn_iff _).trans ?_⟩
    rw [show (State.withPort q _).phase = .running from hph.trans h.running, show (State.withPort q _).floor.config = c from hcf]
    simp
  · have ht : w.countTime w.floor.filterRest = w := by
      have h0 : w.floor.filterRest = 0 := by rw [hwc]; exact Nat.sub_eq_zero_of_le h1
      rw [h0]
      exact State.countTime_zero (by rw [hwc]; exact h2)
    have hop : w.operating = true := by
      rw [hwc]; simp [State.operating, State.configured, h.running, h.idle]
    refine congrArg Host.Outcome.next ((State.passTime_running _ w (by rw [hwc]; exact h.running)).trans ?_)
    rw [ht, State.judgeFilter_eq, if_pos ⟨hop, by rw [hwc]; exact h1, by rw [hwc]; exact h3⟩, hwc]
    rfl
  · refine congrArg Host.Outcome.next (State.takeRequest_now h fun p => ?_)
    rw [hwrite, State.writeConfig_eq, State.filterAfterWrite, if_neg, hwc]
    · rfl
    · rintro ⟨h1, h2, h3⟩
      rcases hn with hn | hn | hn
      · exact absurd h1 (Nat.not_lt_of_le hn)
      · exact absurd h2 (Nat.not_le_of_lt hn)
      · exact h3 hn
  · refine congrArg Host.Outcome.next (State.takeRequest_now h fun p => ?_)
    have hask : w.ask = none := by rw [hwc]; exact ha
    rw [hwrite, State.writeConfig_eq, State.filterAfterWrite]
    refine (congrArg (done (configBody c)) (if_pos (And.intro h1 (And.intro h2 h3)))).trans ?_
    rw [← blind_acceptUtility hask, hwc]
    rfl

end

namespace Sys2Proof.Machine

/-! ## Frames that are no request -/

/-- The port after a frame whose type does nothing. -/
theorem State.frameEvent_plain {s : State} {n : Nat} (h : s.phase = .running) :
    s.frameEvent n (fun _ => []) id = { s with port := s.framedPort n [] } := by
  rw [State.frameEvent_running _ _ _ _ h]
  rfl

/-- A byte put together from eight flags by their weights shows each flag at its bit. -/
theorem getLsbD_of_flags (b7 b6 b5 b4 b3 b2 b1 b0 : Bool) {x : Byte}
    (h : x = BitVec.ofNat 8 (flagBit b7 128 + flagBit b6 64 + flagBit b5 32 + flagBit b4 16 + flagBit b3 8 + flagBit b2 4 +
      flagBit b1 2 + flagBit b0 1)) :
    x.getLsbD 7 = b7 ∧ x.getLsbD 6 = b6 ∧ x.getLsbD 5 = b5 ∧ x.getLsbD 4 = b4 ∧ x.getLsbD 3 = b3 ∧ x.getLsbD 2 = b2 ∧
      x.getLsbD 1 = b1 ∧ x.getLsbD 0 = b0 := by
  subst h
  revert b7 b6 b5 b4 b3 b2 b1 b0
  decide

/-- Each bit of the status byte shows its flag (R191). -/
theorem State.statusByte_bits (s : State) :
    s.statusByte.getLsbD 7 = (s.port.state == .replyReady) ∧ s.statusByte.getLsbD 6 = (s.port.state == .working) ∧
    s.statusByte.getLsbD 5 = (s.port.state == .starting) ∧ s.statusByte.getLsbD 4 = s.port.urgent.isSome ∧
    s.statusByte.getLsbD 3 = s.port.late ∧ s.statusByte.getLsbD 2 = s.port.dropped ∧
    s.statusByte.getLsbD 1 = s.port.overrun ∧ s.statusByte.getLsbD 0 = s.attn :=
  getLsbD_of_flags _ _ _ _ _ _ _ _ rfl

theorem execChipSelectAssertion_running {s : State} (h : s.phase = .running) :
    execChipSelectAssertion s = .next { s with port := { s.port with frame := some s.statusByte } } := by
  have : execChipSelectAssertion s = .next s.captureStatus := by
    unfold execChipSelectAssertion
    rw [h]
  exact this

theorem stateAfterPortReset_eq (p : PortState) : stateAfterPortReset p = if p = .starting then .starting else .idle := by
  cases p <;> rfl

/-- The causes of R186 that are present and enabled by their bit. -/
theorem presentCauses_enabled (a : Attention) (m : BitVec 12) :
    (∃ n, n < 12 ∧ (presentCauses a).getLsbD n = true ∧ m.getLsbD n = true) ↔
      ((m.getLsbD 0 = true ∧ a.utilityChange ≠ none) ∨ (m.getLsbD 1 = true ∧ a.marginShort ≠ 0) ∨
        (m.getLsbD 2 = true ∧ a.unauthorisedBypass ≠ 0) ∨ (m.getLsbD 3 = true ∧ a.permitOverdue ≠ 0) ∨
        (m.getLsbD 4 = true ∧ a.permitChanged ≠ 0) ∨ (m.getLsbD 5 = true ∧ a.cabinetLost ≠ 0) ∨
        (m.getLsbD 6 = true ∧ a.cabinetBack ≠ 0) ∨ (m.getLsbD 7 = true ∧ a.visitItemInterrupted ≠ 0) ∨
        (m.getLsbD 8 = true ∧ a.visitOvertime ≠ 0) ∨ (m.getLsbD 9 = true ∧ a.stringStateChanged ≠ 0) ∨
        (m.getLsbD 10 = true ∧ a.storeFault = true) ∨ (m.getLsbD 11 = true ∧ a.start ≠ none)) := by
  have hex : ∀ P : Nat → Prop, (∃ n, n < 12 ∧ P n) ↔
      P 0 ∨ P 1 ∨ P 2 ∨ P 3 ∨ P 4 ∨ P 5 ∨ P 6 ∨ P 7 ∨ P 8 ∨ P 9 ∨ P 10 ∨ P 11 := by
    intro P
    constructor
    · rintro ⟨n, hn, h⟩
      interval_cases n <;> simp only [h, true_or, or_true]
    · rintro (h | h | h | h | h | h | h | h | h | h | h | h) <;> exact ⟨_, by decide, h⟩
  rw [hex]
  simp only [presentCauses, BitVec.getLsbD_ofBoolListLE]
  simp [Option.isSome_iff_ne_none, and_comm]

/-- A request of the catalogue is a frame of its length. -/
theorem exec_catalogue {i : Instr} {c : Byte} {n : Nat} {f : RequestFrame} (hr : requestRow i = some (c, n))
    (hf : requestFrame i = some f) (s : State) :
    ∃ act, exec i s = .next (s.frameEvent (requestLength f) (fun _ => []) act) := by
  cases i <;> cases hr <;> cases hf <;> exact ⟨_, rfl⟩

/-- A command that is a frame is taken as one frame of its number of bytes (R176). -/
theorem exec_frame {i : Instr} {bs : List Byte} (h : encodeFrame i = some bs) (s : State) :
    ∃ tail act, exec i s = .next (s.frameEvent bs.length tail act) := by
  cases hr : requestRow i with
  | some e =>
    obtain ⟨c, n⟩ := e
    cases hf : requestFrame i with
    | some f =>
      simp only [encodeFrame, hr, hf, Option.some.injEq] at h
      obtain ⟨act, he⟩ := exec_catalogue hr hf s
      have hl : bs.length = requestLength f := by rw [← h]; simp only [List.length_cons, requestLength]; omega
      exact ⟨_, act, hl ▸ he⟩
    | none => cases i <;> cases hr <;> cases hf
  | none =>
    have ho : encodeOtherFrame i = some bs := by simpa only [encodeFrame, hr] using h
    cases i with
    | unknownRequest c f =>
      cases ho
      refine ⟨fun _ => [], State.judgeUnknown, ?_⟩
      rw [show (frameRequest :: c :: requestTail f).length = requestLength f by
        simp only [List.length_cons, requestLength]; omega]
      rfl
    | statusPeek b => cases ho; exact ⟨_, _, rfl⟩
    | disregardedFrame b rest => cases ho; rw [List.length_cons, Nat.add_comm]; exact ⟨_, _, rfl⟩
    | fetch rest => cases ho; rw [List.length_cons, Nat.add_comm]; exact ⟨_, _, rfl⟩
    | urgent o rest =>
      cases ho
      refine ⟨fun _ => [], State.placeOrder o, ?_⟩
      rw [show (frameUrgent :: o :: rest).length = 2 + rest.length by simp only [List.length_cons]; omega]
      rfl
    | urgentCancel rest => cases ho; rw [List.length_cons, Nat.add_comm]; exact ⟨_, _, rfl⟩
    | portReset rest => cases ho; rw [List.length_cons, Nat.add_comm]; exact ⟨_, _, rfl⟩
    | _ => cases ho

end Sys2Proof.Machine

section
open Sys2Proof Sys2Proof.Machine

/-- Settles O39: what a frame opens with, what its type does, and what it leaves. -/
theorem framesThatAreNoRequest : Obligations.FramesThatAreNoRequest := by
  refine ⟨fun b s h => ?_, fun b rest s h => ?_, fun s h => ?_, fun b status s h hf => ?_, State.statusByte_bits,
    fun s a m ha hm => ?_, fun rest o s h ho => ?_, fun rest s h ho => ?_, fun rest s h => ?_, fun i bs s h hp => ?_⟩
  · exact congrArg Host.Outcome.next (State.frameEvent_plain h)
  · exact congrArg Host.Outcome.next (State.frameEvent_plain h)
  · exact execChipSelectAssertion_running h
  · refine congrArg Host.Outcome.next ((State.frameEvent_plain h).trans ?_)
    simp [State.framedPort, State.seenAfter, State.frameStatus, hf, frameOut]
  · rw [State.attn_iff, ← ha, ← hm]
    exact and_congr_right fun _ => presentCauses_enabled a m
  · have he : (s.frameEvent (1 + rest.length) (fun _ => []) State.cancelOrder) =
        { s with port := { s.framedPort (1 + rest.length) [] with urgent := none, dropped := true } } := by
      rw [State.frameEvent_running _ _ _ _ h, State.cancelOrder, show (s.withPort s.openedPort).port.urgent = some o from ho]
      rfl
    refine ⟨_, congrArg Host.Outcome.next he, ?_, ?_, rfl⟩
    · exact (State.statusByte_bits _).2.2.2.1
    · exact (State.statusByte_bits _).2.2.2.2.2.1
  · have he : (s.frameEvent (1 + rest.length) (fun _ => []) State.cancelOrder) =
        { s with port := { s.framedPort (1 + rest.length) [] with late := true } } := by
      rw [State.frameEvent_running _ _ _ _ h, State.cancelOrder, show (s.withPort s.openedPort).port.urgent = none from ho]
      rfl
    exact ⟨_, congrArg Host.Outcome.next he, (State.statusByte_bits _).2.2.2.2.1, rfl⟩
  · refine congrArg Host.Outcome.next ((State.frameEvent_running _ _ _ _ h).trans ?_)
    rw [← stateAfterPortReset_eq]
    rfl
  · obtain ⟨tail, act, he⟩ := exec_frame h s
    rw [he, State.frameEvent_off _ _ _ _ hp]

end

namespace Sys2Proof.Machine

/-! ## Slot starts -/

theorem State.pollDue_iff (s : State) : s.pollDue = true ↔
    s.operating = true ∧ s.link.flight = none ∧ s.link.breakDue = false ∧ s.cycle.2 ≠ [] := by
  simp [State.pollDue, State.slotDue, and_assoc]

theorem State.operating_iff (s : State) : s.operating = true ↔ s.phase = .running ∧ s.port.state ≠ .starting := by
  simp [State.operating]

/-- The list of a cycle is empty exactly when every Present cabinet is Lost and the counter is not 0 (R26). -/
theorem State.listFor_eq_nil (s : State) (n : Nat) :
    s.listFor n = [] ↔ ∀ c x, s.cabinet? c = some x → x.link = .lost ∧ n ≠ 0 := by
  simp only [State.listFor, List.map_eq_nil_iff, List.filter_eq_nil_iff, Prod.forall]
  refine forall_congr' fun c => forall_congr' fun x => ?_
  rw [mem_entries]
  simp [State.cabinet?]

theorem State.cycle_list_eq_nil (s : State) : s.cycle.2 = [] ↔
    s.link.remaining = [] ∧ ∀ c x, s.cabinet? c = some x → x.link = .lost ∧ (s.link.counter + 1) % 8 ≠ 0 := by
  unfold State.cycle
  by_cases h : s.link.remaining = []
  · simp only [h, if_true, true_and]
    exact s.listFor_eq_nil _
  · simp [h]

/-- What a slot start reads of the state is the same in `t` as in `s`: the cycle and the link states. -/
structure State.SlotAlike (s t : State) : Prop where
  phase : t.phase = s.phase
  started : s.port.state ≠ .starting → t.port.state ≠ .starting
  link : { t.link with nextSerial := s.link.nextSerial } = s.link
  cabinets : ∀ c y, t.cabinet? c = some y → ∃ x, s.cabinet? c = some x ∧ x.link = y.link
  present : ∀ c x, s.cabinet? c = some x → ∃ y, t.cabinet? c = some y ∧ x.link = y.link

theorem State.SlotAlike.pollDue {s t : State} (h : s.SlotAlike t) (hs : s.pollDue = true) : t.pollDue = true := by
  rw [State.pollDue_iff, State.operating_iff] at hs ⊢
  obtain ⟨⟨hp, hst⟩, hf, hb, hc⟩ := hs
  have hl : t.link.flight = s.link.flight ∧ t.link.breakDue = s.link.breakDue ∧ t.link.remaining = s.link.remaining ∧
      t.link.counter = s.link.counter :=
    ⟨(congrArg Link.flight h.link :), (congrArg Link.breakDue h.link :), (congrArg Link.remaining h.link :),
      (congrArg Link.counter h.link :)⟩
  obtain ⟨h1, h2, h3, h4⟩ := hl
  refine ⟨⟨h.phase.trans hp, h.started hst⟩, h1.trans hf, h2.trans hb, fun hn => hc ?_⟩
  rw [State.cycle_list_eq_nil] at hn ⊢
  refine ⟨h3 ▸ hn.1, fun c x hx => ?_⟩
  obtain ⟨y, hy, hxy⟩ := h.present c x hx
  rw [hxy, ← h4]
  exact hn.2 c y hy

/-! ## Urgent orders (R7, R132, R133) -/

theorem State.takeUrgent_none {s : State} (h : s.port.urgent = none) : s.takeUrgent = s := by
  simp only [State.takeUrgent, h]

theorem State.takeUrgent_some {s : State} {o : Order} (h : s.port.urgent = some o) :
    s.takeUrgent = (s.withPort { s.port with urgent := none }).runOrder o := by
  simp only [State.takeUrgent, h]
  rfl

/-- RECALL ALL is a pass over the permits and a recomputation. -/
theorem State.recallAll_passed (s : State) : ∃ u : State, s.recallAll = u ∧ s.PermitsPassed u Config.permitCount recallWork ∧
    u.groups = (numbers 4).map (u.figures none) :=
  ⟨_, rfl, s.recallSlots_passed.recompute, State.recompute_current _⟩

theorem State.runOrder_hold (s : State) : s.runOrder .hold = { s with
    floor := { s.floor with hold := true }
    ask := none
    port := if s.ask.isSome = true then
      { s.port with state := .replyReady, reply := some { code := 0x30, result := 0x06, body := [] } } else s.port } :=
  State.endAsk_eq _ _

theorem State.PermitsPassed.linkAlike {s t : State} {n : Nat} {out : Permit → PermitWork} (h : s.PermitsPassed t n out) (c : Nat) :
    ∃ f : Cabinet → Cabinet, (∀ x, (f x).link = x.link) ∧ t.cabinet? c = (s.cabinet? c).map f := by
  rcases h.notices c with ⟨h1, -⟩ | ⟨_, _, m, serial, -, -, -, -, -, h1⟩
  · exact ⟨id, fun _ => rfl, by rw [h1]; simp⟩
  · exact ⟨fun x => { x with notice := some { notice := m, serial := serial } }, fun _ => rfl, h1⟩

/-- An order leaves alone what a slot start reads. -/
theorem State.runOrder_slotAlike (s : State) (o : Order) : s.SlotAlike (s.runOrder o) := by
  have hsame : ∀ t : State, t.phase = s.phase → t.link = s.link → t.cabinets = s.cabinets →
      (s.port.state ≠ .starting → t.port.state ≠ .starting) → s.SlotAlike t := fun t h1 h2 h3 h4 =>
    ⟨h1, h4, by rw [h2], fun c y hy => ⟨y, by rw [State.cabinet?, ← h3]; exact hy, rfl⟩,
      fun c x hx => ⟨x, by rw [State.cabinet?, h3]; exact hx, rfl⟩⟩
  cases o with
  | hold =>
    rw [State.runOrder_hold]
    refine hsame _ rfl rfl rfl fun hs => ?_
    cases s.ask with
    | none => exact hs
    | some a => exact fun h => by cases h
  | release => exact hsame _ rfl rfl rfl id
  | recallAll =>
    obtain ⟨u, he, hp, -⟩ := s.recallAll_passed
    show s.SlotAlike s.recallAll
    rw [he]
    refine ⟨hp.phase, fun h => by rw [hp.port]; exact h, hp.link, fun c y hy => ?_, fun c x hx => ?_⟩
    · obtain ⟨f, hf, hc⟩ := hp.linkAlike c
      rw [hc, Option.map_eq_some_iff] at hy
      obtain ⟨x, hx, rfl⟩ := hy
      exact ⟨x, hx, (hf x).symm⟩
    · obtain ⟨f, hf, hc⟩ := hp.linkAlike c
      exact ⟨f x, by rw [hc, hx]; rfl, (hf x).symm⟩

theorem State.runOrder_urgent (s : State) (o : Order) : (s.runOrder o).port.urgent = s.port.urgent := by
  cases o with
  | hold =>
    rw [State.runOrder_hold]
    cases s.ask <;> rfl
  | release => rfl
  | recallAll =>
    obtain ⟨u, he, hp, -⟩ := s.recallAll_passed
    show s.recallAll.port.urgent = _
    rw [he, hp.port]

/-- A taken order is no longer in the slot, so a second slot start takes none. -/
theorem State.takeUrgent_urgent (s : State) : s.takeUrgent.port.urgent = none := by
  cases h : s.port.urgent with
  | none => rw [State.takeUrgent_none h, h]
  | some o => rw [State.takeUrgent_some h, State.runOrder_urgent]; rfl

theorem State.takeUrgent_pollDue {s : State} (h : s.pollDue = true) : s.takeUrgent.pollDue = true := by
  cases hu : s.port.urgent with
  | none => rw [State.takeUrgent_none hu]; exact h
  | some o => rw [State.takeUrgent_some hu]; exact (State.runOrder_slotAlike _ o).pollDue h

theorem blind_formPoll : PortBlind State.formPoll := by
  intro p s
  unfold State.formPoll
  have hc : (s.withPort p).cycle = s.cycle := rfl
  rw [hc]
  split
  · rfl
  · have hx : ∀ c, (s.withPort p).cabinet? c = s.cabinet? c := fun _ => rfl
    rw [hx]
    split <;> rfl

/-- What RECALL ALL makes of the permits, in the rows of R133. -/
theorem recallWork_left (p : Permit) : (recallWork p).left = (match p.state with
    | .granted => none
    | .active => some { p with recallAsked := true }
    | .overdue => some { p with recallAsked := true }
    | .returning => some p) := by
  unfold recallWork
  cases p.state <;> rfl

theorem recallWork_note (p : Permit) : (recallWork p).note =
    if p.state = .returning then none else some (if p.state = .granted then .withdraw else .recall) := by
  unfold recallWork
  cases p.state <;> rfl

theorem recallWork_changed (p : Permit) : (recallWork p).changed = (p.state == .granted) := by
  unfold recallWork
  cases p.state <;> rfl

theorem recallWork_overdue (p : Permit) : (recallWork p).overdue = false := by
  unfold recallWork
  cases p.state <;> rfl

theorem recallWork_save (p : Permit) : (recallWork p).save = true ↔ p.state ≠ .returning := by
  unfold recallWork
  cases p.state <;> simp [PermitWork.close, PermitWork.quiet]

theorem State.breakSlot_levels {w : State} (hp : w.phase = .running) (hl : w.link.line = .linkBreak) (bit : Nat) :
    w.linkDir bit = decide (bit < 24) ∧ w.linkTx bit = !decide (bit < 24) := by
  have hd : w.linkDir bit = decide (bit < 24) := by simp [State.linkDir, hp, hl, Line.levels]
  refine ⟨hd, ?_⟩
  rw [State.linkTx, hd, hl]
  by_cases hb : bit < 24
  · rw [Line.levels, List.getElem?_replicate, if_pos hb]
    simp [hb]
  · simp [hb]

end Sys2Proof.Machine

section
open Sys2Proof Sys2Proof.Machine

/-- Settles O43: an order leaves what a slot start reads, a poll leaves the port, and RECALL ALL is a pass over the permits. -/
theorem slotStartTakesTheOrder : Obligations.SlotStartTakesTheOrder := by
  refine ⟨fun s w ho hf hb hw => ⟨?_, fun bit => ?_⟩, fun s ho hf hb hr hc => ?_, fun s => ?_, fun s t hd ht => ?_,
    fun s h => State.takeUrgent_none h, fun s h => ?_, fun s h => ?_, fun s t hz hu ht => ?_⟩
  · have : s.breakDueNow = true := by simp [State.breakDueNow, State.slotDue, ho, hf, hb]
    rw [hw]
    exact congrArg Host.Outcome.next (if_pos this)
  · exact State.breakSlot_levels (by rw [hw]; exact ((State.operating_iff s).mp ho).1) (by rw [hw]) bit
  · have hn : s.cycle.2 = [] := s.cycle_list_eq_nil.mpr ⟨hr, hc⟩
    have : s.idleDue = true := by simp [State.idleDue, State.slotDue, ho, hf, hb, hn]
    have h1 : s.cycle.1 = (s.link.counter + 1) % 8 := by simp [State.cycle, hr]
    rw [← h1]
    exact congrArg Host.Outcome.next (if_pos this)
  · show Host.Outcome.next _ = _
    by_cases hd : s.pollDue = true
    · rw [if_pos hd, if_pos hd]
      refine congrArg Host.Outcome.next (Eq.trans ?_ (if_pos (State.takeUrgent_pollDue hd)).symm)
      simp only [if_true, State.takeUrgent_none s.takeUrgent_urgent]
    · rw [if_neg hd, if_neg hd]
  · have hpoll : ∀ u : State, u.pollDue = true → exec (.pollSlot false) u = .next u.formPoll.takeUrgent := fun u hu =>
      congrArg Host.Outcome.next (if_pos hu)
    set q : Port := { s.port with urgent := none } with hq
    have hb : (s.withPort q).formPoll = s.formPoll.withPort q := blind_formPoll q s
    have ht' : t = s.formPoll.withPort q := by
      have h1 := Host.Outcome.next.inj ((hpoll (s.withPort q) hd).symm.trans ht)
      rw [hb, State.takeUrgent_none rfl] at h1
      exact h1.symm
    rw [hpoll s hd, ht']
    have hp : s.formPoll.port = s.port := blind_formPoll.port s
    rw [← hp]
    rfl
  · rw [State.takeUrgent_some h]; rfl
  · rw [State.takeUrgent_some h, State.runOrder_hold]
    rfl
  · obtain ⟨u, he, hp, hg⟩ := (s.withPort { s.port with urgent := none }).recallAll_passed
    have htu : t = u := by rw [ht, State.takeUrgent_some hu]; exact he
    subst htu
    have hz' : (s.withPort { s.port with urgent := none }).Sized := ⟨hz.1, hz.2, hz.3, hz.4, hz.5, hz.6, hz.7⟩
    refine ⟨hp.port, hp.floor, hp.ask, fun k => ?_, fun k p x hk hr hx hone => ?_, fun c hc => ?_, fun id => ?_, fun i hi => ?_,
      ?_, hg, hp.link, hp.strings, hp.visits, hp.profiles, hp.images, hp.writer⟩
    · rw [hp.permit_of_full hz' rfl k]
      exact congrArg (Option.bind (s.permit? k)) (funext recallWork_left)
    · refine hp.cabinet_of_posted hz' rfl hx (fun j q m hj hq hm => ?_) hk rfl (by rw [recallWork_note, if_neg hr])
      have hjk := hone j q hj hq
      subst hjk
      rw [show s.permit? j = some q from hj] at hk
      cases hk
      rw [recallWork_note, if_neg hr] at hm
      exact (Option.some.inj hm).symm
    · exact hp.cabinet_of_none fun k p hk hpc => by
        rw [recallWork_note, if_pos]
        by_contra hr
        exact hc k p hk hr hpc
    · rw [hp.queue]
      refine or_congr_right (exists_congr fun k => exists_congr fun p => ⟨fun ⟨_, h1, h2, h3⟩ => ?_, fun ⟨h1, h2, h3⟩ => ?_⟩)
      · exact ⟨h1, (recallWork_save p).mp h2, h3⟩
      · have hk := (tget_some _ _ _ h1).2
        rw [hz.permits] at hk
        exact ⟨hk, h1, (recallWork_save p).mpr h2, h3⟩
    · rw [hp.changed i hi]
      simp only [recallWork_changed]
      rw [decide_eq_true (show i < Config.permitCount from hi), Bool.true_and]
      rfl
    · refine hp.rest_of_overdue (BitVec.eq_of_getLsbD_eq fun i hi => ?_)
      rw [hp.overdue i hi]
      simp [recallWork_overdue]

end

namespace Sys2Proof.Machine

/-! ## Characters and replies of the cabinet link (R21 to R23, R30, R193) -/

theorem bitValue_eq (x : Sample) (w : Nat) : bitValue x w = flagBit (majority x) w := rfl

theorem receive_bits (c : RawChar) : (receive c).data.getLsbD 7 = majority c.d7 ∧ (receive c).data.getLsbD 6 = majority c.d6 ∧
    (receive c).data.getLsbD 5 = majority c.d5 ∧ (receive c).data.getLsbD 4 = majority c.d4 ∧
    (receive c).data.getLsbD 3 = majority c.d3 ∧ (receive c).data.getLsbD 2 = majority c.d2 ∧
    (receive c).data.getLsbD 1 = majority c.d1 ∧ (receive c).data.getLsbD 0 = majority c.d0 := by
  refine getLsbD_of_flags _ _ _ _ _ _ _ _ ?_
  simp only [receive, bitValue_eq]
  congr 1
  omega

theorem majority_iff (x : Sample) : majority x = true ↔
    (x.first = true ∧ x.second = true) ∨ (x.first = true ∧ x.third = true) ∨ (x.second = true ∧ x.third = true) := by
  simp [majority, or_assoc]

theorem unanimous_iff (x : Sample) : unanimous x = true ↔ x.first = x.second ∧ x.second = x.third := by
  simp [unanimous]

theorem leAt_of_chars {data : List Byte} {i : Nat} {low high : Byte} (hl : data[i]? = some low) (hh : data[i + 1]? = some high) :
    leAt data i = low.toNat + 256 * high.toNat := by
  simp [leAt, hl, hh]

theorem reportOf_block (halted : Bool) (data : List Byte) {p : Nat} (h1 : 1 ≤ p) (h4 : p ≤ 4) :
    (reportOf halted data).block p = blockAt data p := by
  interval_cases p <;> rfl

/-- The five values of a position's block, as the characters of the report give them (R193). -/
theorem blockAt_of_chars {data : List Byte} (hlen : data.length = 46) {p : Nat} (h4 : p ≤ 4) {v : Nat → Nat}
    (hv : ∀ j low high, j < 5 → data[5 + 10 * (p - 1) + 2 * j]? = some low → data[6 + 10 * (p - 1) + 2 * j]? = some high →
      v j = low.toNat + 256 * high.toNat) :
    blockAt data p =
      { voltage := v 0, current := signed16 (v 1), temperature := signed16 (v 2), delta := v 3, resistance := v 4 } := by
  have hat : ∀ j, j < 5 → leAt data (5 + 10 * (p - 1) + 2 * j) = v j := by
    intro j hj
    have hl := List.getElem?_eq_getElem (l := data) (i := 5 + 10 * (p - 1) + 2 * j) (by omega)
    have hh := List.getElem?_eq_getElem (l := data) (i := 6 + 10 * (p - 1) + 2 * j) (by omega)
    rw [hv j _ _ hj hl hh]
    refine leAt_of_chars hl ?_
    rw [← hh]
    congr 1
    omega
  simp only [blockAt]
  rw [← hat 0 (by omega), ← hat 1 (by omega), ← hat 2 (by omega), ← hat 3 (by omega), ← hat 4 (by omega)]
  rfl

/-- A reply that is not judged failed is sound in every respect of R30. -/
theorem judgeReply_cases (c : Nat) (cs : List RxChar) : judgeReply c cs = .failed ∨
    (charactersSound cs = true ∧ addressEchoed c cs = true ∧ checkMatches (cs.map RxChar.data) = true ∧
      ∃ code k, (cs.map RxChar.data)[1]? = some code ∧ replyCodeOf code = some k ∧ cs.length = expectedLength k) := by
  simp only [judgeReply]
  split
  · rename_i hs
    obtain ⟨h1, h2⟩ := Bool.and_eq_true_iff.mp hs
    split
    · exact .inl rfl
    · rename_i code hcode
      split
      · exact .inl rfl
      · rename_i k hk
        split
        · rename_i hl
          rw [List.length_map] at hl
          exact .inr ⟨h1, h2, hl.2, code, k, hcode, hk, hl.1⟩
        · exact .inl rfl
  · exact .inl rfl

theorem charactersSound_iff (a : RxChar) (rest : List RxChar) : charactersSound (a :: rest) = true ↔
    (∀ d ∈ a :: rest, d.framing = false ∧ d.noise = false) ∧ ∀ d ∈ rest, d.mark = false := by
  simp only [charactersSound, Bool.and_eq_true, Bool.not_eq_true', List.all_eq_true, List.forall_mem_cons]
  constructor
  · rintro ⟨⟨h1, h2⟩, h3⟩
    exact ⟨⟨⟨h1, h2⟩, fun d hd => (h3 d hd).1⟩, fun d hd => (h3 d hd).2⟩
  · rintro ⟨⟨⟨h1, h2⟩, h3⟩, h4⟩
    exact ⟨⟨h1, h2⟩, fun d hd => ⟨h3 d hd, h4 d hd⟩⟩

/-- What the two low bits of the code character name, and the length they fix (R30, R193). -/
theorem replyCodeOf_some {b : Byte} {k : ReplyCode} (h : replyCodeOf b = some k) :
    (b.toNat % 4 = 1 ∧ k = .report) ∨ (b.toNat % 4 = 2 ∧ k = .busy) ∨ (b.toNat % 4 = 3 ∧ k = .halted) := by
  unfold replyCodeOf at h
  split at h
  · rename_i h1; exact .inl ⟨h1, (Option.some.inj h).symm⟩
  · split at h
    · rename_i h1; exact .inr (.inl ⟨h1, (Option.some.inj h).symm⟩)
    · split at h
      · rename_i h1; exact .inr (.inr ⟨h1, (Option.some.inj h).symm⟩)
      · cases h

theorem checkMatches_some {data : List Byte} {d : Byte} (h : data.getLast? = some d) :
    checkMatches data = true ↔ d = ~~~(data.dropLast.foldl (· + ·) 0) := by
  simp [checkMatches, h, checkValue]

/-- A sound reply is judged by its code. -/
theorem judgeReply_of_sound {c : Nat} {cs : List RxChar} {code : Byte} {k : ReplyCode} (h1 : charactersSound cs = true)
    (h2 : addressEchoed c cs = true) (h3 : checkMatches (cs.map RxChar.data) = true)
    (h4 : (cs.map RxChar.data)[1]? = some code) (h5 : replyCodeOf code = some k) (h6 : cs.length = expectedLength k) :
    judgeReply c cs = (match k with
      | .busy => .busy
      | .report => .report (reportOf false (cs.map RxChar.data))
      | .halted => .report (reportOf true (cs.map RxChar.data))) := by
  have h7 : (cs.map RxChar.data).length = expectedLength k ∧ checkMatches (cs.map RxChar.data) = true :=
    ⟨by rw [List.length_map]; exact h6, h3⟩
  simp only [judgeReply, h1, h2, Bool.and_self, if_true, h4, h5, if_pos h7]
  cases k <;> rfl

end Sys2Proof.Machine

section
open Sys2Proof Sys2Proof.Machine

/-- Settles O45, field by field, and by the facts that a reply not judged failed has. -/
theorem unsoundRepliesFail : Obligations.UnsoundRepliesFail := by
  refine ⟨fun c two htwo => ?_, fun halted data rep hlen hrep => ?_, fun n => ?_, fun c cs hbad => ?_,
    fun c a code rest hm ha hsound hmarks hcheck => ?_⟩
  · have h2 : ∀ x, two x = majority x := fun x => by
      rw [Bool.eq_iff_iff, htwo, majority_iff]
    obtain ⟨b7, b6, b5, b4, b3, b2, b1, b0⟩ := receive_bits c
    refine ⟨fun i x hx => ?_, (h2 _).symm, ?_, ?_⟩
    · rw [h2]
      rcases i with _ | _ | _ | _ | _ | _ | _ | _ | i
      · cases hx; exact b0
      · cases hx; exact b1
      · cases hx; exact b2
      · cases hx; exact b3
      · cases hx; exact b4
      · cases hx; exact b5
      · cases hx; exact b6
      · cases hx; exact b7
      · simp at hx
    · rw [h2]
      simp [receive]
    · simp only [← unanimous_iff]
      rw [← List.all_eq_true]
      simp only [receive, Bool.not_eq_false']
  · subst hrep
    refine ⟨rfl, fun a h => ?_, fun a h => ?_, fun low high hl hh => leAt_of_chars hl hh, fun p v h1 h4 hv => ?_⟩
    · simp [reportOf, h]
    · simp [reportOf, h]
    · rw [reportOf_block _ _ h1 h4, blockAt_of_chars hlen h4 hv]
      rfl
  · rcases n with _ | _ | _ | _ | _ | _ | n
    · rfl
    · rfl
    · rfl
    · rfl
    · rfl
    · rfl
    · simp [modeOfCode]
  · rcases judgeReply_cases c cs with hf | ⟨hs, he, hk, code, k, hcode, hrc, hlen⟩
    · exact hf
    exfalso
    cases cs with
    | nil => cases he
    | cons a rest =>
      rw [charactersSound_iff] at hs
      simp only [addressEchoed, Bool.and_eq_true, beq_iff_eq] at he
      rcases hbad with ⟨d, hd, hb⟩ | ⟨d, hd, hb⟩ | hb | hb | hb | hb
      · simp [hs.1 d hd] at hb
      · rw [hs.2 d hd] at hb; cases hb
      · rcases hb a rfl with h | h
        · rw [he.1] at h; cases h
        · exact h he.2
      · cases k <;> simp only [expectedLength] at hlen <;> omega
      · have h1 := hb code hcode
        rcases replyCodeOf_some hrc with ⟨hc, rfl⟩ | ⟨hc, rfl⟩ | ⟨hc, rfl⟩ <;> simp only [expectedLength] at hlen <;> omega
      · cases hl : ((a :: rest).map RxChar.data).getLast? with
        | none => simp at hl
        | some d => exact hb d hl ((checkMatches_some hl).mp hk)
  · have h1 : charactersSound (a :: code :: rest) = true := (charactersSound_iff _ _).mpr ⟨hsound, hmarks⟩
    have h2 : addressEchoed c (a :: code :: rest) = true := by simp [addressEchoed, hm, ha]
    have h3 : checkMatches ((a :: code :: rest).map RxChar.data) = true := (checkMatches_some hcheck).mpr rfl
    refine ⟨fun hc hl => ?_, fun hc hl => ?_, fun hc hl => ?_⟩
    · exact judgeReply_of_sound h1 h2 h3 rfl (k := .busy) (by simp [replyCodeOf, hc]) (by simp [hl, expectedLength])
    · exact judgeReply_of_sound h1 h2 h3 rfl (k := .report) (by simp [replyCodeOf, hc]) (by simp [hl, expectedLength])
    · exact judgeReply_of_sound h1 h2 h3 rfl (k := .halted) (by simp [replyCodeOf, hc]) (by simp [hl, expectedLength])

end

namespace Sys2Proof.Machine

/-! ## The occupied entries in ascending order -/

theorem entriesFrom_ascending {α : Type} (t : List (Option α)) (k : Nat) :
    (∀ e ∈ entriesFrom k t, k ≤ e.1) ∧ (entriesFrom k t).Pairwise (fun a b => a.1 < b.1) := by
  induction t generalizing k with
  | nil => exact ⟨by simp [entriesFrom], by simp [entriesFrom]⟩
  | cons a t ih =>
    obtain ⟨hle, hp⟩ := ih (k + 1)
    cases a with
    | none => exact ⟨fun e he => by have := hle e he; omega, hp⟩
    | some a =>
      refine ⟨fun e he => ?_, List.pairwise_cons.mpr ⟨fun e he => hle e he, hp⟩⟩
      rcases List.mem_cons.mp he with rfl | he
      · exact le_rfl
      · have := hle e he; omega

theorem entries_ascending {α : Type} (t : List (Option α)) : (entries t).Pairwise (fun a b => a.1 < b.1) :=
  (entriesFrom_ascending t 1).2

/-- The first entry of an ascending list that meets a condition has the lowest number of those that meet it. -/
theorem find?_lowest {α : Type} {l : List (Nat × α)} {p : Nat × α → Bool} (hl : l.Pairwise (fun a b => a.1 < b.1)) {e d : Nat × α}
    (he : l.find? p = some e) (hd : d ∈ l) (hp : p d = true) : e.1 ≤ d.1 := by
  obtain ⟨-, as, bs, rfl, has⟩ := List.find?_eq_some_iff_append.mp he
  rcases List.mem_append.mp hd with h | h
  · have := has d h
    rw [hp] at this; cases this
  · rcases List.mem_cons.mp h with rfl | h
    · exact le_rfl
    · exact Nat.le_of_lt ((List.pairwise_cons.mp (List.pairwise_append.mp hl).2.1).1 d h)

/-- Two ascending lists with the same members are one. -/
theorem ascending_ext {α : Type} {l m : List (Nat × α)} (hl : l.Pairwise (fun a b => a.1 < b.1))
    (hm : m.Pairwise (fun a b => a.1 < b.1)) (h : ∀ e, e ∈ l ↔ e ∈ m) : l = m := by
  have hne : ∀ {x y : Nat × α}, x.1 < y.1 → x ≠ y := fun hlt he => by rw [he] at hlt; exact lt_irrefl _ hlt
  have hperm : l.Perm m := (List.perm_ext_iff_of_nodup (hl.imp hne) (hm.imp hne)).mpr h
  exact hperm.eq_of_pairwise (fun a b _ _ h1 h2 => absurd (h1.trans h2) (lt_irrefl _)) hl hm

theorem entriesFrom_filter_length {α : Type} (p : α → Bool) (t : List (Option α)) (k : Nat) :
    ((entriesFrom k t).filter (fun e => p e.2)).length = (t.filter (fun a => a.any p)).length := by
  induction t generalizing k with
  | nil => rfl
  | cons a t ih =>
    cases a with
    | none => simpa [entriesFrom] using ih (k + 1)
    | some a =>
      by_cases h : p a = true
      · simpa [entriesFrom, h] using ih (k + 1)
      · simpa [entriesFrom, h] using ih (k + 1)

theorem State.stringAt_lowest {s : State} {c p j k : Nat} {q r : StringRecord} (h : s.stringAt c p = some (j, q))
    (hr : s.string? k = some r) (hc : r.cabinet = some c) (hp : r.position = p) (hs : r.state ≠ .retired) : j ≤ k :=
  find?_lowest (entries_ascending s.strings) h (d := (k, r)) ((mem_entries _ _ _).mpr hr) (by simp [hc, hp, hs])

/-! ## Reply bodies (R192, R194) -/

theorem be1s_eq (z : Int) : be1s z = [BitVec.ofInt 8 z] := by
  refine congrArg (fun b => [b]) (BitVec.eq_of_toNat_eq ?_)
  rw [BitVec.toNat_ofNat, BitVec.toNat_ofInt]
  omega

theorem be2s_eq (z : Int) : be2s z = be2 (BitVec.ofInt 16 z).toNat := by
  rw [BitVec.toNat_ofInt]; rfl

theorem be4s_eq (z : Int) : be4s z = be4 (BitVec.ofInt 32 z).toNat := by
  rw [BitVec.toNat_ofInt]; rfl

theorem groupBody_length (g : Group) : (groupBody g).length = 17 := rfl

/-- The `i`-th piece of a body made of pieces of one length. -/
theorem flatMap_piece {α β : Type} {f : α → List β} {n : Nat} (hf : ∀ a, (f a).length = n) {l : List α} {i : Nat} {a : α}
    (h : l[i]? = some a) : ((l.flatMap f).drop (n * i)).take n = f a := by
  induction l generalizing i with
  | nil => simp at h
  | cons b l ih =>
    cases i with
    | zero =>
      cases h
      rw [List.flatMap_cons, Nat.mul_zero, List.drop_zero, List.take_left' (hf _)]
    | succ i =>
      rw [List.flatMap_cons, Nat.mul_succ, Nat.add_comm, ← List.drop_drop, List.drop_left' (hf _)]
      exact ih h

theorem flatMap_length_of_pieces {α β : Type} {f : α → List β} {n : Nat} (hf : ∀ a, (f a).length = n) (l : List α) :
    (l.flatMap f).length = n * l.length := by
  induction l with
  | nil => rfl
  | cons b l ih => rw [List.flatMap_cons, List.length_append, hf, ih, List.length_cons, Nat.mul_succ, Nat.add_comm]

/-- The first eight bytes of FLOOR READ. -/
def State.floorHead (s : State) : List Byte :=
  be1 (utilityCode s.floor.utility) ++ be1 (if s.floor.hold = true then 1 else 0) ++ be4 s.floor.clock.toNat ++
    be1 (if s.floor.clockSet = true then 1 else 0) ++ be1 (startCauseCode s.floor.cause)

theorem State.floorBody_eq (s : State) : s.floorBody = s.floorHead ++ s.groups.flatMap groupBody := rfl

theorem itemsBody_eq (items : List Item) (n : Nat) :
    itemsBody (n + 1) items = (items.zipIdx n).flatMap (fun e => be1 (e.2 + 1) ++ itemBody e.1) := by
  induction items generalizing n with
  | nil => rfl
  | cons it t ih => rw [itemsBody, ih, List.zipIdx_cons, List.flatMap_cons]

/-- The slots of a list that shows at each place the lowest slot that stands there are those of the string list (R12). -/
theorem State.stringList_eq {s : State} {c : Nat} {slots : List Nat} (hl : slots.length = 4)
    (h : ∀ i k, slots[i]? = some k →
      (∀ r, k ≠ 0 → s.string? k = some r → r.cabinet = some c ∧ r.position = i + 1 ∧ r.state ≠ .retired) ∧
      (k ≠ 0 → (s.string? k).isSome = true ∧ ∀ j q, s.string? j = some q → q.cabinet = some c → q.position = i + 1 →
        q.state ≠ .retired → k ≤ j) ∧
      (k = 0 → ∀ j q, s.string? j = some q → q.cabinet = some c → q.position = i + 1 → q.state = .retired)) :
    s.stringList c = slots := by
  have hat : ∀ i k, slots[i]? = some k → ((s.stringAt c (i + 1)).map Prod.fst).getD 0 = k := by
    intro i k hk
    obtain ⟨hstands, hlow, hnone⟩ := h i k hk
    cases ha : s.stringAt c (i + 1) with
    | none =>
      by_contra h0
      have hk0 : k ≠ 0 := fun e => h0 e.symm
      obtain ⟨r, hr⟩ := Option.isSome_iff_exists.mp (hlow hk0).1
      obtain ⟨hc, hp, hs⟩ := hstands r hk0 hr
      exact hs (State.stringAt_none ha k r hr hc hp)
    | some e =>
      obtain ⟨j, q⟩ := e
      obtain ⟨hq, hqc, hqp, hqs⟩ := State.stringAt_some ha
      have hk0 : k ≠ 0 := fun e => hqs (hnone e j q hq hqc hqp)
      obtain ⟨r, hr⟩ := Option.isSome_iff_exists.mp (hlow hk0).1
      obtain ⟨hc, hp, hs⟩ := hstands r hk0 hr
      exact Nat.le_antisymm (State.stringAt_lowest ha hr hc hp hs) ((hlow hk0).2 j q hq hqc hqp hqs)
  match slots, hl with
  | [a, b, d, e], _ =>
    show [((s.stringAt c (0 + 1)).map Prod.fst).getD 0, ((s.stringAt c (1 + 1)).map Prod.fst).getD 0,
      ((s.stringAt c (2 + 1)).map Prod.fst).getD 0, ((s.stringAt c (3 + 1)).map Prod.fst).getD 0] = [a, b, d, e]
    rw [hat 0 a rfl, hat 1 b rfl, hat 2 d rfl, hat 3 e rfl]

end Sys2Proof.Machine

section
open Sys2Proof Sys2Proof.Machine

/-- Settles O17: each block answers with what is held, and the bodies are written out field by field. -/
theorem readsAnswerFromTheRecords : Obligations.ReadsAnswerFromTheRecords := by
  refine ⟨fun f s h => ?_, fun f s x h hx => ?_, fun f s h h1 h4 => ?_, fun f s r h hr => ?_, fun f s p h hp => ?_,
    fun f s x h hx => ?_, fun n => ⟨rfl, rfl, rfl⟩, fun z => ⟨be1s_eq z, be2s_eq z, be4s_eq z⟩, by decide, fun s => ⟨?_, ?_, ?_⟩,
    fun s c x slots hl hs => ?_, fun p => rfl, fun s n => ?_, fun r => ?_, fun k p => ?_, fun it => ?_, fun s v x named hn hm => ?_⟩
  · exact congrArg Host.Outcome.next (State.takeRequest_read h fun _ => rfl)
  · refine congrArg Host.Outcome.next (State.takeRequest_now (t := { s with
      cabinets := if field f.body 1 1 = 0 then s.cabinets
        else tset s.cabinets (field f.body 0 1) (some { x with errors := 0 }) }) h fun p => ?_)
    simp only [cabinetRead, show (s.withPort p).cabinet? (field f.body 0 1) = some x from hx]
    by_cases h0 : field f.body 1 1 = 0
    · simp only [h0, if_true]; rfl
    · simp only [if_neg h0]; rfl
  · refine congrArg Host.Outcome.next (State.takeRequest_read h fun p => ?_)
    simp only [profileRead, inRange_true (count := Config.profileCount) h1 h4, if_true]
    cases hp : s.profile? (field f.body 0 1) with
    | none => rw [show (s.withPort p).profile? (field f.body 0 1) = none from hp]; rfl
    | some q => rw [show (s.withPort p).profile? (field f.body 0 1) = some q from hp]; rfl
  · refine congrArg Host.Outcome.next (State.takeRequest_read h fun p => ?_)
    simp only [stringRead, show (s.withPort p).string? (field f.body 0 1) = some r from hr]
  · refine congrArg Host.Outcome.next (State.takeRequest_read h fun q => ?_)
    simp only [permitRead, show (s.withPort q).permit? (field f.body 0 1) = some p from hp]
  · refine congrArg Host.Outcome.next (State.takeRequest_read h fun p => ?_)
    simp only [visitRead, show (s.withPort p).visit? (field f.body 0 1) = some x from hx]
    rfl
  · rw [State.floorBody_eq]
    exact List.take_left' rfl
  · intro i g hg
    rw [State.floorBody_eq, ← List.drop_drop, List.drop_left' (show s.floorHead.length = 8 from rfl)]
    exact flatMap_piece groupBody_length hg
  · intro h4
    rw [State.floorBody_eq, List.length_append, flatMap_length_of_pieces groupBody_length, h4]
    rfl
  · rw [State.cabinetBody, State.stringList_eq hl hs, hl]
    rfl
  · refine (entriesFrom_filter_length (fun r : StringRecord => r.profile == n && r.state != .retired) s.strings 1).trans ?_
    have : (fun r : StringRecord => r.profile == n && r.state != .retired) =
        fun r => decide (r.profile = n ∧ r.state ≠ .retired) := by
      funext r
      rw [Bool.eq_iff_iff]
      simp
    rw [this]
  · simp only [recordBody, recordFigures, recordVerdict, List.append_assoc]
    cases r.rb <;> cases r.event <;> cases r.owner <;> rfl
  · simp only [permitBody, List.append_assoc]
    cases p.timeout <;> rfl
  · simp only [itemBody, List.append_assoc]
    cases it.permit <;> cases it.result <;> rfl
  · have hnamed : s.permitsOfVisit v = named := by
      refine ascending_ext ((entries_ascending _).filter _) (List.pairwise_map.mp hn) fun e => ?_
      rw [State.permitsOfVisit, List.mem_filter, mem_entries, beq_iff_eq]
      exact (hm e.1 e.2).symm
    rw [State.visitBody, hnamed, itemsBody_eq]
    rfl

end

namespace Sys2Proof.Machine

/-! ## The In-progress items on one string slot (R149) -/

/-- The item is In-progress and targets string slot `k`. -/
def Item.worksOn (k : Nat) (it : Item) : Bool := it.state == .inProgress && it.targetsString k

theorem Item.worksOn_iff (k : Nat) (it : Item) :
    it.worksOn k = true ↔ it.state = .inProgress ∧ it.kind ≠ .inspectCabinet ∧ it.target = k := by
  simp [Item.worksOn, Item.targetsString]

/-- The visit slot and the number of every In-progress item that targets string slot `k`. -/
def State.workPlaces (s : State) (k : Nat) : List (Nat × Nat) :=
  (entries s.visits).flatMap (fun e =>
    ((e.2.items.zipIdx 1).filter (fun i => i.1.worksOn k)).map (fun i => (e.1, i.2)))

theorem mem_zipIdx_iff_itemAt {items : List Item} {n : Nat} {it : Item} :
    (it, n) ∈ items.zipIdx 1 ↔ itemAt items n = some it := by
  rw [List.mk_mem_zipIdx_iff_le_and_getElem?_sub]
  cases n with
  | zero => simp [itemAt]
  | succ n => simp [itemAt]

theorem State.mem_workPlaces {s : State} {k w j : Nat} : (w, j) ∈ s.workPlaces k ↔
    ∃ y b, s.visit? w = some y ∧ itemAt y.items j = some b ∧ b.worksOn k = true := by
  simp only [State.workPlaces, List.mem_flatMap, List.mem_map, List.mem_filter, Prod.exists, Prod.mk.injEq]
  constructor
  · rintro ⟨w', y, hy, b, j', ⟨hb, hw⟩, rfl, rfl⟩
    exact ⟨y, b, (mem_entries _ _ _).mp hy, mem_zipIdx_iff_itemAt.mp hb, hw⟩
  · rintro ⟨y, b, hy, hb, hw⟩
    exact ⟨w, y, (mem_entries _ _ _).mpr hy, b, j, ⟨mem_zipIdx_iff_itemAt.mpr hb, hw⟩, rfl, rfl⟩

theorem State.workPlaces_nodup (s : State) (k : Nat) : (s.workPlaces k).Nodup := by
  refine List.nodup_flatMap.mpr ⟨fun e _ => ?_, (entries_ascending s.visits).imp fun {a b} hab => ?_⟩
  · refine List.Nodup.of_map Prod.snd ?_
    rw [List.map_map]
    have hsub : (((e.2.items.zipIdx 1).filter (fun i => i.1.worksOn k)).map (Prod.snd ∘ fun i : Item × Nat => (e.1, i.2))).Sublist
        ((e.2.items.zipIdx 1).map Prod.snd) := List.filter_sublist.map _
    refine hsub.nodup ?_
    rw [List.zipIdx_map_snd]
    exact List.nodup_range'
  · intro p ha hb
    obtain ⟨_, _, rfl⟩ := List.mem_map.mp ha
    obtain ⟨_, _, hp⟩ := List.mem_map.mp hb
    have : b.1 = a.1 := (Prod.mk.inj hp).1
    omega

theorem State.workPlaces_length (s : State) (k : Nat) : (s.workPlaces k).length =
    ((entries s.visits).flatMap (fun e => e.2.items.filter (fun it => it.state == .inProgress && it.targetsString k))).length := by
  rw [State.workPlaces, List.length_flatMap, List.length_flatMap]
  refine congrArg List.sum (List.map_congr_left fun e _ => ?_)
  rw [List.length_map]
  conv_rhs => rw [← List.zipIdx_map_fst 1 e.2.items, List.filter_map, List.length_map]
  rfl

/-- Another In-progress item names the target of the item `n` of visit `v` exactly when one stands at another place. -/
theorem State.otherInProgress_iff {s : State} {v n : Nat} {x : Visit} {it : Item} (h : s.itemOf v n = some (x, it))
    (hs : it.state = .inProgress) (hk : it.kind = .replaceString) : s.otherInProgress it.target = true ↔
    ∃ w j y b, (w, j) ≠ (v, n) ∧ s.visit? w = some y ∧ itemAt y.items j = some b ∧ b.state = .inProgress ∧
      b.kind ≠ .inspectCabinet ∧ b.target = it.target := by
  obtain ⟨hx, hit⟩ := State.itemOf_some h
  have hown : (v, n) ∈ s.workPlaces it.target :=
    State.mem_workPlaces.mpr ⟨x, it, hx, hit, (Item.worksOn_iff _ _).mpr ⟨hs, by rw [hk]; decide, rfl⟩⟩
  rw [State.otherInProgress, decide_eq_true_iff, ← State.workPlaces_length]
  constructor
  · intro h2
    obtain ⟨⟨w, j⟩, hm, hne⟩ : ∃ e ∈ s.workPlaces it.target, e ≠ (v, n) := by
      by_contra hno
      push Not at hno
      have hrep : s.workPlaces it.target = List.replicate (s.workPlaces it.target).length (v, n) :=
        List.eq_replicate_of_mem hno
      have hle := List.nodup_replicate.mp (hrep ▸ s.workPlaces_nodup it.target)
      omega
    obtain ⟨y, b, hy, hb, hw⟩ := State.mem_workPlaces.mp hm
    exact ⟨w, j, y, b, hne, hy, hb, (Item.worksOn_iff _ _).mp hw⟩
  · rintro ⟨w, j, y, b, hne, hy, hb, hw⟩
    have hm : (w, j) ∈ s.workPlaces it.target := State.mem_workPlaces.mpr ⟨y, b, hy, hb, (Item.worksOn_iff _ _).mpr hw⟩
    by_contra hlt
    obtain ⟨e, he⟩ := List.length_eq_one_iff.mp (show (s.workPlaces it.target).length = 1 by
      have := List.length_pos_of_mem hm
      omega)
    rw [he, List.mem_singleton] at hm hown
    exact hne (hm.trans hown.symm)

/-! ## The checks of the blocks -/

theorem stringCommission_notFound {b : List Byte} {s : State}
    (h : s.cabinet? (field b 0 1) = none ∨ ¬(1 ≤ field b 1 1 ∧ field b 1 1 ≤ 4) ∨ s.profile? (field b 2 1) = none) :
    stringCommission b s = refuse .notFound s := by
  simp only [stringCommission]
  cases hc : s.cabinet? (field b 0 1) with
  | none => rfl
  | some x =>
    by_cases hp : 1 ≤ field b 1 1 ∧ field b 1 1 ≤ 4
    · simp only [inRange_true (count := Config.positionCount) hp.1 hp.2, if_true]
      have hn : s.profile? (field b 2 1) = none := by
        rcases h with h | h | h
        · rw [hc] at h; cases h
        · exact absurd hp h
        · exact h
      rw [hn]
    · simp only [inRange_false (count := Config.positionCount) hp, Bool.false_eq_true, if_false]

/-- STRING COMMISSION once cabinet, position and profile are found. -/
theorem stringCommission_placed {b : List Byte} {s : State} (hc : (s.cabinet? (field b 0 1)).isSome = true)
    (h1 : 1 ≤ field b 1 1) (h4 : field b 1 1 ≤ 4) (hn : (s.profile? (field b 2 1)).isSome = true) :
    ((s.stringAt (field b 0 1) (field b 1 1)).isSome = true → stringCommission b s = refuse .wrongState s) ∧
    (s.stringAt (field b 0 1) (field b 1 1) = none → lowestFree s.strings = none → stringCommission b s = refuse .noRoom s) := by
  obtain ⟨x, hx⟩ := Option.isSome_iff_exists.mp hc
  obtain ⟨p, hp⟩ := Option.isSome_iff_exists.mp hn
  simp only [stringCommission, hx, inRange_true (count := Config.positionCount) h1 h4, if_true, hp]
  refine ⟨fun ha => if_pos ha, fun ha hf => ?_⟩
  rw [ha, hf]
  rfl

theorem State.stringAt_eq_none {s : State} {c p : Nat}
    (h : ∀ k r, s.string? k = some r → r.cabinet = some c → r.position = p → r.state = .retired) : s.stringAt c p = none := by
  cases ha : s.stringAt c p with
  | none => rfl
  | some e =>
    obtain ⟨hr, hc, hp, hs⟩ := State.stringAt_some (k := e.1) (r := e.2) ha
    exact absurd (h _ _ hr hc hp) hs

theorem State.itemCabinet_eq_none {s : State} {it : Item} (hk : it.kind ≠ .inspectCabinet)
    (h : ∀ r, s.string? it.target = some r → r.cabinet = none) : s.itemCabinet it = none := by
  rw [State.itemCabinet, if_neg hk]
  cases hr : s.string? it.target with
  | none => rfl
  | some r => exact h r hr

theorem visitStart_refused {b : List Byte} {s : State} {x : Visit} {it : Item} {res : ResultCode}
    (h : s.itemOf (field b 0 1) (field b 1 1) = some (x, it)) (hr : s.startRefusal (field b 0 1) it = some res) :
    visitStart b s = refuse res s := by
  simp only [visitStart, h, hr]

/-- VISIT FINISH on an In-progress REPLACE STRING is the replacement. -/
theorem visitFinish_replaces {b : List Byte} {s : State} {x : Visit} {it : Item}
    (h : s.itemOf (field b 0 1) (field b 1 1) = some (x, it)) (hs : it.state = .inProgress) (hk : it.kind = .replaceString) :
    visitFinish b s = finishReplace (field b 0 1) (field b 1 1) (field b 2 1) (min (field b 3 4) 65535) x it s := by
  simp [visitFinish, h, hs, hk]

end Sys2Proof.Machine

section
open Sys2Proof Sys2Proof.Machine

/-- Settles O18: the checks of each block in their order. -/
theorem requestsRefusedByTheirBlocks : Obligations.RequestsRefusedByTheirBlocks := by
  refine ⟨fun f s h hn => ?_, fun f s h hn => ?_, fun f s h hn => ⟨?_, ?_, ?_⟩, fun f s h hn => ⟨?_, ?_⟩, fun f s h hn => ⟨?_, ?_⟩,
    fun f s h hn => ?_, fun f s h hn => ?_, fun f s h hn => ?_, ?_, ?_, ?_, fun f s h hn => ?_, ?_⟩
  · refine congrArg Host.Outcome.next (State.takeRequest_refused h fun p => ?_)
    simp only [cabinetRead, show (s.withPort p).cabinet? (field f.body 0 1) = none from hn]
  · refine congrArg Host.Outcome.next (State.takeRequest_refused h fun p => ?_)
    simp only [stringRead, show (s.withPort p).string? (field f.body 0 1) = none from hn]
  · refine congrArg Host.Outcome.next (State.takeRequest_refused h fun p => ?_)
    simp only [permitRead, show (s.withPort p).permit? (field f.body 0 1) = none from hn]
  · refine congrArg Host.Outcome.next (State.takeRequest_refused h fun p => ?_)
    simp only [permitRecall, show (s.withPort p).permit? (field f.body 0 1) = none from hn]
  · refine congrArg Host.Outcome.next (State.takeRequest_refused h fun p => ?_)
    simp only [permitCancel, show (s.withPort p).permit? (field f.body 0 1) = none from hn]
  · refine congrArg Host.Outcome.next (State.takeRequest_refused h fun p => ?_)
    simp only [visitClose, show (s.withPort p).visit? (field f.body 0 1) = none from hn]
  · refine congrArg Host.Outcome.next (State.takeRequest_refused h fun p => ?_)
    simp only [visitRead, show (s.withPort p).visit? (field f.body 0 1) = none from hn]
  · refine congrArg Host.Outcome.next (State.takeRequest_refused h fun p => ?_)
    simp only [visitStart, show (s.withPort p).itemOf (field f.body 0 1) (field f.body 1 1) = none from hn]
  · refine congrArg Host.Outcome.next (State.takeRequest_refused h fun p => ?_)
    simp only [visitAbandon, show (s.withPort p).itemOf (field f.body 0 1) (field f.body 1 1) = none from hn]
  · refine congrArg Host.Outcome.next (State.takeRequest_refused h fun p => ?_)
    simp only [cabinetSet, inRange_false (count := Config.cabinetCount) hn, Bool.false_eq_true, if_false]
  · refine congrArg Host.Outcome.next (State.takeRequest_refused h fun p => ?_)
    simp only [profileWrite, inRange_false (count := Config.profileCount) hn, Bool.false_eq_true, if_false]
  · refine congrArg Host.Outcome.next (State.takeRequest_refused h fun p => ?_)
    simp only [profileRead, inRange_false (count := Config.profileCount) hn, Bool.false_eq_true, if_false]
  · rintro f s c pos n h rfl rfl rfl
    refine ⟨fun hn => ?_, fun hc h1 h4 hp => ⟨fun hr => ?_, fun hr hf => ?_⟩⟩
    · exact congrArg Host.Outcome.next (State.takeRequest_refused h fun p => stringCommission_notFound hn)
    · refine congrArg Host.Outcome.next (State.takeRequest_refused h fun p =>
        (stringCommission_placed (s := s.withPort p) hc h1 h4 hp).1 ?_)
      obtain ⟨k, r, hr, hrc, hrp, hrs⟩ := hr
      by_contra hno
      exact hrs (State.stringAt_none (Option.not_isSome_iff_eq_none.mp hno) k r hr hrc hrp)
    · exact congrArg Host.Outcome.next (State.takeRequest_refused h fun p =>
        (stringCommission_placed (s := s.withPort p) hc h1 h4 hp).2 (State.stringAt_eq_none hr) hf)
  · rintro f s v n h rfl rfl
    refine ⟨fun hn => ?_, fun k hv hk => ⟨fun ht => ?_, fun r hki hr hrc => ?_⟩⟩
    · refine congrArg Host.Outcome.next (State.takeRequest_refused h fun p => ?_)
      simp only [visitAdd]
      cases hv : (s.withPort p).visit? (field f.body 0 1) with
      | none => rfl
      | some x => rw [hn.resolve_left (by rw [show s.visit? (field f.body 0 1) = some x from hv]; simp)]
    · obtain ⟨x, hx⟩ := Option.isSome_iff_exists.mp hv
      refine congrArg Host.Outcome.next (State.takeRequest_refused h fun p => ?_)
      have htr : (s.withPort p).targetRefusal k (field f.body 2 1) = some .notFound := by
        rcases ht with ⟨rfl, hn⟩ | ⟨hki, hn⟩
        · simp [State.targetRefusal, show (s.withPort p).cabinet? (field f.body 2 1) = none from hn]
        · simp [State.targetRefusal, hki, show (s.withPort p).string? (field f.body 2 1) = none from hn]
      simp only [visitAdd, show (s.withPort p).visit? (field f.body 0 1) = some x from hx, hk, htr]
    · obtain ⟨x, hx⟩ := Option.isSome_iff_exists.mp hv
      refine congrArg Host.Outcome.next (State.takeRequest_refused h fun p => ?_)
      have htr : (s.withPort p).targetRefusal k (field f.body 2 1) = some .wrongState := by
        simp [State.targetRefusal, hki, show (s.withPort p).string? (field f.body 2 1) = some r from hr, StringRecord.attached, hrc]
      simp only [visitAdd, show (s.withPort p).visit? (field f.body 0 1) = some x from hx, hk, htr]
  · rintro f s x it h hit hst
    have hst' : ¬(it.state ≠ .pending ∧ it.state ≠ .interrupted) := by
      rintro ⟨h1, h2⟩
      exact hst.elim h1 h2
    refine ⟨fun hk hn => ?_, fun hk hn => ?_⟩
    · refine congrArg Host.Outcome.next (State.takeRequest_refused h fun p => visitStart_refused (s := s.withPort p) hit ?_)
      rw [State.startRefusal, if_neg hst', if_pos ⟨hk, Option.isNone_iff_eq_none.mpr hn⟩]
    · refine congrArg Host.Outcome.next (State.takeRequest_refused h fun p => visitStart_refused (s := s.withPort p) hit ?_)
      have hc : (s.withPort p).itemCabinet it = none := State.itemCabinet_eq_none hk hn
      rw [State.startRefusal, if_neg hst', if_neg fun h => hk h.1, if_pos ⟨hk, by rw [hc]; rfl⟩]
  · refine congrArg Host.Outcome.next (State.takeRequest_refused h fun p => ?_)
    simp only [visitFinish, show (s.withPort p).itemOf (field f.body 0 1) (field f.body 1 1) = none from hn]
  · rintro f s v n x it h rfl rfl hit hs hk
    have hother := State.otherInProgress_iff hit hs hk
    refine ⟨fun hn => ?_, fun hp ho => ?_, fun hp ho hf => ?_⟩
    · refine congrArg Host.Outcome.next (State.takeRequest_refused h fun p => ?_)
      rw [visitFinish_replaces (s := s.withPort p) hit hs hk, finishReplace,
        show (s.withPort p).profile? (field f.body 2 1) = none from hn]
    · obtain ⟨q, hq⟩ := Option.isSome_iff_exists.mp hp
      refine congrArg Host.Outcome.next (State.takeRequest_refused h fun p => ?_)
      rw [visitFinish_replaces (s := s.withPort p) hit hs hk, finishReplace,
        show (s.withPort p).profile? (field f.body 2 1) = some q from hq]
      exact if_pos (hother.mpr ho)
    · obtain ⟨q, hq⟩ := Option.isSome_iff_exists.mp hp
      refine congrArg Host.Outcome.next (State.takeRequest_refused h fun p => ?_)
      rw [visitFinish_replaces (s := s.withPort p) hit hs hk, finishReplace,
        show (s.withPort p).profile? (field f.body 2 1) = some q from hq]
      refine (if_neg ?_).trans ?_
      · intro hc
        obtain ⟨w, j, y, b, hne, hy, hb, hbs, hbk, hbt⟩ := hother.mp hc
        exact ho w j y b hne hy hb hbs hbk hbt
      · rw [show lowestFree (s.withPort p).strings = none from hf]

end

namespace Sys2Proof.Machine

/-! ## What work on records leaves alone -/

section
variable {s t : State} {out : Nat → StringRecord → Work} (h : s.Worked t out)
include h

theorem State.Worked.phase : t.phase = s.phase := (congrArg State.phase h.frame :)
theorem State.Worked.floor : t.floor = s.floor := (congrArg State.floor h.frame :)
theorem State.Worked.cabinets : t.cabinets = s.cabinets := (congrArg State.cabinets h.frame :)
theorem State.Worked.link : t.link = s.link := (congrArg State.link h.frame :)
theorem State.Worked.profiles : t.profiles = s.profiles := (congrArg State.profiles h.frame :)
theorem State.Worked.groups : t.groups = s.groups := (congrArg State.groups h.frame :)
theorem State.Worked.permits : t.permits = s.permits := (congrArg State.permits h.frame :)
theorem State.Worked.ask : t.ask = s.ask := (congrArg State.ask h.frame :)
theorem State.Worked.visits : t.visits = s.visits := (congrArg State.visits h.frame :)
theorem State.Worked.port : t.port = s.port := (congrArg State.port h.frame :)
theorem State.Worked.images : t.store.images = s.store.images := (congrArg (fun u => u.store.images) h.frame :)
theorem State.Worked.writer : t.store.writer = s.store.writer := (congrArg (fun u => u.store.writer) h.frame :)
theorem State.Worked.nextNumber : t.store.nextNumber = s.store.nextNumber := (congrArg (fun u => u.store.nextNumber) h.frame :)
theorem State.Worked.attention :
    t.attention = { s.attention with stringStateChanged := t.attention.stringStateChanged } := (congrArg State.attention h.frame :)

end

/-! ## Power, RESET and the values of a start (R162, R167 to R170) -/

/-- The string check is a pass over the records, whatever the sizes of the image tables. -/
theorem State.start_passed (cause : StartCause) (s : State) : ∃ out, (s.load cause).Worked (s.start cause) out :=
  ⟨_, State.worked_pass (s.load cause) (checkRecord (s.load cause)) Config.stringCount⟩

theorem le_foldl_max (l : List Nat) (a : Nat) : a ≤ l.foldl max a ∧ ∀ n ∈ l, n ≤ l.foldl max a := by
  induction l generalizing a with
  | nil => exact ⟨le_rfl, fun n h => by cases h⟩
  | cons b l ih =>
    obtain ⟨h1, h2⟩ := ih (max a b)
    refine ⟨(le_max_left a b).trans h1, fun n hn => ?_⟩
    rcases List.mem_cons.mp hn with rfl | hn
    · exact (le_max_right a n).trans h1
    · exact h2 n hn

/-- The write count resumes past every good image (R162). -/
theorem lt_resumedCount {im : Images} {n : Nat} (h : n ∈ allGoodNumbers im) : n < resumedCount im := by
  unfold resumedCount
  cases hg : allGoodNumbers im with
  | nil => rw [hg] at h; cases h
  | cons a l =>
    rw [hg] at h
    obtain ⟨h1, h2⟩ := le_foldl_max l a
    rcases List.mem_cons.mp h with rfl | h
    · exact Nat.lt_succ_of_le h1
    · exact Nat.lt_succ_of_le (h2 n h)

theorem exec_powerLoss {s : State} (h : s.phase ≠ .unpowered) : exec .powerLoss s = .next s.losePower := by
  show execPowerLoss s = _
  unfold execPowerLoss
  cases hp : s.phase <;> simp_all

theorem exec_resetAssert {s : State} (h : s.phase = .running) (o : WriteOutcome) :
    exec (.resetAssert o) s = .next (s.enterReset o) := by
  show execResetAssert o s = _
  unfold execResetAssert
  rw [h]

theorem exec_resetLine {s : State} (h : s.phase = .inReset) : exec .resetLine s = .next (s.completeWrite.start .resetLine) := by
  show execResetLine s = _
  unfold execResetLine
  rw [h]

theorem exec_powerOn {s : State} (h : s.phase = .unpowered) : exec .powerOn s = .next (s.start .powerOn) := by
  show execPowerOn s = _
  unfold execPowerOn
  rw [h]

/-- The two commands that begin a start. -/
theorem exec_start {s : State} {i : Instr} {cause : StartCause}
    (h : (s.phase = .unpowered ∧ i = .powerOn ∧ cause = .powerOn) ∨
      (s.phase = .inReset ∧ s.store.writer = none ∧ i = .resetLine ∧ cause = .resetLine)) :
    exec i s = .next (s.start cause) := by
  rcases h with ⟨hp, rfl, rfl⟩ | ⟨hp, hw, rfl, rfl⟩
  · exact exec_powerOn hp
  · rw [exec_resetLine hp]
    exact congrArg (fun u => Host.Outcome.next (State.start .resetLine u)) (State.endResetWrite_idle _ s hw)

end Sys2Proof.Machine

section
open Sys2Proof Sys2Proof.Machine

/-- Settles O57: loss of power, RESET, and what the string check of a start leaves as loaded. -/
theorem powerResetAndStarts : Obligations.PowerResetAndStarts := by
  refine ⟨fun s hp => ?_, fun o s hp => ?_, fun s hp hw => ?_, fun s i cause h => ?_⟩
  · refine ⟨_, exec_powerLoss hp, rfl, rfl, rfl, fun hw => ?_, fun w hw => ?_⟩
    · show s.imagesAfterLoss = _
      rw [State.imagesAfterLoss, hw]
    · show s.imagesAfterLoss = _
      rw [State.imagesAfterLoss, hw]
      rfl
  · exact ⟨_, exec_resetAssert hp o, rfl, rfl, rfl, rfl, rfl, rfl, rfl, rfl, fun bit => ⟨rfl, rfl⟩⟩
  · refine ⟨s.completeWrite, ?_, ?_⟩
    · show execStoreWriteEnd _ s = _
      unfold execStoreWriteEnd
      rw [hp]
      rfl
    · have hc : s.completeWrite.phase = .inReset := by
        unfold State.completeWrite State.endResetWrite
        split
        · exact hp
        · exact hp
      rw [exec_resetLine hp, exec_resetLine hc]
      have hidle : s.completeWrite.completeWrite = s.completeWrite :=
        State.endResetWrite_idle _ _ (State.endResetWrite_writer _ s)
      rw [hidle]
  · obtain ⟨out, hw⟩ := s.start_passed cause
    refine ⟨_, exec_start h, hw.phase, hw.port, ?_, ?_, hw.ask, ?_, ?_, ?_, ?_, ?_, ?_, hw.images, fun n hn => ?_, ?_, hw.attention,
      fun c x hx => ?_, fun id hid => (hw.queue id).mpr (.inl hid)⟩
    · rw [hw.groups, hw.floor]; rfl
    · rw [hw.link]; rfl
    · rw [hw.floor]; rfl
    · rw [hw.floor]; rfl
    · rw [hw.floor]; rfl
    · rw [hw.floor]; rfl
    · rw [hw.floor]; rfl
    · rw [hw.floor]; rfl
    · rw [hw.nextNumber]; exact lt_resumedCount hn
    · rw [hw.attention]; rfl
    · rw [hw.cabinet?, State.load_cabinet?] at hx
      obtain ⟨j, -, hj⟩ := Option.bind_eq_some_iff.mp hx
      obtain ⟨y, -, rfl⟩ := Option.map_eq_some_iff.mp hj
      exact ⟨rfl, rfl, rfl, rfl, rfl, rfl, rfl⟩

end

namespace Sys2Proof.Machine

/-! ## Loaded entries (R11, R46, R137, R160) -/

theorem clampNat_of_mem {lo hi x : Nat} (h : lo ≤ x ∧ x ≤ hi) : clampNat lo hi x = x := by
  unfold clampNat; omega

theorem clampInt_of_mem {lo hi x : Int} (h : lo ≤ x ∧ x ≤ hi) : clampInt lo hi x = x := by
  unfold clampInt; omega

/-- A profile in range is loaded as it was stored. -/
theorem Profile.clamp_of_inRange {p : Profile} (h : p.InRange) : p.clamp = p := by
  have hr : clampNat 300 (clampNat 500 950 p.watch - 10) p.replace = p.replace := by
    rw [clampNat_of_mem h.watch]
    exact clampNat_of_mem ⟨h.replace.1, by have := h.replace.2; omega⟩
  unfold Profile.clamp
  rw [hr, clampNat_of_mem h.capacity, clampNat_of_mem h.voltage, clampNat_of_mem h.life, clampInt_of_mem h.tref,
    clampNat_of_mem h.step, clampNat_of_mem h.cycles, clampNat_of_mem h.w1, clampNat_of_mem h.w2, clampNat_of_mem h.w3,
    clampNat_of_mem h.w4, clampNat_of_mem h.reol, clampNat_of_mem h.watch, clampInt_of_mem h.assumed, clampNat_of_mem h.interval]

theorem loaded_eq_none {α : Type} {j : Image (Option α)} (h : j.good = false ∨ j.content = none) : loaded j = none := by
  unfold loaded
  rcases h with h | h
  · rw [h]; rfl
  · rw [h]; simp

theorem loaded_good {α : Type} {j : Image (Option α)} {a : α} (hg : j.good = true) (hc : j.content = some a) : loaded j = some a :=
  loaded_some.mpr ⟨hg, hc⟩

/-! ## The bad images -/

theorem mem_badFrom {α : Type} {kind : ImageKind} {k : Nat} {t : List (Image (Option α))} {id : ImageId}
    (h : id ∈ badFrom kind k t) : id.kind = kind ∧ ∃ i, k ≤ id.number ∧ t[id.number - k]? = some i ∧ i.good = false := by
  induction t generalizing k with
  | nil => cases h
  | cons i t ih =>
    have hrest : id ∈ badFrom kind (k + 1) t →
        id.kind = kind ∧ ∃ j, k ≤ id.number ∧ (i :: t)[id.number - k]? = some j ∧ j.good = false := by
      intro hm
      obtain ⟨hk, j, hle, hj, hb⟩ := ih hm
      refine ⟨hk, j, by omega, ?_, hb⟩
      rw [show id.number - k = (id.number - (k + 1)) + 1 by omega, List.getElem?_cons_succ]
      exact hj
    unfold badFrom at h
    split at h
    · exact hrest h
    · rename_i hg
      rcases List.mem_cons.mp h with rfl | h
      · exact ⟨rfl, i, le_rfl, by simp, by simpa using hg⟩
      · exact hrest h

/-- A good string image is none of the bad ones. -/
theorem stringImage_not_bad {im : Images} {k : Nat} {j : Image (Option StringRecord)} (hj : imageAt im.strings k = some j)
    (hg : j.good = true) : stringImage k ∉ badImages im := by
  intro h
  simp only [badImages, List.mem_append] at h
  rcases h with ((((h | h) | h) | h) | h) | h
  · split at h
    · cases h
    · cases List.mem_singleton.mp h
  · cases (mem_badFrom h).1
  · cases (mem_badFrom h).1
  · obtain ⟨-, i, hle, hi, hb⟩ := mem_badFrom h
    cases k with
    | zero => cases hj
    | succ k =>
      have : im.strings[k]? = some i := hi
      rw [show im.strings[k]? = some j from hj] at this
      cases this
      rw [hg] at hb; cases hb
  · cases (mem_badFrom h).1
  · cases (mem_badFrom h).1

/-! ## The string check on one record (R53, R171) -/

/-- The record is detached by the check of a start. -/
def State.detached (l : State) (k : Nat) (r : StringRecord) : Bool := l.cabinetAbsent r || l.outdated k r

/-- The Suspect mark after the check. -/
def State.marked (l : State) (k : Nat) (p : Option Profile) (r : StringRecord) : Bool :=
  r.suspect || l.detached k r || p.isNone

/-- The state after the check. -/
def State.checkedState (l : State) (k : Nat) (p : Option Profile) (r : StringRecord) : StringState :=
  if r.state = .retiring ∨ r.state = .retired then r.state else derivedState p (l.marked k p r) r.soh

theorem Work.eq_of_fields {w v : Work} (hr : w.r = v.r) (hc : w.changed = v.changed) (hs : w.save = v.save) : w = v := by
  cases w
  cases v
  cases hr
  cases hc
  cases hs
  rfl

theorem checkRecord_eq (l : State) (k : Nat) (p : Option Profile) (r : StringRecord) :
    checkRecord l k p (startWork r) =
      { r := { r with
          cabinet := if l.detached k r = true then none else r.cabinet
          suspect := l.marked k p r, state := l.checkedState k p r }
        changed := decide (l.checkedState k p r ≠ r.state)
        save := l.detached k r || l.marked k p r != r.suspect || decide (l.checkedState k p r ≠ r.state) } := by
  set w : Work := { r := { r with cabinet := if l.detached k r = true then none else r.cabinet, suspect := l.marked k p r }
                    changed := false, save := l.detached k r || l.marked k p r != r.suspect } with hw
  have hst : w.r.restated p = l.checkedState k p r := rfl
  have he : checkRecord l k p (startWork r) = rederive p w := rfl
  have hc := rederive_changed p w
  have hs := rederive_save p w
  have hr := rederive_r p w
  rw [hst] at hc hs hr
  rw [he]
  exact Work.eq_of_fields hr (hc.trans (by simp [hw, ne_comm])) (hs.trans (by simp [hw, ne_comm]))

theorem and_markOf_iff {w k : Nat} (x : BitVec w) (h1 : 1 ≤ k) (h2 : k ≤ w) :
    x &&& markOf w k = markOf w k ↔ x.getLsbD (k - 1) = true := by
  constructor
  · intro h
    have := congrArg (fun y => y.getLsbD (k - 1)) h
    simp only [BitVec.getLsbD_and, markOf_getLsbD k (show k - 1 < w by omega)] at this
    simpa [show k - 1 + 1 = k by omega] using this
  · intro h
    refine BitVec.eq_of_getLsbD_eq fun i hi => ?_
    rw [BitVec.getLsbD_and, markOf_getLsbD k hi]
    by_cases hik : i + 1 = k
    · rw [show i = k - 1 by omega, h]; simp
    · simp [hik]

/-! ## A loaded record and the others (R171) -/

theorem State.load_stringNumber (cause : StartCause) (s : State) {k : Nat} {j : Image (Option StringRecord)}
    (h : imageAt s.store.images.strings k = some j) : (s.load cause).stringNumber k = j.number := by
  unfold State.stringNumber
  rw [show (s.load cause).store.images.strings = s.store.images.strings from rfl, h]
  rfl

theorem StringRecord.reloaded_cabinet (profiles : List (Option Profile)) {r : StringRecord} (h : r.state ≠ .retired) :
    (r.reloaded profiles).cabinet = r.cabinet.map (clampNat 1 24) := if_neg h

/-- When the check of a start detaches a record, in terms of the images (R53, R171). -/
theorem State.load_detached_iff {cause : StartCause} {s : State} {k number : Nat} {r : StringRecord}
    (hk : imageAt s.store.images.strings k = some { good := true, number := number, content := some r }) :
    (s.load cause).detached k (r.reloaded (s.load cause).profiles) = true ↔
      ∃ c pos, r.cabinet = some c ∧ r.state ≠ .retired ∧ pos = clampNat 1 4 r.position ∧
        ((s.load cause).cabinet? (clampNat 1 24 c) = none ∨
          ∃ (l later : Nat) (a : StringRecord) (d : Nat), l ≠ k ∧
            imageAt s.store.images.strings l = some { good := true, number := later, content := some a } ∧ a.state ≠ .retired ∧
            a.cabinet = some d ∧ clampNat 1 24 d = clampNat 1 24 c ∧ clampNat 1 4 a.position = pos ∧
            (number < later ∨ number = later ∧ l < k)) := by
  set l := s.load cause with hl
  set q := r.reloaded l.profiles with hq
  have hnum : l.stringNumber k = number := State.load_stringNumber cause s hk
  by_cases hret : r.state = .retired
  · have hc : q.cabinet = none := if_pos hret
    constructor
    · intro h
      simp [State.detached, State.cabinetAbsent, State.outdated, hc] at h
    · rintro ⟨_, _, _, h, _⟩
      exact absurd hret h
  · have hqc : q.cabinet = r.cabinet.map (clampNat 1 24) := StringRecord.reloaded_cabinet _ hret
    cases hc : r.cabinet with
    | none =>
      rw [hc] at hqc
      constructor
      · intro h
        simp [State.detached, State.cabinetAbsent, State.outdated, hqc] at h
      · rintro ⟨_, _, h, _⟩
        cases h
    | some c =>
      rw [hc] at hqc
      have habs : l.cabinetAbsent q = (l.cabinet? (clampNat 1 24 c)).isNone := by
        unfold State.cabinetAbsent
        rw [hqc]
        rfl
      have hqs : q.state = r.state := rfl
      have hqp : q.position = clampNat 1 4 r.position := rfl
      have hout : l.outdated k q = true ↔ ∃ (j later : Nat) (a : StringRecord) (d : Nat), j ≠ k ∧
            imageAt s.store.images.strings j = some { good := true, number := later, content := some a } ∧ a.state ≠ .retired ∧
            a.cabinet = some d ∧ clampNat 1 24 d = clampNat 1 24 c ∧ clampNat 1 4 a.position = clampNat 1 4 r.position ∧
            (number < later ∨ number = later ∧ j < k) := by
        simp only [State.outdated, Bool.and_eq_true, List.any_eq_true, bne_iff_ne, beq_iff_eq, Prod.exists, mem_entries,
          writtenLater,
          decide_eq_true_eq, hqs, hqp, hqc, hnum]
        constructor
        · rintro ⟨-, j, b, hb, ⟨⟨⟨hjk, hbs⟩, hbc⟩, hbp⟩, hlater⟩
          have hb' : l.string? j = some b := hb
          rw [State.load_string?] at hb'
          obtain ⟨⟨g, n, ct⟩, hi, hbi⟩ := Option.bind_eq_some_iff.mp hb'
          obtain ⟨a, hg, hca, rfl⟩ := loadedString_some.mp hbi
          cases hg
          cases hca
          have has : a.state ≠ .retired := hbs
          rw [StringRecord.reloaded_cabinet _ has] at hbc
          obtain ⟨d, hd, hdc⟩ := Option.map_eq_some_iff.mp hbc
          rw [State.load_stringNumber cause s hi] at hlater
          exact ⟨j, n, a, d, hjk, hi, hbs, hd, hdc, hbp, hlater⟩
        · rintro ⟨j, later, a, d, hjk, hi, has, hd, hdc, hap, hlater⟩
          refine ⟨⟨hret, rfl⟩, j, a.reloaded l.profiles, ?_, ⟨⟨⟨hjk, has⟩, ?_⟩, hap⟩, ?_⟩
          · show l.string? j = _
            rw [State.load_string?, hi]
            exact loadedString_some.mpr ⟨a, rfl, rfl, rfl⟩
          · rw [StringRecord.reloaded_cabinet _ has, hd, Option.map_some, hdc]
            rfl
          · rw [State.load_stringNumber cause s hi]
            exact hlater
      rw [State.detached, Bool.or_eq_true, habs, Option.isNone_iff_eq_none, hout]
      constructor
      · intro h
        exact ⟨c, _, rfl, hret, rfl, h⟩
      · rintro ⟨c', pos, e, -, rfl, h⟩
        cases e
        exact h

end Sys2Proof.Machine

section
open Sys2Proof Sys2Proof.Machine

/-- Settles O58: the tables are the clamped images, and each record goes through the check once. -/
theorem startLoadsTheImages : Obligations.StartLoadsTheImages := by
  rintro s t i im hz rfl hi ht
  obtain ⟨cause, hcause⟩ : ∃ cause, exec i s = .next (s.start cause) := by
    rcases hi with ⟨hp, rfl⟩ | ⟨hp, hw, rfl⟩
    · exact ⟨.powerOn, exec_start (.inl ⟨hp, rfl, rfl⟩)⟩
    · exact ⟨.resetLine, exec_start (.inr ⟨hp, hw, rfl, rfl⟩)⟩
  have he : s.start cause = t := Host.Outcome.next.inj (hcause.symm.trans ht)
  have hw : (s.load cause).Worked t _ := he ▸ State.start_worked cause hz.images
  have hprof : t.profile? = (s.load cause).profile? := hw.profile?
  have hpt : ∀ k, t.permit? k = (s.load cause).permit? k := fun k => by rw [State.permit?, hw.permits]; rfl
  have hvt : ∀ v, t.visit? v = (s.load cause).visit? v := fun v => by rw [State.visit?, hw.visits]; rfl
  refine ⟨?_, fun n j hj => ⟨fun hn => ?_, fun p hg hc => ?_⟩, fun c j hj => ⟨fun hn => ?_, fun y hg hc => ?_⟩,
    fun k j hj => ⟨fun hn => ?_, fun p hg hc => ?_⟩, fun v j hj => ⟨fun hn => ?_, fun x hg hc => ?_⟩, fun k j hj hn => ?_,
    fun k number r hk => ?_⟩
  · rw [← he]
    exact (Moves.checkStrings (s.load cause)).keep (fun _ _ h => h.sized) (State.load_sized cause hz.images)
  · rw [hprof, State.load_profile?, hj, Option.bind_some, loaded_eq_none hn]; rfl
  · refine ⟨p.clamp, ?_, p.clamp_inRange, Profile.clamp_of_inRange⟩
    rw [hprof, State.load_profile?, hj, Option.bind_some, loaded_good hg hc]; rfl
  · rw [hw.cabinet?, State.load_cabinet?, hj, Option.bind_some, loadedCabinet, loaded_eq_none hn]; rfl
  · rw [hw.cabinet?, State.load_cabinet?, hj, Option.bind_some, loadedCabinet, loaded_good hg hc]; rfl
  · rw [hpt, State.load_permit?, hj, Option.bind_some, loadedPermit, loaded_eq_none hn]; rfl
  · rw [hpt, State.load_permit?, hj, Option.bind_some, loadedPermit, loaded_good hg hc, hw.floor]; rfl
  · rw [hvt, State.load_visit?, hj, Option.bind_some, loaded_eq_none hn]; rfl
  · rw [hvt, State.load_visit?, hj, Option.bind_some, loaded_good hg hc]; rfl
  · rw [hw.strings, State.load_string?, hj, Option.bind_some, loadedString, loaded_eq_none hn]; rfl
  · set q := r.reloaded (s.load cause).profiles with hq
    have hload : (s.load cause).string? k = some q := by
      rw [State.load_string?, hk]
      exact loadedString_some.mpr ⟨r, rfl, rfl, rfl⟩
    set p := (s.load cause).profile? q.profile with hp
    have hwork := checkRecord_eq (s.load cause) k p q
    have hk64 : 1 ≤ k ∧ k ≤ 64 := by
      have hlen := hz.images.strings
      cases k with
      | zero => cases hk
      | succ k =>
        obtain ⟨hlt, -⟩ := List.getElem?_eq_some_iff.mp (show s.store.images.strings[k]? = _ from hk)
        exact ⟨by omega, by rw [hlen] at hlt; exact hlt⟩
    have hdet := State.load_detached_iff (cause := cause) hk
    set g := (s.load cause).detached k q with hg
    have hcab : (if g = true then none else q.cabinet) =
        if g = true ∨ r.state = .retired then none else r.cabinet.map (clampNat 1 24) := by
      have hqc : q.cabinet = if r.state = .retired then none else r.cabinet.map (clampNat 1 24) := rfl
      rw [hqc]
      by_cases h1 : g = true <;> by_cases h2 : r.state = .retired <;> simp [h1, h2]
    refine ⟨_, g, ?_, ?_, congrArg (fun c => { q with
      cabinet := c, suspect := (s.load cause).marked k p q, state := (s.load cause).checkedState k p q }) hcab |>.trans ?_, ?_, ?_⟩
    · rw [hw.strings, hload, Option.map_some, hwork]
    · rw [hw.cabinet?]
      exact hdet
    · rw [hprof]; rfl
    · rw [and_markOf_iff _ hk64.1 hk64.2, hw.changed (k - 1) (by omega), show k - 1 + 1 = k by omega, hload, Option.any_some, hwork]
      have h0 : (s.load cause).attention.stringStateChanged.getLsbD (k - 1) = false := BitVec.getLsbD_zero
      rw [h0, Bool.false_or, decide_eq_true_iff]
      rfl
    · rw [hw.queue]
      have hqs : q.suspect = r.suspect := rfl
      have hqt : q.state = r.state := rfl
      have hnot : stringImage k ∉ (s.load cause).store.queue := stringImage_not_bad hk rfl
      constructor
      · rintro (h | ⟨j, b, hb, hs, e⟩)
        · exact absurd h hnot
        · have hjk : j = k := (congrArg ImageId.number e).symm
          subst hjk
          rw [hload] at hb
          cases hb
          rw [hwork] at hs
          simpa [or_assoc, hqs, hqt] using hs
      · intro h
        refine .inr ⟨k, q, hload, ?_, rfl⟩
        rw [hwork]
        simpa [or_assoc, hqs, hqt] using h

end

namespace Sys2Proof.Machine

/-! ## What changes records and work items alone -/

/-- The state `t` with the records, the work items, their causes and the dirty queue of `s`. -/
def State.withRecordsOf (t s : State) : State :=
  { t with
    strings := s.strings, visits := s.visits
    attention := { t.attention with
      stringStateChanged := s.attention.stringStateChanged, visitItemInterrupted := s.attention.visitItemInterrupted }
    store := { t.store with queue := s.store.queue } }

/-- `t` differs from `s` in records, work items, their causes and the dirty queue alone. -/
def State.RecordFrame (s t : State) : Prop := t.withRecordsOf s = s

theorem State.RecordFrame.refl (s : State) : s.RecordFrame s := rfl

theorem State.RecordFrame.trans {s t u : State} (h : s.RecordFrame t) (g : t.RecordFrame u) : s.RecordFrame u := by
  calc u.withRecordsOf s = (u.withRecordsOf t).withRecordsOf s := rfl
    _ = t.withRecordsOf s := by rw [g]
    _ = s := h

section
variable {s t : State} (h : s.RecordFrame t)
include h

theorem State.RecordFrame.phase : t.phase = s.phase := (congrArg State.phase h :)
theorem State.RecordFrame.floor : t.floor = s.floor := (congrArg State.floor h :)
theorem State.RecordFrame.cabinets : t.cabinets = s.cabinets := (congrArg State.cabinets h :)
theorem State.RecordFrame.link : t.link = s.link := (congrArg State.link h :)
theorem State.RecordFrame.profiles : t.profiles = s.profiles := (congrArg State.profiles h :)
theorem State.RecordFrame.groups : t.groups = s.groups := (congrArg State.groups h :)
theorem State.RecordFrame.permits : t.permits = s.permits := (congrArg State.permits h :)
theorem State.RecordFrame.ask : t.ask = s.ask := (congrArg State.ask h :)
theorem State.RecordFrame.port : t.port = s.port := (congrArg State.port h :)
theorem State.RecordFrame.images : t.store.images = s.store.images := (congrArg (fun u => u.store.images) h :)
theorem State.RecordFrame.utilityChange : t.attention.utilityChange = s.attention.utilityChange :=
  (congrArg (fun u => u.attention.utilityChange) h :)
theorem State.RecordFrame.marginShort : t.attention.marginShort = s.attention.marginShort :=
  (congrArg (fun u => u.attention.marginShort) h :)

end

theorem State.recordFrame_workOn (s : State) (k : Nat) (f : Option Profile → Work → Work) : s.RecordFrame (s.workOn k f) := by
  cases hr : s.string? k with
  | none => rw [State.workOn_free _ _ _ hr]; exact .refl s
  | some r =>
    rw [State.workOn_record _ _ _ r hr, State.commit_eq]
    unfold State.RecordFrame
    cases (f (s.profile? r.profile) (startWork r)).changed <;> cases (f (s.profile? r.profile) (startWork r)).save <;> rfl

theorem State.RecordFrame.foldl {α : Type} {f : State → α → State} (hf : ∀ t a, State.RecordFrame t (f t a)) (l : List α)
    (s : State) : s.RecordFrame (l.foldl f s) := by
  induction l generalizing s with
  | nil => exact .refl s
  | cons a l ih => exact (hf s a).trans (ih (f s a))

theorem State.recordFrame_restoreVisit (s : State) (v : Nat) : s.RecordFrame (s.restoreVisit v) := by
  unfold State.restoreVisit
  split
  · exact .refl s
  · dsimp only
    refine State.RecordFrame.trans ?_ (State.RecordFrame.foldl (f := State.holdTargetOf v) (fun t it => ?_) _ _)
    · split
      · split
        · rfl
        · rfl
      · split
        · rfl
        · rfl
    · unfold State.holdTargetOf
      split
      · exact t.recordFrame_workOn _ _
      · exact .refl t

theorem State.recordFrame_settleString (s : State) (k : Nat) : s.RecordFrame (s.settleString k) := by
  unfold State.settleString
  split
  · exact .refl s
  · split
    · exact s.recordFrame_workOn _ _
    · split
      · exact s.recordFrame_workOn _ _
      · exact .refl s

theorem State.recordFrame_restoreVisits (s : State) : s.RecordFrame s.restoreVisits :=
  (State.RecordFrame.foldl State.recordFrame_restoreVisit _ s).trans (State.RecordFrame.foldl State.recordFrame_settleString _ _)

theorem State.recordFrame_closeStoredEvents (s : State) : s.RecordFrame s.closeStoredEvents :=
  State.RecordFrame.foldl (fun t k => t.recordFrame_workOn k closeEvent) _ s

/-! ## The end of a start (R172 to R175) -/

theorem closeEvent_event (p : Option Profile) (w : Work) : (closeEvent p w).r.event = none := by
  unfold closeEvent
  cases he : w.r.event with
  | none => exact he
  | some e => cases p <;> simp [StringRecord.weighed]

theorem State.closeStoredEvents_event {s : State} (hz : s.Sized) {k : Nat} {r : StringRecord}
    (h : s.closeStoredEvents.string? k = some r) : r.event = none := by
  have hw : s.closeStoredEvents.string? k = _ := (State.worked_table hz (fun _ => closeEvent)).strings k
  rw [hw] at h
  obtain ⟨q, -, rfl⟩ := Option.map_eq_some_iff.mp h
  exact closeEvent_event _ _

theorem State.judgeFirst_eq (s : State) : s.judgeFirst = { s with
    floor := { s.floor with utility := s.floor.firstJudgement }
    attention := if s.floor.firstJudgement = .unknown then s.attention
      else { s.attention with utilityChange := some s.floor.firstJudgement } } := by
  unfold State.judgeFirst
  dsimp only
  split <;> rfl

theorem Floor.firstJudgement_eq (f : Floor) :
    f.firstJudgement = if f.senseMoved = true then .unknown else if f.sense = true then .present else .lost := rfl

/-- No group enters Short that stood Short (R105). -/
theorem enteredShort_of_short {old new : List Group} (h : ∀ g ∈ old, g.status = .short) (n : Nat) : enteredShort n old new = 0 := by
  induction old generalizing n new with
  | nil => rfl
  | cons o os ih =>
    cases new with
    | nil => rfl
    | cons a as =>
      rw [enteredShort, ih (fun g hg => h g (List.mem_cons_of_mem _ hg)), if_neg]
      · rfl
      · rw [h o List.mem_cons_self]
        rintro ⟨e, -⟩
        cases e

/-- What a start leaves when the port is about to go to Idle. -/
structure State.StartEnded (s n : State) : Prop where
  port : n.port = s.port
  phase : n.phase = s.phase
  floor : n.floor = { s.floor with utility := s.floor.firstJudgement }
  utilityChange : n.attention.utilityChange =
    if s.floor.firstJudgement = .unknown then s.attention.utilityChange else some s.floor.firstJudgement
  marginShort : (∀ g ∈ s.groups, g.status = .short) → n.attention.marginShort = s.attention.marginShort
  granted : ∀ k p, n.permit? k = some p → p.state = .granted →
    s.floor.firstJudgement = .present ∧ p.timeout = some s.floor.config.grantTimeout
  events : ∀ k r, n.string? k = some r → r.event = none
  groups : n.groups = (numbers Config.groupCount).map (n.figures none)
  line : n.link.line = .linkBreak
  profiles : n.profiles = s.profiles
  images : n.store.images = s.store.images

/-- A Granted permit that step 5 leaves has its full timeout, and the utility is Present (R137). -/
theorem State.restoredPermit_granted {s : State} {p q : Permit} (h : s.restoredPermit p = some q) (hg : q.state = .granted) :
    s.floor.utility = .present ∧ q.timeout = some s.floor.config.grantTimeout := by
  unfold State.restoredPermit at h
  split at h
  · cases h
  · split at h
    · cases h
    · rename_i hn
      cases h
      have hp : p.state = .granted := hg
      exact ⟨by_contra fun hu => hn ⟨hp, hu⟩, if_pos hp⟩

theorem State.nearlyStarted_ended {s : State} (hz : s.Sized) : s.StartEnded s.nearlyStarted := by
  have hj := s.judgeFirst_eq
  have hjz : s.judgeFirst.Sized := Moves.refl.judgeFirst.keep (fun _ _ m => m.sized) hz
  have hvz : s.judgeFirst.restorePermits.restoreVisits.Sized :=
    Moves.refl.restorePermits.restoreVisits.keep (fun _ _ m => m.sized) hjz
  obtain ⟨hf, hp⟩ := State.restorePermits_spec hjz
  have hev := fun k r => State.closeStoredEvents_event (k := k) (r := r) hvz
  have hr : s.judgeFirst.restorePermits.RecordFrame s.judgeFirst.restorePermits.restoreVisits.closeStoredEvents :=
    (State.recordFrame_restoreVisits _).trans (State.recordFrame_closeStoredEvents _)
  have hn : s.nearlyStarted = s.judgeFirst.restorePermits.restoreVisits.closeStoredEvents.firstBreak.recompute := rfl
  rw [hn]
  generalize s.judgeFirst.restorePermits.restoreVisits.closeStoredEvents = e at *
  generalize s.judgeFirst.restorePermits = p at *
  generalize s.judgeFirst = j at *
  subst hj
  refine ⟨hr.port.trans hf.port, hr.phase.trans hf.phase, hr.floor.trans hf.floor, ?_, fun hs => ?_, fun k q hq hg => ?_,
    hev, State.recompute_current _, rfl, hr.profiles.trans hf.profiles, hr.images.trans hf.images⟩
  · refine hr.utilityChange.trans ((congrArg Attention.utilityChange hf.attention :).trans ?_)
    by_cases hu : s.floor.firstJudgement = .unknown
    · simp only [if_pos hu]
    · simp only [if_neg hu]
  · have hg : e.groups = s.groups := hr.groups.trans hf.groups
    have hm : e.attention.marginShort = s.attention.marginShort := by
      refine hr.marginShort.trans ((congrArg Attention.marginShort hf.attention :).trans ?_)
      dsimp only
      split <;> rfl
    calc (raiseMarginShort (enteredShort 1 e.groups _) e.attention).marginShort
        = e.attention.marginShort ||| enteredShort 1 e.groups _ := rfl
      _ = s.attention.marginShort := by rw [hg, enteredShort_of_short hs, hm]; exact BitVec.or_zero
  · have hq' : p.permit? k = some q := (congrArg (fun x => tget x k) hr.permits).symm.trans hq
    rw [hp k] at hq'
    obtain ⟨a, -, ha⟩ := Option.bind_eq_some_iff.mp hq'
    exact State.restoredPermit_granted ha hg

/-- What stands once the port is Idle. -/
theorem State.endStartUp_sound {s : State} (hz : s.Sized) (hp : s.PortAgrees) (hs : s.port.state = .starting) :
    s.nearlyStarted.ask = none ∧ s.nearlyStarted.PermitsDistinct := by
  refine State.endStartUp_permitsSound hz hs ?_
  cases ha : s.ask with
  | none => rfl
  | some a =>
    have hw := hp.working.mpr (by rw [ha]; rfl)
    rw [hs] at hw
    cases hw

end Sys2Proof.Machine

namespace Sys2Proof.Machine

/-! ## What neither reads nor writes the phase, the held tick or the port -/

/-- The state `s` with the phase, the held tick and the port of `u`. -/
def State.veiled (s u : State) : State :=
  { s with phase := u.phase, floor := { s.floor with tickHeld := u.floor.tickHeld }, port := u.port }

/-- An operation that neither reads nor writes the phase, the held tick or the port. -/
def VeilBlind (f : State → State) : Prop := ∀ u s, f (s.veiled u) = (f s).veiled u

theorem VeilBlind.comp {f g : State → State} (hf : VeilBlind f) (hg : VeilBlind g) : VeilBlind (fun s => f (g s)) :=
  fun u s => (congrArg f (hg u s)).trans (hf u (g s))

theorem VeilBlind.foldl {α : Type} {f : State → α → State} (h : ∀ a, VeilBlind (fun s => f s a)) (l : List α) (u s : State) :
    l.foldl f (s.veiled u) = (l.foldl f s).veiled u := by
  induction l generalizing s with
  | nil => rfl
  | cons a l ih => exact (congrArg (l.foldl f) (h a u s)).trans (ih (f s a))

theorem VeilBlind.ite {c : Prop} [Decidable c] {f g : State → State} (hf : VeilBlind f) (hg : VeilBlind g) :
    VeilBlind (fun s => if c then f s else g s) := by
  intro u s
  by_cases hc : c
  · simp only [if_pos hc]; exact hf u s
  · simp only [if_neg hc]; exact hg u s

theorem veilBlind_id : VeilBlind (fun s => s) := fun _ _ => rfl
theorem veilBlind_recompute : VeilBlind State.recompute := fun _ _ => rfl
theorem veilBlind_setPermit (k : Nat) (p : Option Permit) : VeilBlind (State.setPermit k p) := fun _ _ => rfl
theorem veilBlind_freePermit (k : Nat) : VeilBlind (State.freePermit k) := fun _ _ => rfl
theorem veilBlind_dropPermit (k : Nat) : VeilBlind (State.dropPermit k) := fun _ _ => rfl
theorem veilBlind_tickCabinets : VeilBlind State.tickCabinets := fun _ _ => rfl

theorem veilBlind_post (c : Nat) (n : Notice) : VeilBlind (State.post c n) := by
  intro u s
  unfold State.post
  rw [show (s.veiled u).cabinet? c = s.cabinet? c from rfl]
  cases s.cabinet? c <;> rfl

theorem veilBlind_commit (k : Nat) (w : Work) : VeilBlind (State.commit k w) := by
  intro u s
  unfold State.commit
  cases w.changed <;> cases w.save <;> rfl

theorem veilBlind_workOn (k : Nat) (f : Option Profile → Work → Work) : VeilBlind (State.workOn k f) := by
  intro u s
  unfold State.workOn
  rw [show (s.veiled u).string? k = s.string? k from rfl]
  cases s.string? k with
  | none => rfl
  | some r => exact veilBlind_commit k _ u s

theorem veilBlind_closePermit (k : Nat) : VeilBlind (State.closePermit k) := by
  intro u s
  unfold State.closePermit
  rw [show (s.veiled u).permit? k = s.permit? k from rfl]
  cases s.permit? k with
  | none => rfl
  | some p =>
    exact (VeilBlind.comp (veilBlind_freePermit k) (VeilBlind.ite (veilBlind_post _ _) veilBlind_id)) u s

theorem veilBlind_closeRaising (k : Nat) : VeilBlind (State.closeRaising k) :=
  VeilBlind.comp (f := State.attend _) (fun _ _ => rfl) (veilBlind_closePermit k)

theorem veilBlind_judgeFirst : VeilBlind State.judgeFirst := by
  intro u s
  unfold State.judgeFirst
  rw [show (s.veiled u).floor.firstJudgement = s.floor.firstJudgement from rfl]
  cases s.floor.firstJudgement <;> rfl

theorem veilBlind_loseVisit (k : Nat) : VeilBlind (State.loseVisit k) := by
  intro u s
  unfold State.loseVisit
  rw [show (s.veiled u).permit? k = s.permit? k from rfl]
  cases s.permit? k with
  | none => rfl
  | some p =>
    exact VeilBlind.ite (c := s.visitMissing p.visit = true)
      (f := fun t => (t.setPermit k (some { p with visit := none })).checkpoint (permitImage k)) (fun _ _ => rfl) veilBlind_id u s

theorem veilBlind_restorePermit (k : Nat) : VeilBlind (fun s => State.restorePermit s k) := by
  intro u s
  dsimp only
  unfold State.restorePermit
  rw [show (s.veiled u).permit? k = s.permit? k from rfl]
  cases s.permit? k with
  | none => rfl
  | some p =>
    have hgrant : VeilBlind (fun t => ((t.setPermit k (some { p with timeout := some s.floor.config.grantTimeout })).post
        p.cabinet .grant).loseVisit k) :=
      VeilBlind.comp (veilBlind_loseVisit k) (VeilBlind.comp (veilBlind_post _ _) (veilBlind_setPermit k _))
    exact VeilBlind.ite (c := (s.cabinet? p.cabinet).isNone = true) (veilBlind_dropPermit k)
      (VeilBlind.ite (c := p.state = .granted)
        (VeilBlind.ite (c := s.floor.utility = .present) hgrant (veilBlind_closeRaising k)) (veilBlind_loseVisit k)) u s

theorem veilBlind_restorePermits : VeilBlind State.restorePermits := by
  intro u s
  unfold State.restorePermits
  have hd : State.dropDuplicate (s.veiled u) = State.dropDuplicate s := rfl
  rw [hd, VeilBlind.foldl (f := State.dropDuplicate s) (fun k => ?_), VeilBlind.foldl veilBlind_restorePermit]
  unfold State.dropDuplicate
  cases s.permit? k with
  | none => exact veilBlind_id
  | some p =>
    exact VeilBlind.ite (veilBlind_dropPermit k) veilBlind_id

theorem veilBlind_holdTargetOf (v : Nat) (it : Item) : VeilBlind (fun s => State.holdTargetOf v s it) :=
  VeilBlind.ite (veilBlind_workOn _ _) veilBlind_id

theorem veilBlind_restoreVisit (v : Nat) : VeilBlind (fun s => State.restoreVisit s v) := by
  intro u s
  dsimp only
  unfold State.restoreVisit
  rw [show (s.veiled u).visit? v = s.visit? v from rfl]
  cases s.visit? v with
  | none => rfl
  | some x =>
    have hstore : VeilBlind (fun t => if x.items.map (s.restoredItem v) = x.items then t
        else (t.setVisit v (some { x with items := x.items.map (s.restoredItem v) })).checkpoint (visitImage v)) :=
      VeilBlind.ite veilBlind_id fun _ _ => rfl
    have hraise : VeilBlind (fun t => if (x.items.any (fun it => newlyInterrupted it (s.restoredItem v it))) = true
        then t.attend (raiseItemInterrupted v) else t) :=
      VeilBlind.ite (fun _ _ => rfl) veilBlind_id
    exact (VeilBlind.comp (f := fun t => (x.items.map (s.restoredItem v)).foldl (State.holdTargetOf v) t)
      (VeilBlind.foldl (veilBlind_holdTargetOf v) (x.items.map (s.restoredItem v)))
      (VeilBlind.comp hraise hstore)) u s

theorem veilBlind_settleString (k : Nat) : VeilBlind (fun s => State.settleString s k) := by
  intro u s
  dsimp only
  unfold State.settleString
  rw [show (s.veiled u).string? k = s.string? k from rfl]
  cases s.string? k with
  | none => rfl
  | some r =>
    exact VeilBlind.ite (c := r.state = .retiring ∧ s.replacing k = false) (veilBlind_workOn _ _)
      (VeilBlind.ite (c := r.state = .retired ∧ r.owner.isSome = true ∧ (r.owner.bind s.visit?).isNone = true)
        (veilBlind_workOn _ _) veilBlind_id) u s

theorem veilBlind_nearlyStarted : VeilBlind State.nearlyStarted := by
  intro u s
  unfold State.nearlyStarted State.restoreVisits State.closeStoredEvents State.closeStored
  have hbreak : ∀ t : State, (t.veiled u).firstBreak = t.firstBreak.veiled u := fun _ => rfl
  rw [veilBlind_judgeFirst u, veilBlind_restorePermits u, VeilBlind.foldl veilBlind_restoreVisit,
    VeilBlind.foldl veilBlind_settleString, VeilBlind.foldl (f := fun t k => State.workOn k closeEvent t)
      (fun k => veilBlind_workOn k closeEvent), hbreak, veilBlind_recompute u]

theorem veilBlind_pulseIfDue (k : Nat) : VeilBlind (State.pulseIfDue k) := by
  intro u s
  unfold State.pulseIfDue
  rw [show (s.veiled u).string? k = s.string? k from rfl]
  cases s.string? k with
  | none => rfl
  | some r =>
    have hset : VeilBlind (State.setPulse (r.cabinet.getD 0) r.position) := fun v t => by
      unfold State.setPulse
      rw [show (t.veiled v).cabinet? (r.cabinet.getD 0) = t.cabinet? (r.cabinet.getD 0) from rfl]
      cases t.cabinet? (r.cabinet.getD 0) <;> rfl
    exact VeilBlind.ite (c := pulseDue (s.profile? r.profile) r = true) hset veilBlind_id u s

theorem veilBlind_tickString (k : Nat) : VeilBlind (fun s => State.tickString s k) := by
  intro u s
  dsimp only
  unfold State.tickString
  rw [show (s.veiled u).string? k = s.string? k from rfl]
  cases s.string? k with
  | none => rfl
  | some r =>
    have hone : VeilBlind (fun t => (t.commit k (tickWork s (s.profile? r.profile) r)).pulseIfDue k) :=
      VeilBlind.comp (veilBlind_pulseIfDue k) (veilBlind_commit k _)
    exact VeilBlind.ite (c := (tickWork s (s.profile? r.profile) r).save = true)
      (VeilBlind.comp veilBlind_recompute hone) hone u s

theorem veilBlind_tickPermit (k : Nat) : VeilBlind (fun s => State.tickPermit s k) := by
  intro u s
  dsimp only
  unfold State.tickPermit
  rw [show (s.veiled u).permit? k = s.permit? k from rfl]
  cases s.permit? k with
  | none => rfl
  | some p =>
    dsimp only
    cases p.state with
    | granted =>
      exact VeilBlind.ite (c := p.timeout.getD 0 ≤ 1)
        (VeilBlind.comp veilBlind_recompute (veilBlind_closeRaising k)) (veilBlind_setPermit k _) u s
    | active =>
      exact VeilBlind.ite (c := p.remaining ≤ 1) (f := State.makeOverdue k p) (fun _ _ => rfl)
        (veilBlind_setPermit k _) u s
    | overdue => rfl
    | returning => rfl

theorem veilBlind_tickVisit (v : Nat) : VeilBlind (fun s => State.tickVisit s v) := by
  intro u s
  dsimp only
  unfold State.tickVisit
  rw [show (s.veiled u).visit? v = s.visit? v from rfl]
  cases s.visit? v with
  | none => rfl
  | some x =>
    exact VeilBlind.ite (c := x.remaining = 0) veilBlind_id
      (VeilBlind.ite (c := x.remaining = 1) (f := State.makeOvertime v x)
        (g := State.setVisit v (some { x with remaining := x.remaining - 1 })) (fun _ _ => rfl) (fun _ _ => rfl)) u s

theorem veilBlind_tick : VeilBlind State.tick := by
  intro u s
  unfold State.tick
  dsimp only
  rw [veilBlind_tickCabinets u s, VeilBlind.foldl veilBlind_tickString, VeilBlind.foldl veilBlind_tickPermit,
    VeilBlind.foldl veilBlind_tickVisit]

/-! ## The judgement with what waits behind it (R3, R175, R184) -/

/-- The state `s` with no tick held and no order waiting. -/
def State.unheld (s : State) : State :=
  { s with floor := { s.floor with tickHeld := false }, port := { s.port with urgent := none } }

/-- The state `s` with an Idle port and no tick held. -/
def State.opened (s : State) : State :=
  { s with floor := { s.floor with tickHeld := false }, port := { s.port with state := .idle } }

theorem State.nearlyStarted_endStartUp (s : State) : s.nearlyStarted.endStartUp = s.nearlyStarted.veiled s.endStartUp := by
  have h : s.nearlyStarted = s.nearlyStarted.veiled s := veilBlind_nearlyStarted s s
  generalize s.nearlyStarted = n at *
  rw [h]
  rfl

theorem State.finishStartUp_plain {s : State} (hh : s.floor.tickHeld = false) (hu : s.port.urgent = none) :
    s.finishStartUp = s.nearlyStarted.veiled s.endStartUp := by
  rw [State.finishStartUp_eq, State.nearlyStarted_endStartUp]
  generalize s.nearlyStarted = n
  have hd : (n.veiled s.endStartUp).deliverHeldTick = n.veiled s.endStartUp := if_neg (by
    rw [show (n.veiled s.endStartUp).floor.tickHeld = s.floor.tickHeld from rfl, hh]
    exact Bool.false_ne_true)
  rw [hd]
  exact State.takeUrgent_none hu

theorem State.unheld_finishStartUp (s : State) : s.unheld.finishStartUp = s.nearlyStarted.veiled s.unheld.endStartUp := by
  have h : s.unheld.nearlyStarted = s.nearlyStarted.veiled s.unheld := veilBlind_nearlyStarted s.unheld s
  rw [State.finishStartUp_plain rfl rfl, h]
  generalize s.nearlyStarted = n
  rfl

/-- The end of a start that waits with a tick, an order, both or none. -/
theorem State.finishStartUp_waiting (s : State) : s.finishStartUp =
    ((if s.floor.tickHeld = true then s.nearlyStarted.tick else s.nearlyStarted).veiled s.opened).takeUrgent := by
  rw [State.finishStartUp_eq, State.nearlyStarted_endStartUp]
  generalize s.nearlyStarted = n
  refine congrArg State.takeUrgent ?_
  unfold State.deliverHeldTick
  cases hh : s.floor.tickHeld with
  | true =>
    refine (if_pos hh).trans ?_
    rw [if_pos rfl, ← veilBlind_tick]
    rfl
  | false =>
    refine (if_neg (ne_true_of_eq_false hh)).trans ?_
    rw [if_neg Bool.false_ne_true]
    simp only [State.veiled, State.endStartUp, State.opened, hh]

theorem execMinuteTick_idle {s : State} (hr : s.phase = .running) (hi : s.port.state = .idle) :
    execMinuteTick s = .next s.tick := by
  have ho : s.operating = true := by rw [State.operating, hr, hi]; rfl
  simp only [execMinuteTick, hr, if_pos ho]

theorem exec_firstUtilityJudgement {s : State} (hr : s.phase = .running) (hs : s.port.state = .starting) :
    exec .firstUtilityJudgement s = .next s.finishStartUp := by
  have he : exec .firstUtilityJudgement s = execFirstUtilityJudgement s := rfl
  rw [he, execFirstUtilityJudgement, hr, hs]

end Sys2Proof.Machine

section
open Sys2Proof Sys2Proof.Machine

/-- Settles O59: the records, permits and visits are restored in steps that each leave the rest as it stands; neither the phase, the
held tick nor the port is read by them or by a tick, so both may be put off. -/
theorem firstJudgementEndsTheStart : Obligations.FirstJudgementEndsTheStart := by
  refine ⟨fun s hz hp hr hs hh hu => ?_, fun s t0 t1 hr hs h0 h1 => ?_⟩
  · refine ⟨s.nearlyStarted.endStartUp, ?_, ?_⟩
    · rw [exec_firstUtilityJudgement hr hs, State.finishStartUp_plain hh hu, State.nearlyStarted_endStartUp]
    · have he := State.nearlyStarted_ended hz
      obtain ⟨hask, hd⟩ := State.endStartUp_sound hz hp hs
      have hd' := hd.endStartUp
      generalize s.nearlyStarted = n at *
      have hone : n.endStartUp.OnePermitEach := (State.onePermitEach_iff _).mpr fun _ => hd'
      refine ⟨?_, he.floor, fun hm => ?_, fun hm => ?_, he.marginShort, hone, hd'.present, fun _ hl => ⟨hask, fun k => ?_⟩,
        fun k p h g => (he.granted k p h g).2, he.events, fun _ => he.groups, he.line, he.profiles, he.images⟩
      · exact congrArg (fun p : Port => { p with state := .idle }) he.port
      · refine he.utilityChange.trans ?_
        rw [Floor.firstJudgement_eq, hm]
        cases s.floor.sense <;> rfl
      · refine he.utilityChange.trans ?_
        rw [Floor.firstJudgement_eq, if_pos hm, if_pos rfl]
      · refine Bool.eq_false_iff.mpr fun hg => ?_
        obtain ⟨p, hk, hg⟩ := (State.isGranted_iff _ _).mp hg
        refine hl ?_
        exact (congrArg Floor.utility he.floor).trans (he.granted k p hk hg).1
  · rw [exec_firstUtilityJudgement hr hs, State.finishStartUp_waiting]
    have h0' := (exec_firstUtilityJudgement (s := s.unheld) hr hs).symm.trans h0
    rw [State.unheld_finishStartUp] at h0'
    generalize s.nearlyStarted = n at *
    cases h0'
    have htick : exec .minuteTick (n.veiled s.unheld.endStartUp) = .next (n.tick.veiled s.unheld.endStartUp) := by
      refine (execMinuteTick_idle (s := n.veiled s.unheld.endStartUp) hr rfl).trans ?_
      rw [veilBlind_tick]
    rw [htick] at h1
    generalize n.tick = m at *
    cases hh : s.floor.tickHeld with
    | true =>
      rw [hh, if_pos rfl] at h1
      cases h1
      rw [if_pos rfl]
      rfl
    | false =>
      rw [hh, if_neg Bool.false_ne_true] at h1
      cases h1
      rw [if_neg Bool.false_ne_true]
      rfl

end

namespace Sys2Proof.Machine

/-! ## The intake of a report (R62) -/

/-- A string stands at its position after work that leaves records where they are. -/
theorem State.stringAt_index_congr {s t : State} {g : Nat → StringRecord → StringRecord}
    (h : ∀ k, t.string? k = (s.string? k).map (g k)) (hg : ∀ k r, StringRecord.Steady r (g k r)) (c p : Nat) :
    (t.stringAt c p).map Prod.fst = (s.stringAt c p).map Prod.fst := by
  have hforth : ∀ k r, s.string? k = some r → r.cabinet = some c → r.position = p → r.state ≠ .retired →
      t.string? k = some (g k r) ∧ (g k r).cabinet = some c ∧ (g k r).position = p ∧ (g k r).state ≠ .retired :=
    fun k r hr hc hp hs => ⟨by rw [h, hr]; rfl, (hg k r).cabinet.trans hc, (hg k r).position.trans hp,
      fun e => hs ((hg k r).retired.mp e)⟩
  have hback : ∀ k q, t.string? k = some q → q.cabinet = some c → q.position = p → q.state ≠ .retired →
      ∃ r, s.string? k = some r ∧ r.cabinet = some c ∧ r.position = p ∧ r.state ≠ .retired := by
    intro k q hq hc hp hs
    rw [h] at hq
    obtain ⟨r, hr, rfl⟩ := Option.map_eq_some_iff.mp hq
    exact ⟨r, hr, (hg k r).cabinet.symm.trans hc, (hg k r).position.symm.trans hp, fun e => hs ((hg k r).retired.mpr e)⟩
  cases ha : s.stringAt c p with
  | none =>
    rw [State.stringAt_eq_none (s := t) fun k q hq hc hp => ?_]
    by_contra hs
    obtain ⟨r, hr, hrc, hrp, hrs⟩ := hback k q hq hc hp hs
    exact hrs (State.stringAt_none ha k r hr hrc hrp)
  | some e =>
    obtain ⟨hr, hc, hp, hs⟩ := State.stringAt_some (k := e.1) (r := e.2) ha
    obtain ⟨hq, hqc, hqp, hqs⟩ := hforth _ _ hr hc hp hs
    cases hb : t.stringAt c p with
    | none => exact absurd (State.stringAt_none hb _ _ hq hqc hqp) hqs
    | some d =>
      obtain ⟨hd, hdc, hdp, hds⟩ := State.stringAt_some (k := d.1) (r := d.2) hb
      obtain ⟨r', hr', hrc', hrp', hrs'⟩ := hback _ _ hd hdc hdp hds
      exact congrArg some (Nat.le_antisymm (State.stringAt_lowest (j := d.1) (q := d.2) hb hq hqc hqp hqs)
        (State.stringAt_lowest (j := e.1) (q := e.2) ha hr' hrc' hrp' hrs'))

/-- What the report makes of the record in slot `k` once positions `1..n` have taken their blocks. -/
def State.reportWorkTo (s : State) (c : Nat) (old : Mode) (isNew : Bool) (rep : Report) (n k : Nat) (r : StringRecord) : Work :=
  if 1 ≤ r.position ∧ r.position ≤ n ∧ (s.stringAt c r.position).map Prod.fst = some k then
    intakeBlock old rep.givenMode isNew (rep.block r.position) (s.profile? r.profile) (startWork r)
  else startWork r

/-- The intake gives each attached record its position's block (R62). -/
theorem State.intake_worked (s : State) (c : Nat) (old : Mode) (isNew : Bool) (rep : Report) (hb : ∀ p, (rep.block p).InRange) :
    s.Worked (s.intake c old rep.givenMode isNew rep) (s.reportWorkTo c old isNew rep Config.positionCount) := by
  refine foldl_numbers (P := fun n t => s.Worked t (s.reportWorkTo c old isNew rep n)) _
    ((State.Worked.refl s).congr fun k r _ => ?_) fun n t _ ht => ?_
  · rw [State.reportWorkTo, if_neg (by omega)]
  · have hsteady : ∀ k r, StringRecord.Steady r (s.reportWorkTo c old isNew rep n k r).r := fun k r => by
      unfold State.reportWorkTo
      split
      · exact (intakeBlock_sound _ _ _ _ (hb _) _ (startWork r)).steady
      · exact .refl r
    have hat := State.stringAt_index_congr (g := fun k r => (s.reportWorkTo c old isNew rep n k r).r) ht.strings hsteady c (n + 1)
    unfold State.intakeAt
    cases ha : t.stringAt c (n + 1) with
    | none =>
      rw [ha] at hat
      refine ht.congr fun k r _ => ?_
      unfold State.reportWorkTo
      refine if_congr (and_congr_right fun _ => ⟨fun ⟨h1, h2⟩ => ⟨by omega, h2⟩, fun ⟨h1, h2⟩ => ⟨?_, h2⟩⟩) rfl rfl
      by_contra hn
      rw [show r.position = n + 1 by omega, ← hat] at h2
      cases h2
    | some e =>
      rw [ha] at hat
      obtain ⟨j, q⟩ := e
      have hpos : ∀ r, s.string? j = some r → r.position = n + 1 := fun r hr => by
        obtain ⟨hq, -, hp, -⟩ := State.stringAt_some ha
        rw [ht.strings, hr] at hq
        cases hq
        exact (hsteady j r).position.symm.trans hp
      refine (ht.workOn (k := j) (fun r hr => ?_) _).congr fun k r hr => ?_
      · rw [State.reportWorkTo, if_neg]
        have := hpos r hr
        omega
      · unfold State.reportWorkTo
        by_cases hk : k = j
        · subst hk
          rw [if_pos rfl, if_pos ⟨by rw [hpos r hr]; omega, by rw [hpos r hr], by rw [hpos r hr, ← hat]; rfl⟩, hpos r hr]
        · rw [if_neg hk]
          refine if_congr (and_congr_right fun _ => ⟨fun ⟨h1, h2⟩ => ⟨by omega, h2⟩, fun ⟨h1, h2⟩ => ⟨?_, h2⟩⟩) rfl rfl
          by_contra hn
          rw [show r.position = n + 1 by omega, ← hat] at h2
          exact hk (Option.some.inj h2).symm

/-! ## The unauthorised-bypass flag (R134, R135) -/

/-- The flag after a report of mode `m` from a cabinet that no permit names. -/
def Mode.flagged (m : Mode) (flag : Bool) : Bool := if m = .maintenanceBypass then true else if m = .off then flag else false

theorem State.judgeBypass_unnamed {t : State} {c : Nat} {y : Cabinet} (h : t.cabinet? c = some y) (m : Mode) :
    (∀ d, (t.judgeBypass c m false).cabinet? d =
      if d = c then some { y with unauthorised := m.flagged y.unauthorised } else t.cabinet? d) ∧
    t.judgeBypass c m false = { t with
      cabinets := (t.judgeBypass c m false).cabinets
      attention := if m = .maintenanceBypass ∧ y.unauthorised = false then raiseUnauthorisedBypass c t.attention
        else t.attention } := by
  have hset : ∀ b d, (t.setCabinet c (some { y with unauthorised := b })).cabinet? d =
      if d = c then some { y with unauthorised := b } else t.cabinet? d := fun b d => tget_tset_of_some _ _ _ _ _ h
  have hsame : ∀ d, t.cabinet? d = if d = c then some y else t.cabinet? d := fun d => by
    split
    · subst_vars; exact h
    · rfl
  unfold State.judgeBypass
  rw [h]
  cases m with
  | maintenanceBypass =>
    dsimp only
    by_cases hy : y.unauthorised = false
    · rw [if_pos ⟨rfl, hy⟩, if_pos ⟨rfl, hy⟩]
      exact ⟨hset true, rfl⟩
    · rw [if_neg (fun e => hy e.2), if_neg (fun e => hy e.2)]
      have hy' : { y with unauthorised := true } = y := by
        obtain ⟨⟩ := y
        simp only [Bool.not_eq_false] at hy
        rw [hy]
      refine ⟨fun d => (hsame d).trans ?_, rfl⟩
      rw [show Mode.flagged .maintenanceBypass y.unauthorised = true from rfl, hy']
  | off => exact ⟨hsame, rfl⟩
  | unknown => exact ⟨hset false, rfl⟩
  | inverter => exact ⟨hset false, rfl⟩
  | battery => exact ⟨hset false, rfl⟩
  | staticBypass => exact ⟨hset false, rfl⟩
  | faulted => exact ⟨hset false, rfl⟩

/-! ## An accepted report (R36) -/

/-- The state once the entry of the cabinet has taken the report and a Lost one is back (R33, R36). -/
def State.contacted (c : Nat) (x : Cabinet) (f : Flight) (rep : Report) (s : State) : State :=
  if x.link = .lost then ((s.setCabinet c (some (x.afterReport f.posting rep))).goodContact).attend (raiseCabinetBack c)
  else (s.setCabinet c (some (x.afterReport f.posting rep))).goodContact

theorem State.contacted_eq (c : Nat) (x : Cabinet) (f : Flight) (rep : Report) (s : State) : s.contacted c x f rep = { s with
    cabinets := tset s.cabinets c (some (x.afterReport f.posting rep))
    link := { s.link with failureRun := 0 }
    attention := { s.attention with cabinetBack :=
      if x.link = .lost then s.attention.cabinetBack ||| markOf 24 c else s.attention.cabinetBack } } := by
  unfold State.contacted
  split <;> rfl

theorem Cabinet.afterReport_eq (x : Cabinet) (carried : Option Posting) (rep : Report) :
    x.afterReport carried rep = { x.reported rep rep.givenMode with notice := x.reportedNotice rep carried } := by
  have he : (if x.isNew rep = true then !rep.toggle else x.expected) =
      (if rep.toggle = x.expected then !x.expected else x.expected) := by
    unfold Cabinet.isNew
    by_cases ht : rep.toggle = x.expected
    · simp [ht]
    · simp [ht]
  unfold Cabinet.afterReport
  rw [he]
  rfl

/-- What is left to do once the groups are formed: the waiting ask (R115, R116). -/
theorem State.askReport_none {w : State} (h : w.ask = none) (c : Nat) (m : Mode) (f : Flight) : w.askReport c m f = w := by
  have hs : w.settleWait c = w := by unfold State.settleWait; rw [h]
  unfold State.askReport State.endsByMode State.releaseWait
  rw [h, hs]
  exact (if_neg Bool.false_ne_true).trans (ite_self _)

theorem State.askReport_ends {w : State} {a : Ask} (h : w.ask = some a) (m : Mode) (f : Flight) (h1 : m ≠ .inverter)
    (h2 : m ≠ .staticBypass) : w.askReport a.cabinet m f = w.endAsk .wrongState := by
  unfold State.askReport State.endsByMode
  rw [h]
  exact if_pos (by simp [h1, h2])

theorem State.askReport_stays {w : State} {a : Ask} (h : w.ask = some a) {c : Nat} {m : Mode} (f : Flight)
    (hm : a.cabinet ≠ c ∨ m = .inverter ∨ m = .staticBypass) : w.askReport c m f = if f.afterAsk = true then
      ({ w with ask := some { a with waitSet := a.waitSet.filter (fun n => n != c) } } : State).judgeIfSettled else w := by
  have hs : w.settleWait c =
      ({ w with ask := some { a with waitSet := a.waitSet.filter (fun n => n != c) } } : State).judgeIfSettled := by
    unfold State.settleWait; rw [h]
  unfold State.askReport State.endsByMode State.releaseWait
  rw [h, hs]
  refine if_neg ?_
  rcases hm with hc | rfl | rfl <;> simp [*]

theorem exec_replyEnd_report {s : State} {chars : List RawChar} {fl : Flight} {x : Cabinet} {rep : Report}
    (hf : s.link.flight = some fl) (hl : fl.live = true) (hx : s.cabinet? fl.cabinet = some x)
    (hj : judgeReply fl.cabinet (chars.map receive) = .report rep) (hp : s.permitOf fl.cabinet = none) :
    ∃ v b : State, s.closeWindow.contacted fl.cabinet x fl rep = v ∧
      (v.intake fl.cabinet x.mode rep.givenMode (x.isNew rep) rep).judgeBypass fl.cabinet rep.givenMode false = b ∧
      exec (.replyEnd chars) s = .next (b.recompute.askReport fl.cabinet rep.givenMode fl) := by
  refine ⟨_, _, rfl, rfl, ?_⟩
  have hb : ∀ p, (rep.block p).InRange := by
    obtain ⟨halted, rfl⟩ := judgeReply_report hj
    exact reportOf_block_inRange halted _
  have he : exec (.replyEnd chars) s = .next (s.takeReply (chars.map receive)) := rfl
  have ht : s.takeReply (chars.map receive) = s.closeWindow.takeReport fl.cabinet x fl rep := by
    unfold State.takeReply
    rw [hf]
    dsimp only
    rw [hx]
    dsimp only
    rw [if_pos hl, hj]
  rw [he, ht]
  unfold State.takeReport
  have hv : (if x.link = .lost then ((s.closeWindow.setCabinet fl.cabinet (some (x.afterReport fl.posting rep))).goodContact).attend
      (raiseCabinetBack fl.cabinet) else (s.closeWindow.setCabinet fl.cabinet (some (x.afterReport fl.posting rep))).goodContact) =
      s.closeWindow.contacted fl.cabinet x fl rep := rfl
  dsimp only
  rw [hv]
  have hvp : (s.closeWindow.contacted fl.cabinet x fl rep).permits = s.permits := by rw [State.contacted_eq]; rfl
  generalize s.closeWindow.contacted fl.cabinet x fl rep = v at *
  have hw := v.intake_worked fl.cabinet x.mode (x.isNew rep) rep hb
  have hpn : (v.intake fl.cabinet x.mode rep.givenMode (x.isNew rep) rep).permitOf fl.cabinet = none := by
    unfold State.permitOf
    rw [hw.permits, hvp]
    exact hp
  unfold State.permitReport
  rw [hpn]

end Sys2Proof.Machine

section
open Sys2Proof Sys2Proof.Machine

/-- Settles O47: the entry is settled first, then the records take their blocks, then the flag is judged and the groups are
formed; what each of these leaves is known, and the waiting ask comes last. -/
theorem acceptedReportIsTaken : Obligations.AcceptedReportIsTaken := by
  intro chars s fl x rep m hz hf hl hx hj hp hm
  have hm : m = rep.givenMode := hm
  subst hm
  obtain ⟨v, b, hv, hb, he⟩ := exec_replyEnd_report hf hl hx hj hp
  have hblocks : ∀ p, (rep.block p).InRange := by
    obtain ⟨halted, rfl⟩ := judgeReply_report hj
    exact reportOf_block_inRange halted _
  have hw := v.intake_worked fl.cabinet x.mode (x.isNew rep) rep hblocks
  rw [State.contacted_eq, Cabinet.afterReport_eq] at hv
  have hvc : ∀ d, v.cabinet? d = if d = fl.cabinet then
      some { x.reported rep rep.givenMode with notice := x.reportedNotice rep fl.posting } else s.cabinet? d := fun d => by
    rw [← hv]
    exact tget_tset_of_some _ _ _ _ _ hx
  have hout : ∀ k r, v.reportWorkTo fl.cabinet x.mode (x.isNew rep) rep Config.positionCount k r =
      s.reportWork fl.cabinet x rep k r := by
    rw [← hv]
    exact fun k r => rfl
  have hvs : v.strings = s.strings := by rw [← hv]; rfl
  generalize v.intake fl.cabinet x.mode rep.givenMode (x.isNew rep) rep = i at *
  obtain ⟨hbc, hbe⟩ := State.judgeBypass_unnamed (t := i) (c := fl.cabinet)
    (y := { x.reported rep rep.givenMode with notice := x.reportedNotice rep fl.posting })
    (by rw [hw.cabinet?, hvc, if_pos rfl]) rep.givenMode
  rw [hb] at hbc hbe
  have hva : v.attention = { s.attention with cabinetBack :=
      if x.link = .lost then s.attention.cabinetBack ||| markOf 24 fl.cabinet else s.attention.cabinetBack } := by rw [← hv]; rfl
  have hia := hw.attention.trans (by rw [hva])
  have hba := congrArg State.attention hbe
  have hask : b.recompute.ask = s.ask := by
    rw [State.recompute_ask, hbe]
    exact hw.ask.trans (by rw [← hv]; rfl)
  have hport : b.recompute.port = s.port := by
    rw [State.recompute_port, hbe]
    exact hw.port.trans (by rw [← hv]; rfl)
  refine ⟨b.recompute, fun ha => ?_, fun a ha => ⟨fun hc h1 h2 => ?_, fun hc => ?_⟩, ?_, fun c hc => ?_, fun k => ?_,
    fun n hn => ?_, fun id => ?_, ?_, ?_, ?_, ?_, State.recompute_current b, ?_, ?_, ?_, ?_, hport, hask, ?_, ?_⟩
  · rw [he, State.askReport_none (hask.trans ha)]
  · rw [he, ← hc, State.askReport_ends (hask.trans ha) _ _ h1 h2, State.endAsk_eq, hask, ha, hport]
    rfl
  · have hs := State.askReport_stays (hask.trans ha) fl hc
    refine ⟨fun hn => ?_, fun hy => ?_⟩
    · rw [he, hs, hn, if_neg Bool.false_ne_true]
    · rw [he, hs, if_pos hy]
      rfl
  · exact (hbc fl.cabinet).trans (if_pos rfl)
  · refine (hbc c).trans ?_
    rw [if_neg hc, hw.cabinet?, hvc, if_neg hc]
  · have hbs : b.strings = i.strings := by rw [hbe]
    rw [State.string?, State.recompute_strings, hbs]
    refine (hw.strings k).trans ?_
    rw [State.string?, hvs]
    exact Option.map_congr fun r _ => congrArg Work.r (hout k r)
  · have hbn : b.recompute.attention.stringStateChanged = i.attention.stringStateChanged := by
      refine (congrArg Attention.stringStateChanged hba).trans ?_
      dsimp only
      split <;> rfl
    rw [hbn, hw.changed n hn, hva, State.string?, hvs]
    simp only [hout]
    rfl
  · have hbq : b.recompute.store.queue = i.store.queue := by rw [State.recompute_store, hbe]
    have hvq : v.store.queue = s.store.queue := by rw [← hv]; rfl
    rw [hbq, hw.queue, hvq]
    simp only [hout, State.string?, hvs]
  · refine (congrArg Attention.cabinetBack hba).trans ?_
    rw [hia]
    dsimp only
    split <;> rfl
  · refine (congrArg Attention.unauthorisedBypass hba).trans ?_
    rw [hia]
    dsimp only
    rw [apply_ite Attention.unauthorisedBypass]
    rfl
  · rw [State.recompute_attention, hba, hia]
    dsimp only
    split <;> rfl
  · rw [State.recompute_link, hbe]
    exact hw.link.trans (by rw [← hv]; rfl)
  · rw [State.recompute_permits, hbe]
    exact hw.permits.trans (by rw [← hv]; rfl)
  · rw [State.recompute_visits, hbe]
    exact hw.visits.trans (by rw [← hv]; rfl)
  · rw [State.recompute_profiles, hbe]
    exact hw.profiles.trans (by rw [← hv]; rfl)
  · rw [State.recompute_floor, hbe]
    exact hw.floor.trans (by rw [← hv]; rfl)
  · rw [State.recompute_store, hbe]
    exact hw.images.trans (by rw [← hv]; rfl)
  · rw [State.recompute_store, hbe]
    exact hw.writer.trans (by rw [← hv]; rfl)

end

namespace Sys2Proof.Machine

/-! ## The minute tick on one record (R67, R70, R74 to R76) -/

/-- The record with its event minutes and its minutes since measurement counted (R67, R70). -/
def StringRecord.ticked (r : StringRecord) : StringRecord :=
  { r with
    event := r.event.map (fun e => { e with minutes := min (e.minutes + 1) Config.chargeLimit })
    sinceR := if r.cabinet.isSome = true ∧ r.state ≠ .retired then min (r.sinceR + 1) Config.sinceLimit else r.sinceR }

/-- The record with a full window closed on the profile `q`, its last minute at the temperature `z` (R76, R81, R87, R88). -/
def StringRecord.windowed (r : StringRecord) (q : Profile) (z : Int) : StringRecord :=
  let life := addLife r.life (calendarShare q (r.s + z))
  let soh := min (lifeIndicatorOf life) r.resistanceIndicator
  { r with
    m := 0, s := 0, life := life, lifeIndicator := lifeIndicatorOf life, soh := soh
    state := derivedState (some q) r.suspect soh }

theorem countSinceR_eq (w : Work) : countSinceR w = { w with r := { w.r with
    sinceR := if w.r.cabinet.isSome = true ∧ w.r.state ≠ .retired then min (w.r.sinceR + 1) Config.sinceLimit
      else w.r.sinceR } } := by
  unfold countSinceR
  split <;> rfl

theorem State.countsMinute_iff (s : State) (r : StringRecord) : s.countsMinute r = true ↔ ∃ c x p, r.cabinet = some c ∧
    s.cabinet? c = some x ∧ s.profile? r.profile = some p ∧ x.mode ≠ .battery ∧ r.state ≠ .retiring ∧ r.state ≠ .retired := by
  unfold State.countsMinute
  cases hc : r.cabinet with
  | none => simp
  | some c =>
    cases hx : s.cabinet? c with
    | none => simp [hx]
    | some x =>
      cases hp : s.profile? r.profile with
      | none => simp [hx]
      | some p => simp [hx, and_assoc]; tauto

theorem tickWork_uncounted {s : State} {p : Option Profile} {r : StringRecord} (h : s.countsMinute r = false) :
    tickWork s p r = startWork r.ticked := by
  have hc : s.countsMinute (countEventMinute (startWork r)).r = false := h
  unfold tickWork countCalendarMinute
  rw [countSinceR_eq]
  cases p with
  | none => rfl
  | some q => simp only [hc, Bool.false_eq_true, if_false]; rfl

/-- The record with its event minutes counted (R67). -/
def StringRecord.eventTicked (r : StringRecord) : StringRecord :=
  { r with event := r.event.map (fun e => { e with minutes := min (e.minutes + 1) Config.chargeLimit }) }

theorem tickWork_counted {s : State} {q : Profile} {r : StringRecord} {z : Int} (h : s.countsMinute r = true)
    (hz : s.minuteTemperature q r = z) : tickWork s (some q) r = countSinceR (stage1 q z (startWork r.eventTicked)) := by
  subst hz
  exact congrArg countSinceR (if_pos h)

theorem tickWork_minute {s : State} {q : Profile} {r : StringRecord} {z : Int} (h : s.countsMinute r = true)
    (hz : s.minuteTemperature q r = z) (hm : r.m < 59) :
    tickWork s (some q) r = startWork { r.ticked with m := r.m + 1, s := r.s + z } := by
  have hn : ¬60 ≤ r.m + 1 := by omega
  have h1 : stage1 q z (startWork r.eventTicked) = startWork { r.eventTicked with m := r.m + 1, s := r.s + z } := if_neg hn
  rw [tickWork_counted h hz, h1, countSinceR_eq]
  rfl

/-- Stage 5 on a record that is neither Retiring nor Retired. -/
theorem stage5_derived {w : Work} (q : Profile) (h1 : w.r.state ≠ .retiring) (h2 : w.r.state ≠ .retired) {st : StringState}
    (hst : derivedState (some q) w.r.suspect (min (lifeIndicatorOf w.r.life) w.r.resistanceIndicator) = st) : stage5 q w = {
      r := { w.r with
        lifeIndicator := lifeIndicatorOf w.r.life, soh := min (lifeIndicatorOf w.r.life) w.r.resistanceIndicator, state := st }
      changed := w.changed || decide (w.r.state ≠ st), save := w.save || decide (w.r.state ≠ st) } := by
  have hn : ¬(w.r.state = .retiring ∨ w.r.state = .retired) := fun h => h.elim h1 h2
  subst hst
  unfold stage5 rederive
  dsimp only
  rw [if_neg hn]
  exact Work.eq_of_fields (takeState_r _ _) (takeState_changed _ _) (takeState_save _ _)

theorem stage1_window {q : Profile} {z : Int} {r : StringRecord} (h1 : r.state ≠ .retiring) (h2 : r.state ≠ .retired)
    (hm : 59 ≤ r.m) : stage1 q z (startWork r) =
      { r := r.windowed q z, changed := decide (r.state ≠ (r.windowed q z).state), save := true } := by
  have hn : 60 ≤ r.m + 1 := by omega
  refine (if_pos hn).trans ?_
  unfold stage2
  dsimp only [startWork]
  rw [stage5_derived (st := (r.windowed q z).state) q h1 h2 rfl]
  exact Work.eq_of_fields rfl (Bool.false_or _) rfl

theorem tickWork_window {s : State} {q : Profile} {r : StringRecord} {z : Int} (h : s.countsMinute r = true)
    (hz : s.minuteTemperature q r = z) (hm : 59 ≤ r.m) : tickWork s (some q) r =
      { r := r.ticked.windowed q z, changed := decide (r.state ≠ (r.windowed q z).state), save := true } := by
  obtain ⟨c, x, p, hc, -, -, -, h1, h2⟩ := (s.countsMinute_iff r).mp h
  have hin : r.cabinet.isSome = true := by rw [hc]; rfl
  have hst : (r.windowed q z).state ≠ .retired := (derivedState_ne (some q) _ _).2
  have ha : r.cabinet.isSome = true ∧ (r.windowed q z).state ≠ .retired := ⟨hin, hst⟩
  have hb : r.cabinet.isSome = true ∧ r.state ≠ .retired := ⟨hin, h2⟩
  rw [tickWork_counted h hz, stage1_window (r := r.eventTicked) h1 h2 hm, countSinceR_eq]
  refine Work.eq_of_fields ?_ rfl rfl
  refine (congrArg (fun n => { r.eventTicked.windowed q z with sinceR := n }) (if_pos ha)).trans ?_
  unfold StringRecord.ticked
  rw [if_pos hb]
  rfl

/-- The three things a tick can make of a record. -/
theorem tickWork_cases (s : State) (r : StringRecord) :
    (s.countsMinute r = false ∧ tickWork s (s.profile? r.profile) r = startWork r.ticked) ∨
    ∃ q z, s.profile? r.profile = some q ∧ s.minuteTemperature q r = z ∧ s.countsMinute r = true ∧
      ((r.m < 59 ∧ tickWork s (s.profile? r.profile) r = startWork { r.ticked with m := r.m + 1, s := r.s + z }) ∨
        (59 ≤ r.m ∧ tickWork s (s.profile? r.profile) r =
          { r := r.ticked.windowed q z, changed := decide (r.state ≠ (r.windowed q z).state), save := true })) := by
  cases h : s.countsMinute r with
  | false => exact .inl ⟨rfl, tickWork_uncounted h⟩
  | true =>
    obtain ⟨c, x, q, -, -, hq, -⟩ := (s.countsMinute_iff r).mp h
    refine .inr ⟨q, _, hq, rfl, rfl, ?_⟩
    rw [hq]
    rcases Nat.lt_or_ge r.m 59 with hm | hm
    · exact .inl ⟨hm, tickWork_minute h rfl hm⟩
    · exact .inr ⟨hm, tickWork_window h rfl hm⟩

theorem tickWork_counts (s : State) (r : StringRecord) :
    (tickWork s (s.profile? r.profile) r).r.event = r.ticked.event ∧
    (tickWork s (s.profile? r.profile) r).r.sinceR = r.ticked.sinceR := by
  rcases tickWork_cases s r with ⟨-, h⟩ | ⟨q, z, -, -, -, ⟨-, h⟩ | ⟨-, h⟩⟩ <;> rw [h] <;> exact ⟨rfl, rfl⟩

theorem tickWork_changed (s : State) (r : StringRecord) : (tickWork s (s.profile? r.profile) r).changed =
    decide ((tickWork s (s.profile? r.profile) r).r.state ≠ r.state) := by
  rcases tickWork_cases s r with ⟨-, h⟩ | ⟨q, z, -, -, -, ⟨-, h⟩ | ⟨-, h⟩⟩ <;> rw [h]
  · exact (decide_eq_false (not_not.mpr rfl)).symm
  · exact (decide_eq_false (not_not.mpr rfl)).symm
  · exact decide_eq_decide.mpr ne_comm

theorem tickWork_save (s : State) (r : StringRecord) :
    (tickWork s (s.profile? r.profile) r).save = true ↔ s.countsMinute r = true ∧ 59 ≤ r.m := by
  rcases tickWork_cases s r with ⟨hc, h⟩ | ⟨q, z, -, -, hc, ⟨hm, h⟩ | ⟨hm, h⟩⟩ <;> rw [h, hc]
  · exact ⟨fun e => absurd e Bool.false_ne_true, fun e => absurd e.1 Bool.false_ne_true⟩
  · exact ⟨fun e => absurd e Bool.false_ne_true, fun e => absurd e.2 (by omega)⟩
  · exact ⟨fun _ => ⟨rfl, hm⟩, fun _ => rfl⟩

/-- A record whose image a tick does not ask for keeps all that the figures of a group read (R101). -/
theorem tickWork_unsaved {s : State} {r : StringRecord} (h : (tickWork s (s.profile? r.profile) r).save = false) :
    ∃ m z, (tickWork s (s.profile? r.profile) r).r = { r.ticked with m := m, s := z } := by
  rcases tickWork_cases s r with ⟨-, hw⟩ | ⟨q, z, -, -, -, ⟨-, hw⟩ | ⟨-, hw⟩⟩
  · exact ⟨r.m, r.s, by rw [hw]; rfl⟩
  · exact ⟨_, _, by rw [hw]; rfl⟩
  · rw [hw] at h; cases h

/-- A tick reads of the cabinets their modes and their link states alone. -/
theorem tickWork_congr {s t : State}
    (hc : ∀ c, (t.cabinet? c).map (fun x => (x.mode, x.link)) = (s.cabinet? c).map (fun x => (x.mode, x.link)))
    (hp : t.profile? = s.profile?) : tickWork t = tickWork s := by
  have hcounts : t.countsMinute = s.countsMinute := by
    funext r
    unfold State.countsMinute
    cases r.cabinet with
    | none => rfl
    | some c =>
      have := hc c
      dsimp only
      rw [hp]
      cases ht : t.cabinet? c <;> cases hs : s.cabinet? c <;> rw [ht, hs] at this <;> simp_all
  have htemp : t.minuteTemperature = s.minuteTemperature := by
    funext q r
    unfold State.minuteTemperature
    cases r.cabinet with
    | none => rfl
    | some c =>
      have := hc c
      rw [Option.bind_some, Option.bind_some]
      cases ht : t.cabinet? c <;> cases hs : s.cabinet? c <;> rw [ht, hs] at this <;> simp_all
  funext p r
  unfold tickWork countCalendarMinute
  rw [hcounts, htemp]

theorem pulseDue_iff (p : Option Profile) (r : StringRecord) : pulseDue p r = true ↔
    ∃ q, p = some q ∧ r.cabinet.isSome = true ∧ r.state ≠ .retired ∧ q.interval * 1440 ≤ r.sinceR := by
  cases p <;> simp [pulseDue, and_assoc]

/-! ## The pass over the records -/

/-- The state `t` with the pulse sets, the groups and the raised MARGIN SHORT of `s`. -/
def State.withPulsesOf (t s : State) : State :=
  { t with
    cabinets := s.cabinets, groups := s.groups, attention := { t.attention with marginShort := s.attention.marginShort } }

/-- The tick of one of the records in slots `1..n` completes a pulse interval at position `i + 1` of cabinet `c` (R70). -/
def State.PulseFalls (s : State) (n c i : Nat) : Prop :=
  ∃ k r p, k ≤ n ∧ s.string? k = some r ∧ r.cabinet = some c ∧ r.position = i + 1 ∧ r.state ≠ .retired ∧
    s.profile? r.profile = some p ∧ p.interval * 1440 ≤ min (r.sinceR + 1) 999999

/-- The records in the slots `1..n` of `s` have taken the tick. -/
structure State.StringsTicked (s t : State) (n : Nat) : Prop where
  work : s.Worked (t.withPulsesOf s) (fun k r => if k ≤ n then tickWork s (s.profile? r.profile) r else startWork r)
  pulses : ∀ c, ∃ b : BitVec 4 → BitVec 4, t.cabinet? c = (s.cabinet? c).map (fun x => { x with pulse := b x.pulse }) ∧
    ∀ d i, i < 4 → ((b d).getLsbD i = true ↔ d.getLsbD i = true ∨ s.PulseFalls n c i)

theorem State.setPulse_cabinet? (s : State) (c pos d : Nat) : (s.setPulse c pos).cabinet? d =
    (s.cabinet? d).map (fun x => if d = c then { x with pulse := x.pulse ||| pulseBit pos } else x) := by
  unfold State.setPulse
  cases hx : s.cabinet? c with
  | none =>
    cases hd : s.cabinet? d with
    | none => rfl
    | some y =>
      have : d ≠ c := by rintro rfl; rw [hx] at hd; cases hd
      simp [this]
  | some x => exact tget_tset_map hx (fun y => { y with pulse := y.pulse ||| pulseBit pos }) d

theorem State.setPulse_withPulsesOf (t s : State) (c pos : Nat) : (t.setPulse c pos).withPulsesOf s = t.withPulsesOf s := by
  unfold State.setPulse
  split <;> rfl

theorem State.commit_withPulsesOf (t s : State) (k : Nat) (w : Work) :
    (t.commit k w).withPulsesOf s = (t.withPulsesOf s).commit k w := by
  unfold State.commit
  cases w.changed <;> cases w.save <;> rfl

theorem State.pulseIfDue_withPulsesOf (t s : State) (k : Nat) : (t.pulseIfDue k).withPulsesOf s = t.withPulsesOf s := by
  unfold State.pulseIfDue
  split
  · rfl
  · split
    · exact t.setPulse_withPulsesOf s _ _
    · rfl

/-- The tick of a record, with what it makes of the record. -/
theorem State.tickString_pulsed {t : State} {k : Nat} {r : StringRecord} {w : Work} (h : t.string? k = some r)
    (hw : tickWork t (t.profile? r.profile) r = w) :
    ∃ u, u = (if pulseDue (t.profile? r.profile) w.r = true then (t.commit k w).setPulse (w.r.cabinet.getD 0) w.r.position
        else t.commit k w) ∧ t.tickString k = if w.save = true then u.recompute else u := by
  have hst : r.Steady w.r := by rw [← hw]; exact (tickWork_sound t _ r).steady
  have hs : (t.commit k w).string? k = some w.r := by
    rw [State.commit_eq]
    exact tget_tset_some _ _ _ _ h
  have hp : (t.commit k w).profile? = t.profile? := by rw [State.commit_eq]; rfl
  refine ⟨(t.commit k w).pulseIfDue k, ?_, ?_⟩
  · unfold State.pulseIfDue
    rw [hs, hp]
    dsimp only
    rw [hst.profile]
  · rw [State.tickString_record h, hw]

theorem State.pulseFalls_succ {s : State} {n : Nat} {r : StringRecord} (hr : s.string? (n + 1) = some r) (c i : Nat) :
    s.PulseFalls (n + 1) c i ↔ s.PulseFalls n c i ∨
      (pulseDue (s.profile? r.profile) (tickWork s (s.profile? r.profile) r).r = true ∧
        r.cabinet = some c ∧ r.position = i + 1) := by
  have hst := (tickWork_sound s (s.profile? r.profile) r).steady
  have hdue : ∀ d, r.cabinet = some d → (pulseDue (s.profile? r.profile) (tickWork s (s.profile? r.profile) r).r = true ↔
      ∃ p, s.profile? r.profile = some p ∧ r.state ≠ .retired ∧ p.interval * 1440 ≤ min (r.sinceR + 1) 999999) := by
    intro d hd
    have hc : (tickWork s (s.profile? r.profile) r).r.cabinet.isSome = true := by rw [hst.cabinet, startWork_r, hd]; rfl
    rw [pulseDue_iff, (tickWork_counts s r).2]
    refine exists_congr fun p => and_congr_right fun _ => ?_
    rw [and_iff_right hc]
    have hs : (tickWork s (s.profile? r.profile) r).r.state ≠ .retired ↔ r.state ≠ .retired := not_congr hst.retired
    rw [hs]
    refine and_congr_right fun hn => ?_
    rw [StringRecord.ticked, if_pos ⟨by rw [hd]; rfl, hn⟩]
    rfl
  constructor
  · rintro ⟨k, q, p, hk, hq, hc, hp, hs, hf, hi⟩
    by_cases e : k = n + 1
    · subst e
      rw [hr] at hq
      cases hq
      exact .inr ⟨(hdue c hc).mpr ⟨p, hf, hs, hi⟩, hc, hp⟩
    · exact .inl ⟨k, q, p, by omega, hq, hc, hp, hs, hf, hi⟩
  · rintro (⟨k, q, p, hk, rest⟩ | ⟨hd, hc, hp⟩)
    · exact ⟨k, q, p, by omega, rest⟩
    · obtain ⟨p, hf, hs, hi⟩ := (hdue c hc).mp hd
      exact ⟨n + 1, r, p, le_rfl, hr, hc, hp, hs, hf, hi⟩

/-- A record's tick in the pass, where it is the record that the pass began with. -/
theorem State.StringsTicked.next {s t : State} {n : Nat} (h : s.StringsTicked t n) :
    s.StringsTicked (t.tickString (n + 1)) (n + 1) := by
  have hstring : t.string? (n + 1) = s.string? (n + 1) := by
    refine (h.work.strings (n + 1)).trans ?_
    rw [show (fun r => (if n + 1 ≤ n then tickWork s (s.profile? r.profile) r else startWork r).r) = id from
      funext fun r => by rw [if_neg (by omega)]; rfl, Option.map_id, id]
  have hle : ∀ k, k ≠ n + 1 → ((k ≤ n + 1) = (k ≤ n)) := fun k hk => by simp only [eq_iff_iff]; omega
  cases hr : s.string? (n + 1) with
  | none =>
    rw [State.tickString_free (hstring.trans hr)]
    have hne : ∀ k r, s.string? k = some r → k ≠ n + 1 := fun k r hk e => by rw [e, hr] at hk; cases hk
    refine ⟨h.work.congr fun k r hk => by simp only [hle k (hne k r hk)], fun c => ?_⟩
    obtain ⟨b, hb, hbits⟩ := h.pulses c
    refine ⟨b, hb, fun d i hi => (hbits d i hi).trans (or_congr_right ?_)⟩
    exact exists_congr fun k => exists_congr fun r => exists_congr fun p =>
      ⟨fun ⟨h1, h2⟩ => ⟨by omega, h2⟩, fun ⟨h1, h2, h3⟩ => ⟨by have := hne k r h2; omega, h2, h3⟩⟩
  | some r =>
    have hp : t.profile? = s.profile? := h.work.profile?
    have hw : tickWork t (t.profile? r.profile) r = tickWork s (s.profile? r.profile) r := by
      rw [tickWork_congr (s := s) (t := t) (fun c => ?_) hp, hp]
      obtain ⟨b, hb, -⟩ := h.pulses c
      rw [hb, Option.map_map]
      rfl
    have hst := (tickWork_sound s (s.profile? r.profile) r).steady
    have hsince := (tickWork_counts s r).2
    obtain ⟨u, hu, ht⟩ := State.tickString_pulsed (hstring.trans hr) hw
    have hwork : (t.tickString (n + 1)).withPulsesOf s =
        (t.withPulsesOf s).commit (n + 1) (tickWork s (s.profile? r.profile) r) := by
      have huw : u.withPulsesOf s = (t.withPulsesOf s).commit (n + 1) (tickWork s (s.profile? r.profile) r) := by
        rw [hu, ← State.commit_withPulsesOf]
        split
        · exact State.setPulse_withPulsesOf _ s _ _
        · rfl
      rw [ht, ← huw]
      split <;> rfl
    have hcab : (t.tickString (n + 1)).cabinet? = u.cabinet? := by rw [ht]; split <;> rfl
    have hfalls := State.pulseFalls_succ hr
    generalize hv : tickWork s (s.profile? r.profile) r = v at *
    refine ⟨?_, fun c => ?_⟩
    · rw [hwork]
      refine (h.work.commit hr (if_neg (by omega)) v).congr fun k q hk => ?_
      by_cases e : k = n + 1
      · subst e
        rw [hr] at hk
        cases hk
        rw [if_pos rfl, if_pos le_rfl, hv]
      · simp only [if_neg e, hle k e]
    · obtain ⟨b, hb, hbits⟩ := h.pulses c
      have htc : (t.commit (n + 1) v).cabinet? c = t.cabinet? c := by rw [State.commit_eq]; rfl
      rw [hcab, hu, hp]
      by_cases hdue : pulseDue (s.profile? r.profile) v.r = true ∧ r.cabinet = some c
      · have hg : c = v.r.cabinet.getD 0 := by rw [hst.cabinet, startWork_r, hdue.2]; rfl
        rw [if_pos hdue.1, State.setPulse_cabinet?, htc, hb, Option.map_map]
        refine ⟨fun d => b d ||| pulseBit r.position, ?_, fun d i hi => ?_⟩
        · refine Option.map_congr fun x _ => ?_
          rw [Function.comp_apply, if_pos hg, hst.position]
          rfl
        · rw [hfalls, BitVec.getLsbD_or, Bool.or_eq_true, hbits d i hi, pulseBit, markOf_getLsbD _ hi, decide_eq_true_iff, or_assoc]
          refine or_congr_right (or_congr_right ?_)
          rw [and_iff_right hdue.1, and_iff_right hdue.2, eq_comm]
      · refine ⟨b, ?_, fun d i hi => (hbits d i hi).trans (or_congr_right ?_)⟩
        · rw [← hb, ← htc]
          split
          · rename_i hd
            obtain ⟨-, -, hin, -⟩ := (pulseDue_iff _ _).mp hd
            have hne : c ≠ v.r.cabinet.getD 0 := fun e => hdue ⟨hd, by
              rw [← startWork_r r, ← hst.cabinet, e]
              exact (Option.some_get hin).symm.trans (congrArg some (Option.get_eq_getD _))⟩
            rw [State.setPulse_cabinet?]
            cases (t.commit (n + 1) v).cabinet? c with
            | none => rfl
            | some x => exact congrArg some (if_neg hne)
          · rfl
        · rw [hfalls]
          exact ⟨.inl, fun h => h.resolve_right fun ⟨h1, h2, _⟩ => hdue ⟨h1, h2⟩⟩

theorem State.stringsTicked_zero (s : State) : s.StringsTicked s 0 := by
  refine ⟨(State.Worked.refl s).congr fun k r hk => ?_, fun c => ⟨id, ?_, fun d i _ => ⟨.inl, fun h => h.elim id ?_⟩⟩⟩
  · rw [if_neg]
    have := (tget_some _ _ _ hk).1
    omega
  · cases s.cabinet? c <;> rfl
  · rintro ⟨k, r, p, hk, hr, -⟩
    have := (tget_some _ _ _ hr).1
    omega

theorem State.tickStrings_ticked (s : State) :
    s.StringsTicked ((numbers Config.stringCount).foldl State.tickString s) Config.stringCount :=
  foldl_numbers (P := fun n t => s.StringsTicked t n) _ s.stringsTicked_zero fun _ _ _ h => h.next

end Sys2Proof.Machine

namespace Sys2Proof.Machine

/-! ## What the figures of a group read (R97) -/

/-- The entry without what no figure reads. -/
def Cabinet.plain (x : Cabinet) : Cabinet :=
  { x with
    age := 0, unauthorised := false, expected := false, ack := false, notice := none, pulse := 0, errors := 0, failures := 0 }

/-- The record without the counts of the minute tick. -/
def StringRecord.plain (r : StringRecord) : StringRecord :=
  { r with m := 0, s := 0, sinceR := 0, event := r.event.map (fun e => { e with minutes := 0 }) }

/-- The permit without what no figure reads: its cabinet alone matters (R95). -/
def Permit.plain (p : Permit) : Permit :=
  { cabinet := p.cabinet, visit := none, state := .granted, remaining := 0, timeout := none, recallAsked := false
    spare := 0, autonomy := 0 }

/-- The state with plain entries in the tables that the figures read. -/
def State.plain (s : State) : State :=
  { s with
    cabinets := s.cabinets.map (Option.map Cabinet.plain)
    strings := s.strings.map (Option.map StringRecord.plain)
    permits := s.permits.map (Option.map Permit.plain) }

theorem entriesFrom_map {α β : Type} (f : α → β) (t : List (Option α)) (k : Nat) :
    entriesFrom k (t.map (Option.map f)) = (entriesFrom k t).map (fun e => (e.1, f e.2)) := by
  induction t generalizing k with
  | nil => rfl
  | cons a t ih =>
    cases a with
    | none => exact ih (k + 1)
    | some a => exact congrArg (List.cons (k, f a)) (ih (k + 1))

theorem entries_map {α β : Type} (f : α → β) (t : List (Option α)) :
    entries (t.map (Option.map f)) = (entries t).map (fun e => (e.1, f e.2)) := entriesFrom_map f t 1

theorem State.plain_members (s : State) (g : Nat) : s.plain.members g = (s.members g).map (fun e => (e.1, e.2.plain)) := by
  unfold State.members State.plain
  dsimp only
  rw [entries_map, List.filter_map]
  rfl

theorem State.plain_counted (s : State) (out : Option Nat) (c : Nat) (x : Cabinet) :
    s.plain.counted out c x.plain = s.counted out c x := by
  have hw : s.plain.withheld c = s.withheld c := by
    unfold State.withheld State.plain
    dsimp only
    rw [entries_map, List.any_map]
    rfl
  unfold State.counted
  rw [hw]
  rfl

theorem State.plain_groupLoad (s : State) (g : Nat) : s.plain.groupLoad g = s.groupLoad g := by
  unfold State.groupLoad
  rw [State.plain_members, List.map_map]
  rfl

theorem State.plain_countedRated (s : State) (out : Option Nat) (g : Nat) : s.plain.countedRated out g = s.countedRated out g := by
  unfold State.countedRated
  rw [State.plain_members, List.filter_map, List.map_map]
  exact congrArg (List.map fun e : Nat × Cabinet => e.2.rated) (List.filter_congr fun e _ => s.plain_counted out e.1 e.2)

theorem State.plain_energyTerm (s : State) (out : Option Nat) (g : Nat) (r : StringRecord) :
    s.plain.energyTerm out g r.plain = s.energyTerm out g r := by
  have hx : ∀ c, s.plain.cabinet? c = (s.cabinet? c).map Cabinet.plain := fun c => tget_map _ _ _
  have he : recordEnergy (s.profile? r.profile) r.plain = recordEnergy (s.profile? r.profile) r := by
    unfold recordEnergy StringRecord.plain
    cases r.event <;> rfl
  unfold State.energyTerm
  rw [show r.plain.cabinet = r.cabinet from rfl]
  cases r.cabinet with
  | none => rfl
  | some c =>
    dsimp only
    rw [hx]
    cases s.cabinet? c with
    | none => rfl
    | some x =>
      dsimp only [Option.map_some]
      rw [State.plain_counted, show s.plain.profile? r.plain.profile = s.profile? r.profile from rfl, he]
      rfl

theorem State.plain_figures (s : State) (out : Option Nat) (g : Nat) : s.plain.figures out g = s.figures out g := by
  have hu : s.plain.usableEnergy out g = s.usableEnergy out g := by
    unfold State.usableEnergy
    rw [show entries s.plain.strings = _ from entries_map StringRecord.plain s.strings, List.map_map]
    exact congrArg List.sum (List.map_congr_left fun e _ => s.plain_energyTerm out g e.2)
  have hm : (s.plain.members g).isEmpty = (s.members g).isEmpty := by rw [State.plain_members, List.isEmpty_map]
  unfold State.figures
  rw [State.plain_groupLoad, State.plain_countedRated, hu, hm]
  rfl

/-! ## Groups that stay current through a tick (R96) -/

/-- `t` holds the groups of `s` and all that their figures read. -/
structure State.Alike (s t : State) : Prop where
  groups : t.groups = s.groups
  config : t.floor.config = s.floor.config
  profiles : t.profiles = s.profiles
  cabinets : t.plain.cabinets = s.plain.cabinets
  strings : t.plain.strings = s.plain.strings
  permits : t.plain.permits = s.plain.permits

/-- The groups are formed from their inputs as they stand (R96). -/
def State.Formed (s : State) : Prop := s.groups = (numbers Config.groupCount).map (s.figures none)

theorem State.Alike.refl (s : State) : s.Alike s := ⟨rfl, rfl, rfl, rfl, rfl, rfl⟩

theorem State.Alike.trans {s t u : State} (h : s.Alike t) (g : t.Alike u) : s.Alike u :=
  ⟨g.groups.trans h.groups, g.config.trans h.config, g.profiles.trans h.profiles, g.cabinets.trans h.cabinets,
    g.strings.trans h.strings, g.permits.trans h.permits⟩

theorem State.Alike.formed {s t : State} (h : s.Alike t) (hs : s.Formed) : t.Formed := by
  have hf : t.figures none = s.figures none := funext fun g => by
    rw [← t.plain_figures, ← s.plain_figures]
    exact State.figures_congr _ _ _ _ h.config h.cabinets h.strings h.profiles h.permits
  unfold State.Formed
  rw [h.groups, hf]
  exact hs

theorem State.recompute_formed (s : State) : s.recompute.Formed := State.recompute_current s

/-- Entries that look the same may replace one another. -/
theorem map_tset_same {α β : Type} {v : α → β} {t : List (Option α)} {k : Nat} {x y : α} (h : tget t k = some x) (hv : v y = v x) :
    (tset t k (some y)).map (Option.map v) = t.map (Option.map v) := by
  cases k with
  | zero => rfl
  | succ k =>
    obtain ⟨-, hk⟩ := tget_some _ _ _ h
    have hx : t[k]? = some (some x) := Option.join_eq_some_iff.mp h
    unfold tset
    rw [List.map_set]
    refine List.ext_getElem? fun i => ?_
    rw [List.getElem?_set]
    split
    · rename_i hi
      subst hi
      rw [if_pos (by rw [List.length_map]; exact hk), List.getElem?_map, hx, Option.map_some, Option.map_some, Option.map_some, hv]
    · rfl

theorem State.alike_setCabinet {s : State} {c : Nat} {x y : Cabinet} (h : s.cabinet? c = some x) (hv : y.plain = x.plain) :
    s.Alike (s.setCabinet c (some y)) := ⟨rfl, rfl, rfl, map_tset_same h hv, rfl, rfl⟩

theorem State.alike_setPermit {s : State} {k : Nat} {p q : Permit} (h : s.permit? k = some p) (hv : q.plain = p.plain) :
    s.Alike (s.setPermit k (some q)) := ⟨rfl, rfl, rfl, rfl, rfl, map_tset_same h hv⟩

theorem State.alike_commit {s : State} {k : Nat} {r : StringRecord} {w : Work} (h : s.string? k = some r)
    (hv : w.r.plain = r.plain) : s.Alike (s.commit k w) := by
  rw [State.commit_eq]
  exact ⟨rfl, rfl, rfl, rfl, map_tset_same h hv, rfl⟩

theorem State.alike_tickCabinets (s : State) : s.Alike s.tickCabinets := by
  refine ⟨rfl, rfl, rfl, ?_, rfl, rfl⟩
  refine (List.map_map ..).trans (List.map_congr_left fun x _ => ?_)
  cases x <;> rfl

theorem State.alike_pulseIfDue (s : State) (k : Nat) : s.Alike (s.pulseIfDue k) := by
  unfold State.pulseIfDue
  split
  · exact .refl s
  · split
    · unfold State.setPulse
      split
      · exact .refl s
      · rename_i x hx
        exact State.alike_setCabinet hx rfl
    · exact .refl s

theorem State.tickString_formed {t : State} (h : t.Formed) (k : Nat) : (t.tickString k).Formed := by
  cases hr : t.string? k with
  | none => rw [State.tickString_free hr]; exact h
  | some r =>
    rw [State.tickString_record hr]
    cases hs : (tickWork t (t.profile? r.profile) r).save with
    | true => exact State.recompute_formed _
    | false =>
      obtain ⟨m, z, hw⟩ := tickWork_unsaved hs
      have hp : (tickWork t (t.profile? r.profile) r).r.plain = r.plain := by
        rw [hw]
        unfold StringRecord.plain StringRecord.ticked
        cases r.event <;> rfl
      exact ((State.alike_commit hr hp).trans (State.alike_pulseIfDue _ k)).formed h

theorem State.tickPermit_formed {t : State} (h : t.Formed) (k : Nat) : (t.tickPermit k).Formed := by
  unfold State.tickPermit
  split
  · exact h
  · rename_i p hp
    have hcount : ∀ q : Permit, q.cabinet = p.cabinet → t.Alike (t.setPermit k (some q)) := fun q hq =>
      State.alike_setPermit hp (by unfold Permit.plain; rw [hq])
    split
    · split
      · exact State.recompute_formed _
      · refine (hcount _ ?_).formed h
        rfl
    · split
      · have hover : t.Alike (t.makeOverdue k p) := by
          obtain ⟨h1, h2, h3, h4, h5, h6⟩ := hcount { p with state := .overdue, remaining := 0 } rfl
          exact ⟨h1, h2, h3, h4, h5, h6⟩
        exact hover.formed h
      · refine (hcount _ ?_).formed h
        rfl
    · exact h
    · refine (hcount _ ?_).formed h
      rfl

theorem State.tickVisit_formed {t : State} (h : t.Formed) (v : Nat) : (t.tickVisit v).Formed := by
  have ha : t.Alike (t.tickVisit v) := by
    unfold State.tickVisit
    split
    · exact .refl t
    · split
      · exact .refl t
      · split <;> exact ⟨rfl, rfl, rfl, rfl, rfl, rfl⟩
  exact ha.formed h

theorem State.tick_formed {s : State} (h : s.Formed) : s.tick.Formed := by
  have hpass : ∀ {f : State → Nat → State}, (∀ t k, State.Formed t → (f t k).Formed) → ∀ (l : List Nat) (t : State),
      t.Formed → (l.foldl f t).Formed := fun hf l => by
    induction l with
    | nil => exact fun _ ht => ht
    | cons a l ih => exact fun t ht => ih _ (hf t a ht)
  exact hpass (fun _ k ht => State.tickVisit_formed ht k) _ _ (hpass (fun _ k ht => State.tickPermit_formed ht k) _ _
    (hpass (fun _ k ht => State.tickString_formed ht k) _ _ (s.alike_tickCabinets.formed h)))

/-! ## The pass over the visits (R155) -/

/-- The visits in the slots `1..n` of `s` have counted the tick. -/
structure State.VisitsTicked (s t : State) (n : Nat) : Prop where
  visits : ∀ v, t.visit? v = (s.visit? v).map (fun x =>
    if v ≤ n then { x with remaining := x.remaining - 1, overtime := x.overtime || x.remaining == 1 } else x)
  overtime : ∀ i, i < 4 → t.attention.visitOvertime.getLsbD i = (s.attention.visitOvertime.getLsbD i ||
    (decide (i < n) && (s.visit? (i + 1)).any (fun x => x.remaining == 1)))
  queue : ∀ id, id ∈ t.store.queue ↔ id ∈ s.store.queue ∨
    ∃ v x, v ≤ n ∧ s.visit? v = some x ∧ id = visitImage v ∧ x.remaining = 1
  rest : { t with
    visits := s.visits, attention := { t.attention with visitOvertime := s.attention.visitOvertime }
    store := { t.store with queue := s.store.queue } } = s

theorem State.visitsTicked_zero (s : State) : s.VisitsTicked s 0 := by
  have hno : ∀ v x, s.visit? v = some x → ¬v ≤ 0 := fun v x h => by have := (tget_some _ _ _ h).1; omega
  refine ⟨fun v => ?_, fun i _ => by simp, fun id => ⟨.inl, fun h => h.elim (fun e => e) ?_⟩, rfl⟩
  · cases h : s.visit? v with
    | none => rfl
    | some x => exact congrArg some (if_neg (hno v x h)).symm
  · rintro ⟨v, x, hv, hx, -⟩
    exact absurd hv (hno v x hx)

/-- The visit once its minute is counted (R155). -/
def Visit.ticked (x : Visit) : Visit := { x with remaining := x.remaining - 1, overtime := x.overtime || x.remaining == 1 }

theorem State.tickVisit_eq {t : State} {v : Nat} {x : Visit} (h : t.visit? v = some x) : t.tickVisit v = { t with
    visits := tset t.visits v (some x.ticked)
    attention := { t.attention with visitOvertime :=
      if x.remaining = 1 then t.attention.visitOvertime ||| markOf 4 v else t.attention.visitOvertime }
    store := { t.store with queue := if x.remaining = 1 then enqueue (visitImage v) t.store.queue else t.store.queue } } := by
  unfold State.tickVisit
  rw [h]
  dsimp only
  by_cases h0 : x.remaining = 0
  · have hx : x.ticked = x := by
      obtain ⟨⟩ := x
      dsimp only at h0
      subst h0
      exact congrArg (fun b => Visit.mk _ _ _ b _) (Bool.or_false _)
    have h1 : ¬x.remaining = 1 := by omega
    rw [if_pos h0, if_neg h1, if_neg h1, hx, tset_tget _ _ _ h]
  · rw [if_neg h0]
    by_cases h1 : x.remaining = 1
    · have hx : x.ticked = { x with remaining := 0, overtime := true } := by
        unfold Visit.ticked
        rw [h1]
        exact congrArg (fun b => Visit.mk _ _ _ b _) (Bool.or_true _)
      rw [if_pos h1, if_pos h1, if_pos h1, hx]
      rfl
    · have hx : x.ticked = { x with remaining := x.remaining - 1 } := by
        unfold Visit.ticked
        rw [beq_false_of_ne h1, Bool.or_false]
      rw [if_neg h1, if_neg h1, if_neg h1, hx]
      rfl

theorem State.VisitsTicked.next {s t : State} {n : Nat} (h : s.VisitsTicked t n) :
    s.VisitsTicked (t.tickVisit (n + 1)) (n + 1) := by
  have hn : t.visit? (n + 1) = s.visit? (n + 1) := by
    rw [h.visits]
    cases s.visit? (n + 1) with
    | none => rfl
    | some x => exact congrArg some (if_neg (by omega))
  have hle : ∀ v, v ≠ n + 1 → ((v ≤ n + 1) = (v ≤ n)) := fun v hv => by simp only [eq_iff_iff]; omega
  have hlt : ∀ i, i ≠ n → ((i < n + 1) = (i < n)) := fun i hi => by simp only [eq_iff_iff]; omega
  cases hx : s.visit? (n + 1) with
  | none =>
    have hfree : t.tickVisit (n + 1) = t := by simp only [State.tickVisit, hn, hx]
    have hne : ∀ v x, s.visit? v = some x → v ≠ n + 1 := fun v x hv e => by rw [e, hx] at hv; cases hv
    rw [hfree]
    refine ⟨fun v => ?_, fun i hi => ?_, fun id => ?_, h.rest⟩
    · rw [h.visits]
      exact Option.map_congr fun x hv => by simp only [hle v (hne v x hv)]
    · rw [h.overtime i hi]
      by_cases hin : i = n
      · subst hin; simp [hx]
      · simp only [hlt i hin]
    · rw [h.queue]
      refine or_congr_right (exists_congr fun v => exists_congr fun x =>
        ⟨fun ⟨h1, h2⟩ => ⟨by omega, h2⟩, fun ⟨h1, h2, h3⟩ => ⟨?_, h2, h3⟩⟩)
      have := hne v x h2
      omega
  | some x =>
    rw [State.tickVisit_eq (hn.trans hx)]
    refine ⟨fun v => ?_, fun i hi => ?_, fun id => ?_, h.rest⟩
    · refine (tget_tset_of_some _ _ _ _ _ (hn.trans hx)).trans ?_
      by_cases hv : v = n + 1
      · subst hv; rw [if_pos rfl, hx, Option.map_some, if_pos le_rfl]; rfl
      · rw [if_neg hv]; simp only [hle v hv]; exact h.visits v
    · have hbit : (if x.remaining = 1 then t.attention.visitOvertime ||| markOf 4 (n + 1)
            else t.attention.visitOvertime).getLsbD i =
          (t.attention.visitOvertime.getLsbD i || (x.remaining == 1 && decide (i = n))) := by
        by_cases h1 : x.remaining = 1 <;> simp [h1, markOf_getLsbD _ hi]
      refine hbit.trans ?_
      rw [h.overtime i hi]
      by_cases hin : i = n
      · subst hin; simp [hx]
      · simp [hin, hlt i hin]
    · have hq : id ∈ (if x.remaining = 1 then enqueue (visitImage (n + 1)) t.store.queue else t.store.queue) ↔
          id ∈ t.store.queue ∨ (x.remaining = 1 ∧ id = visitImage (n + 1)) := by
        by_cases h1 : x.remaining = 1 <;> simp [h1]
      refine hq.trans ?_
      rw [h.queue, or_assoc]
      refine or_congr_right ⟨?_, fun ⟨v, y, hv, hy, e, h1⟩ => ?_⟩
      · rintro (⟨v, y, hv, rest⟩ | ⟨h1, e⟩)
        · exact ⟨v, y, by omega, rest⟩
        · exact ⟨n + 1, x, le_rfl, hx, e, h1⟩
      · by_cases hvn : v = n + 1
        · subst hvn; rw [hx] at hy; cases hy; exact .inr ⟨h1, e⟩
        · exact .inl ⟨v, y, by omega, hy, e, h1⟩

theorem State.tickVisits_ticked (s : State) :
    s.VisitsTicked ((numbers Config.visitCount).foldl State.tickVisit s) Config.visitCount :=
  foldl_numbers (P := fun n t => s.VisitsTicked t n) _ s.visitsTicked_zero fun _ _ _ h => h.next

end Sys2Proof.Machine

namespace Sys2Proof.Machine

/-! ## The whole tick (R3) -/

/-- The state `t` with all of `s` that a minute tick can touch. -/
def State.withTickOf (t s : State) : State :=
  { t with
    cabinets := s.cabinets, strings := s.strings, permits := s.permits, visits := s.visits, groups := s.groups
    link := { t.link with nextSerial := s.link.nextSerial }
    attention := { t.attention with
      permitChanged := s.attention.permitChanged, permitOverdue := s.attention.permitOverdue
      visitOvertime := s.attention.visitOvertime, stringStateChanged := s.attention.stringStateChanged
      marginShort := s.attention.marginShort }
    store := { t.store with queue := s.store.queue } }

/-- What the minute tick leaves of `s`. -/
structure State.Ticked (s t : State) : Prop where
  strings : ∀ k, t.string? k = (s.string? k).map (fun r => (tickWork s (s.profile? r.profile) r).r)
  permits : ∀ k, t.permit? k = (s.permit? k).bind (fun p => (minuteWork p).left)
  visits : ∀ v, t.visit? v = (s.visit? v).map Visit.ticked
  cabinets : ∀ c, ∃ b : BitVec 4 → BitVec 4,
    (∀ d i, i < 4 → ((b d).getLsbD i = true ↔ d.getLsbD i = true ∨ s.PulseFalls Config.stringCount c i)) ∧
    ((t.cabinet? c = (s.cabinet? c).map (fun x => { x with age := min (x.age + 1) Config.ageLimit, pulse := b x.pulse }) ∧
        ∀ k p, s.permit? k = some p → p.cabinet = c → (minuteWork p).note = none) ∨
      ∃ k p m serial, s.permit? k = some p ∧ p.cabinet = c ∧ (minuteWork p).note = some m ∧ s.link.nextSerial ≤ serial ∧
        t.cabinet? c = (s.cabinet? c).map (fun x => { x with
          age := min (x.age + 1) Config.ageLimit, pulse := b x.pulse, notice := some { notice := m, serial := serial } }))
  stringStateChanged : ∀ i, i < 64 → t.attention.stringStateChanged.getLsbD i = (s.attention.stringStateChanged.getLsbD i ||
    (s.string? (i + 1)).any (fun r => (tickWork s (s.profile? r.profile) r).changed))
  permitChanged : ∀ i, i < 8 → t.attention.permitChanged.getLsbD i = (s.attention.permitChanged.getLsbD i ||
    (s.permit? (i + 1)).any (fun p => (minuteWork p).changed))
  permitOverdue : ∀ i, i < 8 → t.attention.permitOverdue.getLsbD i = (s.attention.permitOverdue.getLsbD i ||
    (s.permit? (i + 1)).any (fun p => (minuteWork p).overdue))
  visitOvertime : ∀ i, i < 4 → t.attention.visitOvertime.getLsbD i = (s.attention.visitOvertime.getLsbD i ||
    (s.visit? (i + 1)).any (fun x => x.remaining == 1))
  queue : ∀ id, id ∈ t.store.queue ↔ ((id ∈ s.store.queue ∨
    ∃ k r, s.string? k = some r ∧ (tickWork s (s.profile? r.profile) r).save = true ∧ id = stringImage k) ∨
    ∃ k p, s.permit? k = some p ∧ (minuteWork p).save = true ∧ id = permitImage k) ∨
    ∃ v x, s.visit? v = some x ∧ id = visitImage v ∧ x.remaining = 1
  rest : t.withTickOf s = s

/-- The three passes one after the other. -/
theorem State.ticked_of_passes {s u v t : State} (hz : s.Sized) (h1 : s.tickCabinets.StringsTicked u Config.stringCount)
    (h2 : u.PermitsPassed v Config.permitCount minuteWork) (h3 : v.VisitsTicked t Config.visitCount) : s.Ticked t := by
  have hstring : ∀ k r, s.string? k = some r → k ≤ Config.stringCount := fun k r h => by
    have := tget_some _ _ _ h; rw [hz.strings] at this; exact this.2
  have hpermit : ∀ k p, s.permit? k = some p → k ≤ Config.permitCount := fun k p h => by
    have := tget_some _ _ _ h; rw [hz.permits] at this; exact this.2
  have hvisit : ∀ k x, s.visit? k = some x → k ≤ Config.visitCount := fun k x h => by
    have := tget_some _ _ _ h; rw [hz.visits] at this; exact this.2
  have hwork : tickWork s.tickCabinets = tickWork s := tickWork_congr (fun c => by
    refine (congrArg (Option.map _) (tget_map _ s.cabinets c)).trans ?_
    rw [Option.map_map]
    rfl) rfl
  have hage : ∀ c, s.tickCabinets.cabinet? c = (s.cabinet? c).map (fun x => { x with age := min (x.age + 1) Config.ageLimit }) :=
    fun c => tget_map _ s.cabinets c
  have hw := h1.work.congr (out' := fun _ r => tickWork s (s.profile? r.profile) r) fun k r hk => by
    rw [if_pos (hstring k r hk), hwork]; rfl
  have hup : u.permit? = s.permit? := by unfold State.permit?; rw [show u.permits = s.permits from hw.permits]
  have hvv : v.visit? = s.visit? := by
    unfold State.visit?; rw [h2.visits, show u.visits = s.visits from hw.visits]
  have htv : t.visit? = fun k => (s.visit? k).map Visit.ticked := funext fun k => by
    rw [h3.visits, hvv]
    exact Option.map_congr fun x hx => if_pos (hvisit k x hx)
  have htp : ∀ k, t.permit? k = (s.permit? k).bind (fun p => (minuteWork p).left) := fun k => by
    rw [State.permit?, show t.permits = v.permits from (congrArg State.permits h3.rest :)]
    refine (h2.permits k).trans ?_
    rw [hup]
    split
    · rfl
    · rename_i hk
      cases hp : s.permit? k with
      | none => rfl
      | some p => exact absurd (hpermit k p hp) hk
  have hts : t.strings = u.strings := (congrArg State.strings h3.rest :).trans h2.strings
  have hta : t.attention.stringStateChanged = u.attention.stringStateChanged :=
    (congrArg (fun x => x.attention.stringStateChanged) h3.rest :).trans (congrArg Attention.stringStateChanged h2.attention :)
  have hsmall : ∀ i, i < 8 → decide (i < Config.permitCount) = true := fun i hi => decide_eq_true hi
  refine ⟨fun k => ?_, htp, fun k => congrFun htv k, fun c => ?_, fun i hi => ?_, fun i hi => ?_, fun i hi => ?_, fun i hi => ?_,
    fun id => ?_, ?_⟩
  · rw [State.string?, hts]
    exact hw.strings k
  · obtain ⟨b, hb, hbits⟩ := h1.pulses c
    have hfalls : ∀ i, s.tickCabinets.PulseFalls Config.stringCount c i = s.PulseFalls Config.stringCount c i := fun _ => rfl
    refine ⟨b, fun d i hi => hbits d i hi, ?_⟩
    have htc : t.cabinet? c = v.cabinet? c := by
      unfold State.cabinet?
      rw [show t.cabinets = v.cabinets from (congrArg State.cabinets h3.rest :)]
    have hu : u.cabinet? c = (s.cabinet? c).map (fun x =>
        { x with age := min (x.age + 1) Config.ageLimit, pulse := b x.pulse }) := by
      rw [hb, hage, Option.map_map]
      rfl
    rw [htc]
    rcases h2.notices c with ⟨hc, hno⟩ | ⟨k, p, m, serial, hk, hp, hpc, hm, hs, hc⟩
    · rw [hup] at hno
      exact .inl ⟨hc.trans hu, fun k p hp => hno k p (hpermit k p hp) hp⟩
    · rw [hup] at hp
      have hus : u.link.nextSerial = s.link.nextSerial := congrArg Link.nextSerial (hw.link : u.link = s.link)
      refine .inr ⟨k, p, m, serial, hp, hpc, hm, hus ▸ hs, ?_⟩
      rw [hc, hu, Option.map_map]
      rfl
  · rw [hta]
    exact hw.changed i hi
  · rw [show t.attention.permitChanged = v.attention.permitChanged from (congrArg (fun x => x.attention.permitChanged) h3.rest :),
      h2.changed i hi, hup, hsmall i hi, Bool.true_and]
    rw [show u.attention.permitChanged = s.attention.permitChanged from (congrArg Attention.permitChanged hw.attention :)]
  · rw [show t.attention.permitOverdue = v.attention.permitOverdue from (congrArg (fun x => x.attention.permitOverdue) h3.rest :),
      h2.overdue i hi, hup, hsmall i hi, Bool.true_and]
    rw [show u.attention.permitOverdue = s.attention.permitOverdue from (congrArg Attention.permitOverdue hw.attention :)]
  · have hva : v.attention.visitOvertime = s.attention.visitOvertime :=
      (congrArg Attention.visitOvertime h2.attention :).trans (congrArg Attention.visitOvertime hw.attention :)
    rw [h3.overtime i hi, hvv, hva, show decide (i < Config.visitCount) = true from decide_eq_true hi, Bool.true_and]
  · have huq : id ∈ u.store.queue ↔ _ := hw.queue id
    rw [h3.queue, hvv, h2.queue, hup, huq]
    refine or_congr (or_congr_right ?_) ?_
    · exact exists_congr fun k => exists_congr fun p => ⟨fun ⟨_, h⟩ => h, fun h => ⟨hpermit k p h.1, h⟩⟩
    · exact exists_congr fun k => exists_congr fun x => ⟨fun ⟨_, h⟩ => h, fun h => ⟨hvisit k x h.1, h⟩⟩
  · calc t.withTickOf s = _ := (congrArg (fun x => State.withTickOf x s) h3.rest :)
      _ = _ := (congrArg (fun x => State.withTickOf x s) h2.rest :)
      _ = _ := (congrArg (fun x => State.withTickOf x s) hw.frame :)
      _ = s := rfl

end Sys2Proof.Machine

namespace Sys2Proof.Machine

theorem State.tick_ticked {s : State} (hz : s.Sized) : s.Ticked s.tick :=
  State.ticked_of_passes hz (State.tickStrings_ticked _) (State.tickPermits_passed _) (State.tickVisits_ticked _)

/-! ### The work on one permit, read off -/

/-- What a tick of a permit raises, posts and checkpoints (R122, R123). -/
theorem minuteWork_tells (p : Permit) :
    (minuteWork p).changed = (p.state == .granted && decide (p.timeout.getD 0 ≤ 1)) ∧
    (minuteWork p).overdue = (p.state == .active && decide (p.remaining ≤ 1)) ∧
    (minuteWork p).note = (if p.state = .granted ∧ p.timeout.getD 0 ≤ 1 then some .withdraw else none) ∧
    ((minuteWork p).save = true ↔ (p.state = .granted ∧ p.timeout.getD 0 ≤ 1) ∨ (p.state = .active ∧ p.remaining ≤ 1)) := by
  unfold minuteWork
  cases p.state with
  | granted => by_cases h : p.timeout.getD 0 ≤ 1 <;> simp [h, PermitWork.quiet, PermitWork.close]
  | active => by_cases h : p.remaining ≤ 1 <;> simp [h, PermitWork.quiet]
  | overdue => simp [PermitWork.quiet]
  | returning => simp [PermitWork.quiet]

theorem minuteWork_left (p : Permit) : (minuteWork p).left = (match p.state with
    | .granted =>
      if p.timeout.getD 0 ≤ 1 then none
      else some { p with remaining := p.remaining - 1, timeout := p.timeout.map (fun m => m - 1) }
    | .active =>
      if p.remaining ≤ 1 then some { p with state := .overdue, remaining := 0 } else some { p with remaining := p.remaining - 1 }
    | .overdue => some p
    | .returning => some { p with remaining := p.remaining - 1 }) := by
  unfold minuteWork
  cases hp : p.state with
  | granted => exact apply_ite PermitWork.left _ _ _
  | active => exact apply_ite PermitWork.left _ _ _
  | overdue => rfl
  | returning => rfl

end Sys2Proof.Machine

section
open Sys2Proof Sys2Proof.Machine

/-- Settles O51: the records, the permits and the visits take the tick one pass after the other, and no pass touches what a
later one reads; the groups stay current since every tick that changes their inputs forms them anew. -/
theorem minuteTickCountsEverything : Obligations.MinuteTickCountsEverything := by
  refine ⟨fun s hr hs => ?_, fun s hr => ?_, fun s hz ho => ?_⟩
  · have hn : ¬s.operating = true := by rw [State.operating_iff, hr, hs]; simp
    have he : exec .minuteTick s = execMinuteTick s := rfl
    rw [he, execMinuteTick, hr]
    exact congrArg Host.Outcome.next (if_neg hn)
  · have he : exec .minuteTick s = execMinuteTick s := rfl
    rw [he, execMinuteTick]
    cases hp : s.phase with
    | running => exact absurd hp hr
    | unpowered => rfl
    | inReset => rfl
  · obtain ⟨hrun, hport⟩ := (State.operating_iff s).mp ho
    have he : exec .minuteTick s = .next s.tick := by
      refine (congrArg Host.Outcome.next ?_ : execMinuteTick s = .next s.tick)
      rw [hrun]
      exact if_pos ho
    have ht := State.tick_ticked hz
    have hgroups : s.Formed → s.tick.Formed := State.tick_formed
    refine ⟨s.tick, he, ?_⟩
    generalize s.tick = t at *
    have hslot : ∀ k r, s.string? k = some r → k ≤ Config.stringCount := fun k r h => by
      have := tget_some _ _ _ h; rw [hz.strings] at this; exact this.2
    have hsave : ∀ k r, s.string? k = some r → s.countsMinute r = true → 59 ≤ r.m → stringImage k ∈ t.store.queue :=
      fun k r hk hc hm => (ht.queue _).mpr (.inl (.inl (.inr ⟨k, r, hk, (tickWork_save s r).mpr ⟨hc, hm⟩, rfl⟩)))
    refine ⟨(congrArg State.floor ht.rest :), (congrArg State.port ht.rest :), (congrArg State.ask ht.rest :),
      (congrArg State.profiles ht.rest :), (congrArg (fun u => u.store.images) ht.rest :),
      (congrArg (fun u => u.store.writer) ht.rest :), (congrArg State.link ht.rest :), fun c hc => ?_, fun c x hx => ?_,
      fun k hk => ?_, fun k r hk => ?_, fun k => ?_, fun v => ht.visits v, fun i hi => ?_, fun i hi => ?_, ht.visitOvertime,
      fun i hi => ?_, (congrArg State.attention ht.rest :), fun id => ?_, fun hs _ => hgroups (hs ho)⟩
    · obtain ⟨b, -, ⟨h, -⟩ | ⟨_, _, _, _, -, -, -, -, h⟩⟩ := ht.cabinets c
      · rw [h, hc]; rfl
      · rw [h, hc]; rfl
    · obtain ⟨b, hb, hcase⟩ := ht.cabinets c
      have hbits : ∀ i, i < 4 → ((b x.pulse).getLsbD i = true ↔ x.pulse.getLsbD i = true ∨
          ∃ k r p, s.string? k = some r ∧ r.cabinet = some c ∧ r.position = i + 1 ∧ r.state ≠ .retired ∧
            s.profile? r.profile = some p ∧ p.interval * 1440 ≤ min (r.sinceR + 1) 999999) := fun i hi => by
        refine (hb x.pulse i hi).trans (or_congr_right ?_)
        exact exists_congr fun k => exists_congr fun r => exists_congr fun p => ⟨fun ⟨_, h⟩ => h, fun h => ⟨hslot k r h.1, h⟩⟩
      rcases hcase with ⟨h, hno⟩ | ⟨k, p, m, serial, hp, hpc, hm, hs, h⟩
      · rw [hx] at h
        refine ⟨_, h, rfl, hbits, fun ⟨k, p, hp, hpc, hg, hl⟩ => ?_, fun _ => rfl⟩
        have hn := hno k p hp hpc
        rw [(minuteWork_tells p).2.2.1, if_pos ⟨hg, hl⟩] at hn
        cases hn
      · rw [hx] at h
        have hn := (minuteWork_tells p).2.2.1.symm.trans hm
        by_cases hg : p.state = .granted ∧ p.timeout.getD 0 ≤ 1
        · rw [if_pos hg] at hn
          cases hn
          refine ⟨_, h, rfl, hbits, fun _ => ⟨serial, hs, rfl⟩, fun hall => ?_⟩
          have := hall k p hp hpc hg.1
          omega
        · rw [if_neg hg] at hn
          cases hn
    · rw [ht.strings, hk]; rfl
    · refine ⟨_, by rw [ht.strings, hk]; rfl, (tickWork_counts s r).1, (tickWork_counts s r).2, fun hno => ?_,
        fun c x p temp hc hx hp hb h1 h2 htemp => ?_⟩
      · have hn : s.countsMinute r = false := by
          refine Bool.eq_false_iff.mpr fun h => ?_
          obtain ⟨c, x, p, hc, hx, hp, hb, h1, h2⟩ := (s.countsMinute_iff r).mp h
          rcases hno c x p hc hx hp with e | e | e
          · exact hb e
          · exact h1 e
          · exact h2 e
        rw [tickWork_uncounted hn]
        rfl
      · have hcounts : s.countsMinute r = true := (s.countsMinute_iff r).mpr ⟨c, x, p, hc, hx, hp, hb, h1, h2⟩
        have hz' : s.minuteTemperature p r = temp := by
          unfold State.minuteTemperature
          rw [hc, Option.bind_some, hx, htemp]
        rw [hp]
        refine ⟨fun hm => ?_, fun hm => ⟨?_, hsave k r hk hcounts hm, fun hne => ?_⟩⟩
        · rw [tickWork_minute hcounts hz' hm]
          rfl
        · rw [tickWork_window hcounts hz' hm]
          rfl
        · have hk64 : 1 ≤ k ∧ k ≤ 64 := ⟨(tget_some _ _ _ hk).1, hslot k r hk⟩
          have hs1 : s.string? (k - 1 + 1) = some r := by rw [Nat.sub_add_cancel hk64.1]; exact hk
          rw [and_markOf_iff _ hk64.1 hk64.2, ht.stringStateChanged _ (by omega), hs1, Option.any_some, tickWork_changed, hp,
            decide_eq_true hne, Bool.or_true]
    · rw [ht.permits]
      refine Option.bind_congr fun p _ => (minuteWork_left p).trans ?_
      cases p.state <;> rfl
    · rw [ht.permitChanged i hi]
      refine congrArg (_ || ·) (congrArg (Option.any · _) (funext fun p => (minuteWork_tells p).1))
    · rw [ht.permitOverdue i hi]
      refine congrArg (_ || ·) (congrArg (Option.any · _) (funext fun p => (minuteWork_tells p).2.1))
    · rw [ht.stringStateChanged i hi, ht.strings]
      cases hk : s.string? (i + 1) with
      | none => rfl
      | some r => simp only [Option.any_some, Option.map_some, tickWork_changed]
    · rw [ht.queue, or_assoc, or_assoc]
      refine or_congr_right ((or_comm.trans or_assoc).trans (or_congr ?_ (or_congr Iff.rfl ?_)))
      · exact exists_congr fun k => exists_congr fun p => and_congr_right fun _ => by
          rw [(minuteWork_tells p).2.2.2]
          exact and_comm
      · exact exists_congr fun k => exists_congr fun r => and_congr_right fun _ => by
          rw [tickWork_save]
          exact and_comm

end

namespace Sys2Proof.Machine

/-! ## STRING PULSE and the host's closing of permits -/

theorem State.setPulse_present {s : State} {c : Nat} {x : Cabinet} (h : s.cabinet? c = some x) (pos : Nat) :
    s.setPulse c pos = { s with cabinets := tset s.cabinets c (some { x with pulse := x.pulse ||| markOf 4 pos }) } := by
  unfold State.setPulse
  rw [h]
  rfl

/-- The reply of STRING PULSE shows the set with the new bit, and whether the cabinet is in Inverter with the utility Present. -/
theorem State.pulseBody_setPulse {s : State} {c : Nat} {x : Cabinet} (h : s.cabinet? c = some x) (pos : Nat) :
    (s.setPulse c pos).pulseBody c = be1 (x.pulse ||| markOf 4 pos).toNat ++
      be1 (if x.mode = .inverter ∧ s.floor.utility = .present then 1 else 0) := by
  have hy : (s.setPulse c pos).cabinet? c = some { x with pulse := x.pulse ||| markOf 4 pos } := by
    rw [State.setPulse_present h]
    exact tget_tset_some _ _ _ _ h
  have hf : (s.setPulse c pos).floor = s.floor := by rw [State.setPulse_present h]
  unfold State.pulseBody
  rw [hy, hf]
  by_cases hm : x.mode = .inverter <;> by_cases hu : s.floor.utility = .present <;> simp [Cabinet.pulsesCarried, beFlag, hm, hu]

theorem stringPulse_attached {b : List Byte} {s : State} {r : StringRecord} {c : Nat} (hr : s.string? (field b 0 1) = some r)
    (hc : r.cabinet = some c) : stringPulse b s = done ((s.setPulse c r.position).pulseBody c) (s.setPulse c r.position) := by
  unfold stringPulse
  rw [hr]
  dsimp only
  rw [hc]

/-- A recall of a permit whose cabinet is Present (R129, R133). -/
theorem State.recallPermit_present {s : State} {p : Permit} {x : Cabinet} (hx : s.cabinet? p.cabinet = some x) (k : Nat) :
    s.recallPermit k p = { s with
      cabinets := tset s.cabinets p.cabinet (some { x with notice := some { notice := .recall, serial := s.link.nextSerial } })
      link := { s.link with nextSerial := s.link.nextSerial + 1 }
      permits := tset s.permits k (some { p with recallAsked := true })
      store := { s.store with queue := enqueue (permitImage k) s.store.queue } } := by
  unfold State.recallPermit
  rw [State.post_present _ _ _ x hx]
  rfl

/-- A close of a Granted permit whose cabinet is Present (R126). -/
theorem State.closePermit_granted {s : State} {k : Nat} {p : Permit} {x : Cabinet} (hp : s.permit? k = some p)
    (hg : p.state = .granted) (hx : s.cabinet? p.cabinet = some x) : s.closePermit k = { s with
      cabinets := tset s.cabinets p.cabinet (some { x with notice := some { notice := .withdraw, serial := s.link.nextSerial } })
      link := { s.link with nextSerial := s.link.nextSerial + 1 }
      permits := tset s.permits k none
      store := { s.store with queue := enqueue (permitImage k) s.store.queue } } := by
  rw [State.closePermit_standing k s p hp, if_pos (.inl hg), State.post_present _ _ _ x hx]
  rfl

/-- PERMIT RECALL is DONE on an Active or Overdue permit, and WRONG STATE on another (R129). -/
theorem permitRecall_standing {b : List Byte} {s : State} {p : Permit} (hp : s.permit? (field b 0 1) = some p) :
    permitRecall b s =
      if p.state = .active ∨ p.state = .overdue then
        done (permitBody (field b 0 1) { p with recallAsked := true }) (s.recallPermit (field b 0 1) p)
      else refuse .wrongState s := by
  unfold permitRecall
  dsimp only
  rw [hp]

/-- PERMIT CANCEL is DONE on a Granted permit, and WRONG STATE on another (R128). -/
theorem permitCancel_standing {b : List Byte} {s : State} {p : Permit} (hp : s.permit? (field b 0 1) = some p) :
    permitCancel b s =
      if p.state = .granted then done [] (s.closePermit (field b 0 1)).recompute else refuse .wrongState s := by
  unfold permitCancel
  dsimp only
  rw [hp]

theorem exec_permitRecall_refused {f : RequestFrame} {s : State} {p : Permit} (ht : s.Takes 1 f)
    (hp : s.permit? (field f.body 0 1) = some p) (h : ¬(p.state = .active ∨ p.state = .overdue)) :
    exec (.permitRecall f) s = .next { s with port := s.repliedPort f 0x32 .wrongState [] } :=
  congrArg Host.Outcome.next (State.takeRequest_refused ht fun q =>
    (permitRecall_standing (s := s.withPort q) hp).trans (if_neg h))

theorem exec_permitCancel_refused {f : RequestFrame} {s : State} {p : Permit} (ht : s.Takes 1 f)
    (hp : s.permit? (field f.body 0 1) = some p) (h : p.state ≠ .granted) :
    exec (.permitCancel f) s = .next { s with port := s.repliedPort f 0x33 .wrongState [] } :=
  congrArg Host.Outcome.next (State.takeRequest_refused ht fun q =>
    (permitCancel_standing (s := s.withPort q) hp).trans (if_neg h))

end Sys2Proof.Machine

section
open Sys2Proof Sys2Proof.Machine

/-- Settles O28: the record is looked up first, and the pulse bit is the only thing its cabinet changes by. -/
theorem stringPulseSetsTheBit : Obligations.StringPulseSetsTheBit := by
  rintro f s k ht rfl
  refine ⟨fun hn => ?_, fun r hr hc => ?_, fun r c x hr hc hx => ?_⟩
  · refine congrArg Host.Outcome.next (State.takeRequest_refused ht fun p => ?_)
    unfold stringPulse
    rw [show (s.withPort p).string? (field f.body 0 1) = none from hn]
  · refine congrArg Host.Outcome.next (State.takeRequest_refused ht fun p => ?_)
    unfold stringPulse
    rw [show (s.withPort p).string? (field f.body 0 1) = some r from hr]
    dsimp only
    rw [hc]
  · have he : s.takeRequest 0x24 1 f stringPulse = { s.setPulse c r.position with
        port := s.repliedPort f 0x24 .done ((s.setPulse c r.position).pulseBody c) } :=
      State.takeRequest_now ht fun p => by
        rw [stringPulse_attached (s := s.withPort p) hr hc, blind_setPulse]
        rfl
    rw [State.pulseBody_setPulse hx, State.setPulse_present hx] at he
    exact congrArg Host.Outcome.next he

/-- Settles O32: each command acts in its own states and refuses in the others. -/
theorem permitRecallAndCancel : Obligations.PermitRecallAndCancel := by
  rintro f s k p x ht rfl hp hx
  refine ⟨fun hs => ⟨?_, ?_⟩, fun hg => ⟨?_, ?_⟩, fun hr => ⟨?_, ?_⟩⟩
  · have he : s.takeRequest 0x32 1 f permitRecall = { s.recallPermit (field f.body 0 1) p with
        port := s.repliedPort f 0x32 .done (permitBody (field f.body 0 1) { p with recallAsked := true }) } :=
      State.takeRequest_now ht fun q => by
        rw [permitRecall_standing (s := s.withPort q) hp, if_pos hs, blind_recallPermit]
        rfl
    rw [State.recallPermit_present hx] at he
    exact congrArg Host.Outcome.next he
  · exact exec_permitCancel_refused ht hp fun h => by simp [h] at hs
  · have he : s.takeRequest 0x33 1 f permitCancel = { (s.closePermit (field f.body 0 1)).recompute with
        port := s.repliedPort f 0x33 .done [] } :=
      State.takeRequest_now ht fun q => by
        rw [permitCancel_standing (s := s.withPort q) hp, if_pos hg, blind_closePermit, blind_recompute]
        rfl
    rw [State.closePermit_granted hp hg hx] at he
    exact congrArg Host.Outcome.next he
  · exact exec_permitRecall_refused ht hp (by simp [hg])
  · exact exec_permitRecall_refused ht hp (by simp [hr])
  · exact exec_permitCancel_refused ht hp (by simp [hr])

end

namespace Sys2Proof.Machine

/-! ## The forming of a poll (R26, R28) -/

/-- The cycle's list goes on while a cabinet is left in it, and else the next cycle's begins (R26). -/
theorem State.cycle_eq_cons {s : State} {n c : Nat} {rest : List Nat}
    (h : (s.link.remaining = c :: rest ∧ n = s.link.counter) ∨
      (s.link.remaining = [] ∧ n = (s.link.counter + 1) % 8 ∧ s.listFor n = c :: rest)) : s.cycle = (n, c :: rest) := by
  unfold State.cycle
  rcases h with ⟨hr, rfl⟩ | ⟨hr, rfl, hl⟩
  · rw [if_neg (by simp [hr]), hr]
  · rw [if_pos hr]
    exact congrArg _ hl

theorem State.formPoll_to {s : State} {n c : Nat} {rest : List Nat} {x : Cabinet} (hc : s.cycle = (n, c :: rest))
    (hx : s.cabinet? c = some x) : s.formPoll = { s with
      cabinets := tset s.cabinets c (some x.polled)
      link := { s.link with
        counter := n, remaining := rest, flight := some (flightOf c x)
        line := .poll (pollMessage c (x.control s.floor.utility)) } } := by
  unfold State.formPoll
  rw [hc]
  dsimp only
  rw [hx]
  rfl

/-- With no order waiting a poll slot forms its poll alone. -/
theorem exec_pollSlot_plain {s : State} (hd : s.pollDue = true) (hu : s.port.urgent = none) (first : Bool) :
    exec (.pollSlot first) s = .next s.formPoll := by
  have hp : s.formPoll.port = s.port := blind_formPoll.port s
  refine congrArg Host.Outcome.next ((if_pos hd).trans ?_)
  rw [State.takeUrgent_none hu, State.takeUrgent_none (hp ▸ hu), ite_self]

theorem Cabinet.syncs_eq (x : Cabinet) : x.syncs = decide (x.link = .unsynced ∨ x.link = .lost) := by
  unfold Cabinet.syncs
  cases x.link <;> rfl

theorem Cabinet.pollPulses_toNat (u : UtilityState) (x : Cabinet) :
    (x.pollPulses u).toNat = if x.mode = .inverter ∧ u = .present then x.pulse.toNat else 0 := by
  have hc : x.pulsesCarried u = true ↔ x.mode = .inverter ∧ u = .present := by simp [Cabinet.pulsesCarried]
  unfold Cabinet.pollPulses
  by_cases h : x.mode = .inverter ∧ u = .present
  · rw [if_pos (hc.mpr h), if_pos h]
  · rw [if_neg (hc.not.mpr h), if_neg h]
    rfl

/-! ## The bits of a poll on the line (R20, R21, R195) -/

theorem TxChar.levels_data (c : TxChar) {i : Nat} (h : i < 8) : c.levels[1 + i]? = some (c.data.getLsbD i) := by
  rw [TxChar.levels, Nat.add_comm, List.getElem?_cons_succ, List.getElem?_append_left (by simpa using h), List.getElem?_map,
    List.getElem?_range h]
  rfl

/-- Bit `i` of character `j` stands in bit time `11 j + i`. -/
theorem Line.poll_level {chars : List TxChar} {j i : Nat} {c : TxChar} (hc : chars[j]? = some c) (hi : i < 11) :
    (Line.poll chars).levels[11 * j + i]? = c.levels[i]? := by
  rw [← flatMap_piece (f := TxChar.levels) (n := 11) (fun _ => rfl) hc, List.getElem?_take_of_lt hi, List.getElem?_drop]
  rfl

section
variable {t : State} {chars : List TxChar} (hp : t.phase = .running) (hl : t.link.line = .poll chars)
include hp hl

theorem State.linkDir_poll (bit : Nat) : t.linkDir bit = decide (bit < 11 * chars.length) := by
  have hn : (Line.poll chars).levels.length = 11 * chars.length :=
    flatMap_length_of_pieces (f := TxChar.levels) (fun _ => rfl) chars
  rw [State.linkDir, hp, hl, hn]
  rfl

theorem State.linkTx_poll_over {bit : Nat} (h : 11 * chars.length ≤ bit) : t.linkTx bit = true := by
  rw [State.linkTx, State.linkDir_poll hp hl, decide_eq_false (by omega)]
  rfl

theorem State.linkTx_poll {j i : Nat} {c : TxChar} {b : Bool} (hc : chars[j]? = some c) (hi : i < 11)
    (hb : c.levels[i]? = some b) : t.linkTx (11 * j + i) = b := by
  have hj : j < chars.length := (List.getElem?_eq_some_iff.mp hc).1
  rw [State.linkTx, State.linkDir_poll hp hl, decide_eq_true (by omega), hl, Line.poll_level hc hi, hb]
  rfl

end

/-! ## Outcomes of a poll -/

theorem State.settleWait_none {s : State} (h : s.ask = none) (c : Nat) : s.settleWait c = s := by
  unfold State.settleWait
  rw [h]

theorem State.settleWait_some {s : State} {a : Ask} (h : s.ask = some a) (c : Nat) : s.settleWait c =
    ({ s with ask := some { a with waitSet := a.waitSet.filter (fun n => n != c) } } : State).judgeIfSettled := by
  unfold State.settleWait
  rw [h]

/-- A wait with a cabinet left in it goes on (R115). -/
theorem State.judgeIfSettled_waits {s : State} {a : Ask} (h : s.ask = some a) (hw : a.waitSet ≠ []) : s.judgeIfSettled = s := by
  unfold State.judgeIfSettled
  rw [h]
  exact if_neg hw

/-- The decision points at which a poll to `fl` fails (R29, R30). -/
theorem exec_pollFails {i : Instr} {s : State} {fl : Flight} {x : Cabinet}
    (hi : i = .noReply ∨ i = .noReplyInTime ∨
      ∃ chars, i = .replyEnd chars ∧ judgeReply fl.cabinet (chars.map receive) = .failed)
    (hf : s.link.flight = some fl) (hl : fl.live = true) (hx : s.cabinet? fl.cabinet = some x) :
    exec i s = .next (s.closeWindow.failPoll fl.cabinet x) := by
  have hfails : s.pollFails = s.closeWindow.failPoll fl.cabinet x := by
    unfold State.pollFails
    rw [hf]
    dsimp only
    rw [hx]
    exact if_pos hl
  rcases hi with rfl | rfl | ⟨chars, rfl, hj⟩
  · exact congrArg Host.Outcome.next hfails
  · exact congrArg Host.Outcome.next hfails
  · refine congrArg Host.Outcome.next ?_
    unfold State.takeReply
    rw [hf]
    dsimp only
    rw [hx]
    refine (if_pos hl).trans ?_
    rw [hj]

/-- A poll whose cabinet was dropped ends with its window (R27). -/
theorem exec_droppedPoll {i : Instr} {s : State} {fl : Flight}
    (hi : i = .noReply ∨ i = .noReplyInTime ∨ ∃ chars, i = .replyEnd chars) (hf : s.link.flight = some fl)
    (hd : fl.live = false ∨ s.cabinet? fl.cabinet = none) : exec i s = .next s.closeWindow := by
  have hfails : s.pollFails = s.closeWindow := by
    unfold State.pollFails
    rw [hf]
    dsimp only
    split
    · rfl
    · rename_i hx
      exact if_neg fun hl => by simp [hl, hx] at hd
  have hreply : ∀ cs, s.takeReply cs = s.closeWindow := fun cs => by
    unfold State.takeReply
    rw [hf]
    dsimp only
    split
    · rfl
    · rename_i hx
      exact if_neg fun hl => by simp [hl, hx] at hd
  rcases hi with rfl | rfl | ⟨chars, rfl⟩
  · exact congrArg Host.Outcome.next hfails
  · exact congrArg Host.Outcome.next hfails
  · exact congrArg Host.Outcome.next (hreply _)

theorem Link.countFailure_eq (l : Link) : l.countFailure = { l with
    failureRun := if 5 ≤ l.failureRun then 0 else l.failureRun + 1
    breakDue := l.breakDue || decide (5 ≤ l.failureRun) } := by
  unfold Link.countFailure
  by_cases h : 5 ≤ l.failureRun <;> simp [h]

/-- Only a Silent cabinet goes Lost, on its third failure in a row (R33). -/
theorem Cabinet.goesLost_iff (x : Cabinet) : x.goesLost = true ↔ x.link = .silent ∧ 2 ≤ x.failures := by
  unfold Cabinet.goesLost Cabinet.afterFailure linkAfterFailure
  cases x.link with
  | unsynced => simp
  | online => simp
  | silent => by_cases h : 3 ≤ x.failures + 1 <;> simp [h] <;> omega
  | lost => simp

theorem Cabinet.afterFailure_eq (x : Cabinet) : x.afterFailure = { x with
    errors := min (x.errors + 1) 255
    link := match x.link with
      | .unsynced => .unsynced
      | .online => .silent
      | .silent => if 3 ≤ x.failures + 1 then .lost else .silent
      | .lost => .lost
    failures := match x.link with
      | .unsynced => 0
      | .online => 1
      | .silent => if 3 ≤ x.failures + 1 then 3 else x.failures + 1
      | .lost => 3 } := by
  unfold Cabinet.afterFailure linkAfterFailure
  cases x.link with
  | unsynced => rfl
  | online => rfl
  | silent => by_cases h : 3 ≤ x.failures + 1 <;> simp [h] <;> rfl
  | lost => rfl

theorem Cabinet.afterBusy_eq (x : Cabinet) : x.afterBusy = { x with
    link := match x.link with
      | .unsynced => .unsynced
      | .online => .online
      | .silent => .online
      | .lost => .lost
    failures := if x.link = .lost then 3 else 0 } := by
  obtain ⟨group, rated, mode, load, age, unauthorised, link, expected, ack, notice, pulse, errors, failures⟩ := x
  cases link <;> rfl

end Sys2Proof.Machine

section
open Sys2Proof Sys2Proof.Machine

/-- Settles O42: the poll is formed to the head of the cycle's list, and its three characters are put on the line bit by bit. -/
theorem pollSlotFormsThePoll : Obligations.PollSlotFormsThePoll := by
  intro first s n c rest x ctl ho hf hb hu hlist hx hctl
  have hcycle := State.cycle_eq_cons hlist
  have hdue : s.pollDue = true := (State.pollDue_iff s).mpr ⟨ho, hf, hb, by simp [hcycle]⟩
  have hcontrol : x.control s.floor.utility = ctl := by
    rw [hctl, Cabinet.control, controlChar, Cabinet.pollPulses_toNat, Cabinet.syncs_eq]
    simp only [decide_eq_true_eq]
    rfl
  have hmessage : pollMessage c ctl = [{ mark := true, data := BitVec.ofNat 8 c }, { mark := false, data := ctl },
      { mark := false, data := ~~~(BitVec.ofNat 8 c + ctl) }] := by
    simp [pollMessage, checkValue]
  have hpolled : x.polled = if x.link = .unsynced ∨ x.link = .lost then { x with expected := false } else x := by
    rw [Cabinet.polled, Cabinet.syncs_eq]
    simp only [decide_eq_true_eq]
  have hform := State.formPoll_to hcycle hx
  rw [hcontrol, hmessage, hpolled, flightOf, Cabinet.syncs_eq] at hform
  have hp : s.formPoll.phase = .running := by
    rw [hform]
    exact ((State.operating_iff s).mp ho).1
  have hl := congrArg (fun u : State => u.link.line) hform
  refine ⟨s.formPoll, exec_pollSlot_plain hdue hu first, State.linkDir_poll hp hl, fun bit h => State.linkTx_poll_over hp hl h,
    ?_, fun i hi => ?_, ?_, ?_, fun i hi => ?_, ?_, hform⟩
  · exact State.linkTx_poll (j := 0) (i := 0) hp hl rfl (by decide) rfl
  · have := State.linkTx_poll (j := 0) (i := 1 + i) hp hl rfl (by omega) (TxChar.levels_data _ hi)
    rwa [Nat.mul_zero, Nat.zero_add] at this
  · exact State.linkTx_poll (j := 0) (i := 9) hp hl rfl (by decide) rfl
  · exact State.linkTx_poll (j := 0) (i := 10) hp hl rfl (by decide) rfl
  · have := State.linkTx_poll (j := 1) (i := 1 + i) hp hl rfl (by omega) (TxChar.levels_data _ hi)
    rwa [Nat.mul_one, ← Nat.add_assoc] at this
  · exact State.linkTx_poll (j := 1) (i := 9) hp hl rfl (by decide) rfl

/-- Settles O44: the three decision points fail the poll alike, and only the third failure of a Silent cabinet in a row does
more than count. -/
theorem failedPollCounts : Obligations.FailedPollCounts := by
  refine ⟨fun i s fl x y l hi hf hl hx hy hlink => ?_, fun i s fl hi hf hd => exec_droppedPoll hi hf hd⟩
  have hstart := exec_pollFails hi hf hl hx
  have hcounted : ({ s.closeWindow.setCabinet fl.cabinet (some x.afterFailure) with
      link := s.closeWindow.link.countFailure } : State) =
      { s with cabinets := tset s.cabinets fl.cabinet (some y), link := l } := by
    rw [hy, hlink, Cabinet.afterFailure_eq, Link.countFailure_eq]
    rfl
  unfold State.failPoll at hstart
  dsimp only at hstart
  rw [hcounted] at hstart
  refine ⟨fun hn => ?_, fun w h1 h2 hw => ?_⟩
  · rwa [if_neg ((Cabinet.goesLost_iff x).not.mpr hn)] at hstart
  · rw [if_pos ((Cabinet.goesLost_iff x).mpr ⟨h1, h2⟩)] at hstart
    have hlost : exec i s = .next (w.settleWait fl.cabinet) := by
      rw [hstart, hw]
      rfl
    have hask : w.ask = s.ask := by rw [hw]; rfl
    refine ⟨fun ha => ?_, fun a ha => ?_⟩
    · rw [hlost, State.settleWait_none (hask.trans ha)]
    · rw [hlost, State.settleWait_some (hask.trans ha)]
      rfl

/-- Settles O46: a BUSY reply settles the link fields of its cabinet and releases it from an older wait. -/
theorem busyReplyIsGoodContact : Obligations.BusyReplyIsGoodContact := by
  intro chars s w fl x y hf hl hx hj hy hw
  have hbusy : exec (.replyEnd chars) s = .next (w.releaseWait fl.cabinet fl) := by
    have ht : s.takeReply (chars.map receive) = s.closeWindow.takeBusy fl.cabinet x fl := by
      unfold State.takeReply
      rw [hf]
      dsimp only
      rw [hx]
      refine (if_pos hl).trans ?_
      rw [hj]
    refine congrArg Host.Outcome.next (ht.trans ?_)
    rw [State.takeBusy, Cabinet.afterBusy_eq, hw, hy]
    rfl
  have hask : w.ask = s.ask := by rw [hw]
  refine ⟨fun h => ?_, fun a b ha hafter hb => ?_⟩
  · rw [hbusy, State.releaseWait]
    rcases h with ha | hn
    · rw [State.settleWait_none (hask.trans ha), ite_self]
    · rw [hn, if_neg Bool.false_ne_true]
  · have hsettled : exec (.replyEnd chars) s = .next ({ w with ask := some b } : State).judgeIfSettled := by
      rw [hbusy, State.releaseWait, if_pos hafter, State.settleWait_some (hask.trans ha), hb]
    refine ⟨fun ⟨n, hn, hne⟩ => ?_, hsettled⟩
    have hleft : b.waitSet ≠ [] := by
      rw [hb]
      exact List.ne_nil_of_mem (List.mem_filter.mpr ⟨hn, by simpa using hne⟩)
    rw [hsettled, State.judgeIfSettled_waits rfl hleft]

end

namespace Sys2Proof.Machine

/-! ## What one block makes of a record (R62)

The intake runs stages in two places: after a resistance, and after a charge. Between them lies the charge itself, which reads the
record's life, bucket and event alone; `Charging` says what it makes of these. -/

/-- Stage 5 as an equation: a changed state is told and checkpointed (R56, R71, R88). -/
theorem stage5_eq (p : Profile) (w : Work) : stage5 p w =
    { r := w.r.weighed p, changed := w.changed || decide (w.r.state ≠ (w.r.weighed p).state)
      save := w.save || decide (w.r.state ≠ (w.r.weighed p).state) } :=
  Work.eq_of_fields (stage5_r p w) (rederive_changed _ _) (rederive_save _ _)

/-- The delta that reaches the record: a repeat's does not (R38, R65). -/
def Block.takenDelta (isNew : Bool) (b : Block) : Nat := if isNew = true then b.delta else 0

theorem Block.takenDelta_eq_zero (isNew : Bool) (b : Block) : b.takenDelta isNew = 0 ↔ isNew = false ∨ b.delta = 0 := by
  cases isNew <;> simp [Block.takenDelta]

/-- A quantity of charge with a delta added to it, saturating (R65). -/
def addCharge (charge delta : Nat) : Nat := if delta = 0 then charge else min (charge + delta) Config.chargeLimit

/-- What the charge of a block leaves of a record's life, bucket and event, and whether it runs a stage. -/
structure Charging where
  life : Nat
  bucket : Nat
  event : Option DischargeEvent
  runs : Bool

/-- The delta goes to the idle bucket, which charges itself at or above C (R65, R84). -/
def Charging.idle (p : Profile) (delta life bucket : Nat) : Charging :=
  if delta ≠ 0 ∧ p.capacity ≤ addCharge bucket delta then
    { life := addLife life (addCharge bucket delta / p.capacity * cycleShare p 100 p.w1)
      bucket := addCharge bucket delta % p.capacity, event := none, runs := true }
  else { life := life, bucket := addCharge bucket delta, event := none, runs := false }

/-- The delta goes to the open event, which is closed with its cycle step when the mode leaves Battery (R65, R68). -/
def Charging.discharge (p : Profile) (leaves : Bool) (delta life bucket : Nat) (e : DischargeEvent) : Charging :=
  let charge := addCharge e.charge delta
  let d := depthOf p charge
  if leaves = true then
    { life := addLife life (cycleShare p d (bandWeight p d)), bucket := bucket, event := none, runs := true }
  else { life := life, bucket := bucket, event := some { e with charge := charge }, runs := false }

/-- The charge of a block, by whether an event is open (R65). -/
def chargingOf (p : Profile) (leaves : Bool) (delta life bucket : Nat) : Option DischargeEvent → Charging
  | none => .idle p delta life bucket
  | some e => .discharge p leaves delta life bucket e

/-- The record takes the outcome of the charge, and a stage where it asks for one. -/
def Work.charge (p : Profile) (c : Charging) (w : Work) : Work :=
  let v : Work := { w with r := { w.r with life := c.life, bucket := c.bucket, event := c.event } }
  if c.runs = true then mustSave (stage5 p v) else v

/-- The mode leaves Battery (R68). -/
def Mode.leaves (old new : Mode) : Bool := decide (old = .battery ∧ new ≠ .battery)

theorem takeDelta_zero {isNew : Bool} {b : Block} (h : b.takenDelta isNew = 0) (p : Option Profile) (w : Work) :
    takeDelta p isNew b w = w := by
  refine if_neg fun ⟨hn, hd⟩ => ?_
  rcases (b.takenDelta_eq_zero isNew).mp h with e | e
  · rw [e] at hn; cases hn
  · exact hd e

theorem takeDelta_some {isNew : Bool} {b : Block} (h : b.takenDelta isNew ≠ 0) (q : Profile) (w : Work) :
    takeDelta (some q) isNew b w =
      match w.r.event with
      | some e => { w with r := { w.r with event := some { e with charge := min (e.charge + b.takenDelta isNew) 65535 } } }
      | none => idleBucketCharge q { w with r := { w.r with bucket := min (w.r.bucket + b.takenDelta isNew) 65535 } } := by
  have hn : isNew = true ∧ b.delta ≠ 0 := by
    have := (b.takenDelta_eq_zero isNew).not.mp h
    simpa using this
  have hd : b.takenDelta isNew = b.delta := if_pos hn.1
  rw [hd]
  refine (if_pos hn).trans ?_
  cases w.r.event <;> rfl

theorem closeEvent_some {w : Work} {e : DischargeEvent} (h : w.r.event = some e) (q : Profile) : closeEvent (some q) w =
    mustSave (stage5 q { w with r := { w.r with
      life := addLife w.r.life (cycleShare q (depthOf q e.charge) (bandWeight q (depthOf q e.charge))), event := none } }) := by
  unfold closeEvent
  rw [h]

theorem closeEvent_none {w : Work} (h : w.r.event = none) (p : Option Profile) : closeEvent p w = w := by
  unfold closeEvent
  rw [h]

theorem takeDelta_event {isNew : Bool} {b : Block} {w : Work} {e : DischargeEvent} (h : w.r.event = some e) (q : Profile) :
    takeDelta (some q) isNew b w =
      { w with r := { w.r with event := some { e with charge := addCharge e.charge (b.takenDelta isNew) } } } := by
  unfold addCharge
  by_cases hd : b.takenDelta isNew = 0
  · rw [takeDelta_zero hd, if_pos hd]
    refine Work.eq_of_fields ?_ rfl rfl
    exact (congrArg (fun ev => { w.r with event := ev }) h.symm).symm
  · rw [takeDelta_some hd, h, if_neg hd]
    rfl

theorem takeDelta_idle {isNew : Bool} {b : Block} {w : Work} (h : w.r.event = none) (q : Profile) :
    takeDelta (some q) isNew b w = w.charge q (.idle q (b.takenDelta isNew) w.r.life w.r.bucket) := by
  have hev : ∀ n, ({ w with r := { w.r with bucket := n, event := none } } : Work) = { w with r := { w.r with bucket := n } } :=
    fun n => congrArg (fun ev => ({ w with r := { w.r with bucket := n, event := ev } } : Work)) h.symm
  unfold Charging.idle addCharge
  by_cases hd : b.takenDelta isNew = 0
  · rw [takeDelta_zero hd, if_neg (fun hc => hc.1 hd), if_pos hd]
    exact (hev w.r.bucket).symm
  · rw [takeDelta_some hd, h, if_neg hd]
    unfold idleBucketCharge
    dsimp only
    by_cases hc : q.capacity ≤ min (w.r.bucket + b.takenDelta isNew) 65535
    · rw [if_pos hc, if_pos ⟨hd, hc⟩]
      refine congrArg (fun ev => mustSave (stage5 q { w with r := { w.r with
        life := _, bucket := _, event := ev } })) h
    · rw [if_neg hc, if_neg (fun hn => hc hn.2)]
      exact (hev _).symm

/-- Steps 4 and 5 of the intake are one charge. -/
theorem leaveBattery_takeDelta (p : Profile) (old new : Mode) (isNew : Bool) (b : Block) (w : Work) :
    leaveBattery (some p) old new (takeDelta (some p) isNew b w) =
      w.charge p (chargingOf p (old.leaves new) (b.takenDelta isNew) w.r.life w.r.bucket w.r.event) := by
  unfold leaveBattery
  cases h : w.r.event with
  | none =>
    rw [takeDelta_idle h]
    have hno : (w.charge p (.idle p (b.takenDelta isNew) w.r.life w.r.bucket)).r.event = none := by
      unfold Work.charge Charging.idle
      split <;> simp [StringRecord.weighed]
    rw [closeEvent_none hno, ite_self]
    rfl
  | some e =>
    rw [takeDelta_event h]
    unfold chargingOf Charging.discharge Mode.leaves
    by_cases hl : old = .battery ∧ new ≠ .battery
    · rw [if_pos hl, closeEvent_some rfl, decide_eq_true hl]
      rfl
    · rw [if_neg hl, decide_eq_false hl]
      rfl

/-- The event that is open once the readings are taken: a new one where the mode becomes Battery (R63, R66). -/
def StringRecord.eventRead (old new : Mode) (b : Block) (r : StringRecord) : Option DischargeEvent :=
  if new = .battery ∧ old ≠ .battery then some { minutes := 0, charge := 0, lowest := b.voltage }
  else r.event.map (fun e => { e with lowest := min e.lowest b.voltage })

/-- The record with the readings and the event of a block (R63, R66). -/
def StringRecord.readBy (old new : Mode) (b : Block) (r : StringRecord) : StringRecord :=
  { r with
    voltage := b.voltage, current := b.current, temperature := clampInt (-200) 700 b.temperature
    event := r.eventRead old new b }

/-- The record with the resistance of a block, and its indicator (R64, R85). -/
def StringRecord.measuredBy (p : Profile) (b : Block) (r : StringRecord) : StringRecord :=
  if b.resistance = 0 then r
  else { r with r := b.resistance, sinceR := 0, resistanceIndicator := resistanceIndicatorOf p r.rb b.resistance }

theorem takeReadings_openEvent (old new : Mode) (b : Block) (p : Profile) {r : StringRecord} (h : r.state ≠ .retired) :
    takeReadings b (openEvent (some p) old new b (startWork r)) =
      { r := r.readBy old new b, changed := false, save := decide (new = .battery ∧ old ≠ .battery) } := by
  unfold openEvent StringRecord.readBy StringRecord.eventRead
  by_cases ho : new = .battery ∧ old ≠ .battery
  · rw [if_pos ⟨ho.1, ho.2, rfl, h⟩, if_pos ho, decide_eq_true ho]
    simp [takeReadings, mustSave, startWork]
  · rw [if_neg fun hn => ho ⟨hn.1, hn.2.1⟩, if_neg ho, decide_eq_false ho]
    rfl

/-- Stage 5, where it is to run. -/
def stageIf (runs : Bool) (p : Profile) (w : Work) : Work := if runs = true then stage5 p w else w

theorem takeResistance_eq (p : Profile) (b : Block) (w : Work) : takeResistance (some p) b w =
    stageIf (decide (b.resistance ≠ 0)) p { w with r := w.r.measuredBy p b } := by
  unfold takeResistance stageIf StringRecord.measuredBy
  by_cases h : b.resistance = 0
  · rw [if_pos h, if_pos h, if_neg (by simp [h])]
  · rw [if_neg h, if_neg h, if_pos (by simp [h])]
    rfl

/-- A stage leaves of the record all but its SoH, its life indicator and its state (R87, R88). -/
theorem stageIf_r (runs : Bool) (p : Profile) (w : Work) : (stageIf runs p w).r = { w.r with
    lifeIndicator := (stageIf runs p w).r.lifeIndicator, soh := (stageIf runs p w).r.soh
    state := (stageIf runs p w).r.state } := by
  cases runs with
  | false => rfl
  | true =>
    unfold stageIf
    rw [if_pos rfl, stage5_r]
    rfl

/-- The charge of the block on the record `r`. -/
def StringRecord.chargedBy (old new : Mode) (isNew : Bool) (b : Block) (p : Profile) (r : StringRecord) : Charging :=
  chargingOf p (old.leaves new) (b.takenDelta isNew) r.life r.bucket (r.eventRead old new b)

/-- The record between the two places where a stage can run. -/
def measuredWork (old new : Mode) (b : Block) (p : Profile) (r : StringRecord) : Work :=
  stageIf (decide (b.resistance ≠ 0)) p
    { r := (r.readBy old new b).measuredBy p b, changed := false, save := decide (new = .battery ∧ old ≠ .battery) }

theorem StringRecord.measuredBy_kept (p : Profile) (b : Block) (r : StringRecord) : r.measuredBy p b = { r with
    r := (r.measuredBy p b).r, sinceR := (r.measuredBy p b).sinceR
    resistanceIndicator := (r.measuredBy p b).resistanceIndicator } := by
  unfold StringRecord.measuredBy
  split <;> rfl

/-- The intake of a block: readings and resistance, then the charge (R62). -/
theorem intakeBlock_eq (old new : Mode) (isNew : Bool) (b : Block) (p : Profile) {r : StringRecord} (h : r.state ≠ .retired) :
    intakeBlock old new isNew b (some p) (startWork r) =
      (measuredWork old new b p r).charge p (r.chargedBy old new isNew b p) := by
  have hm : takeResistance (some p) b (takeReadings b (openEvent (some p) old new b (startWork r))) =
      measuredWork old new b p r := by
    rw [takeReadings_openEvent old new b p h, takeResistance_eq]
    rfl
  unfold intakeBlock
  rw [leaveBattery_takeDelta, hm]
  have hr := stageIf_r (decide (b.resistance ≠ 0)) p
    { r := (r.readBy old new b).measuredBy p b, changed := false, save := decide (new = .battery ∧ old ≠ .battery) }
  have hk := (r.readBy old new b).measuredBy_kept p b
  have hl : (measuredWork old new b p r).r.life = r.life := (congrArg StringRecord.life (hr.trans (by rw [hk])) :)
  have hb : (measuredWork old new b p r).r.bucket = r.bucket := (congrArg StringRecord.bucket (hr.trans (by rw [hk])) :)
  have he : (measuredWork old new b p r).r.event = r.eventRead old new b :=
    (congrArg StringRecord.event (hr.trans (by rw [hk])) :)
  rw [hl, hb, he]
  rfl

theorem Work.charge_r (p : Profile) (c : Charging) (w : Work) : (w.charge p c).r = { w.r with
    life := c.life, bucket := c.bucket, event := c.event, lifeIndicator := (w.charge p c).r.lifeIndicator
    soh := (w.charge p c).r.soh, state := (w.charge p c).r.state } := by
  unfold Work.charge
  dsimp only
  split
  · simp only [mustSave_r, stage5_r]
    rfl
  · rfl

/-- What of the record a block sets without a stage. -/
theorem intakeBlock_record {old new : Mode} {isNew : Bool} {b : Block} {p : Profile} {r : StringRecord} {c : Charging} {w : Work}
    (h : r.state ≠ .retired) (hc : c = r.chargedBy old new isNew b p) (hw : w = intakeBlock old new isNew b (some p) (startWork r)) :
    w.r = { (r.readBy old new b).measuredBy p b with
      life := c.life, bucket := c.bucket, event := c.event, lifeIndicator := w.r.lifeIndicator, soh := w.r.soh
      state := w.r.state } := by
  rw [intakeBlock_eq old new isNew b p h, ← hc] at hw
  have hr := Work.charge_r p c (measuredWork old new b p r)
  have hm := stageIf_r (decide (b.resistance ≠ 0)) p
    { r := (r.readBy old new b).measuredBy p b, changed := false, save := decide (new = .battery ∧ old ≠ .battery) }
  rw [hw]
  refine hr.trans ?_
  unfold measuredWork
  rw [hm]

/-! ### Stages told and stages run -/

/-- The work `w` on a record in the state `st`: its checkpoint is asked for by a change of state, or was by the event opened, and a
state it is not in any more was told (R56, R71). -/
structure Work.Told (st : StringState) (opened : Bool) (w : Work) : Prop where
  saved : w.save = (w.changed || opened)
  moved : w.r.state ≠ st → w.changed = true
  retiring : w.r.state = .retiring ↔ st = .retiring
  standing : w.r.state ≠ .retired

/-- SoH, life indicator and state are what stage 5 forms, on a record that was in the state `st` (R52, R87, R88). -/
structure StringRecord.FormedBy (p : Profile) (st : StringState) (q : StringRecord) : Prop where
  lifeIndicator : q.lifeIndicator = lifeIndicatorOf q.life
  soh : q.soh = min q.lifeIndicator q.resistanceIndicator
  state : q.state = if st = .retiring then .retiring else derivedState (some p) q.suspect q.soh

theorem StringRecord.weighed_formed {p : Profile} {r : StringRecord} {st : StringState} (hr : r.state = .retiring ↔ st = .retiring)
    (hn : r.state ≠ .retired) : (r.weighed p).FormedBy p st := by
  refine ⟨rfl, rfl, ?_⟩
  show StringRecord.restated (some p) _ = _
  unfold StringRecord.restated
  by_cases hs : st = .retiring
  · rw [if_pos (.inl (hr.mpr hs)), if_pos hs]
    exact hr.mpr hs
  · rw [if_neg fun e => e.elim (fun e => hs (hr.mp e)) hn, if_neg hs]
    rfl

theorem StringRecord.FormedBy.retiring {p : Profile} {st : StringState} {q : StringRecord} (h : q.FormedBy p st) :
    q.state = .retiring ↔ st = .retiring := by
  rw [h.state]
  by_cases hs : st = .retiring
  · simp [hs]
  · simp [hs, (derivedState_ne (some p) q.suspect q.soh).1]

theorem Work.Told.stage5 {st : StringState} {opened : Bool} {w : Work} (h : w.Told st opened) (p : Profile) :
    (stage5 p w).Told st opened ∧ (stage5 p w).r.FormedBy p st := by
  have hf := StringRecord.weighed_formed (p := p) h.retiring h.standing
  rw [stage5_eq]
  refine ⟨⟨?_, fun hne => ?_, hf.retiring, ?_⟩, hf⟩
  · show (w.save || _) = _
    rw [h.saved, Bool.or_assoc, Bool.or_assoc, Bool.or_comm opened]
  · by_cases hw : w.r.state = st
    · exact Bool.or_eq_true_iff.mpr (.inr (decide_eq_true (by rw [hw]; exact hne.symm)))
    · exact Bool.or_eq_true_iff.mpr (.inl (h.moved hw))
  · exact (StringRecord.weighed_steady p w.r).retired.not.mpr h.standing

/-- What the stages of an intake tell, and what they leave where they run (R56, R71, R87, R88). -/
structure IntakeStages (p : Profile) (r : StringRecord) (measured charges opened : Bool) (w : Work) : Prop where
  save : w.save = true ↔ w.changed = true ∨ opened = true ∨ charges = true
  moved : w.r.state ≠ r.state → w.changed = true
  once : measured = false → (w.changed = true ↔ w.r.state ≠ r.state)
  formed : measured = true ∨ charges = true → w.r.FormedBy p r.state
  kept : ¬(measured = true ∨ charges = true) →
    w.r.soh = r.soh ∧ w.r.lifeIndicator = r.lifeIndicator ∧ w.r.state = r.state

/-- A stage for the resistance, if there is one, and a stage for the charge, if it asks for one. -/
theorem intakeStages_charge {p : Profile} {r q : StringRecord} {measured opened : Bool} {c : Charging} (h : r.state ≠ .retired)
    (hs : q.state = r.state) (ho : q.soh = r.soh) (hl : q.lifeIndicator = r.lifeIndicator)
    (hlife : c.life = q.life ∨ c.runs = true) : IntakeStages p r measured c.runs opened
      ((stageIf measured p { r := q, changed := false, save := opened }).charge p c) := by
  have h0 : Work.Told r.state opened { r := q, changed := false, save := opened } :=
    ⟨rfl, fun hne => absurd hs hne, by rw [hs], by rw [hs]; exact h⟩
  have h1 : (stageIf measured p { r := q, changed := false, save := opened }).Told r.state opened ∧
      (measured = true → (stageIf measured p { r := q, changed := false, save := opened }).r.FormedBy p r.state) := by
    cases measured with
    | false => exact ⟨h0, fun e => absurd e Bool.false_ne_true⟩
    | true => exact ⟨(h0.stage5 p).1, fun _ => (h0.stage5 p).2⟩
  have hn : measured = false → stageIf measured p { r := q, changed := false, save := opened } =
      { r := q, changed := false, save := opened } := fun e => by rw [e]; rfl
  have hq : (stageIf measured p { r := q, changed := false, save := opened }).r.life = q.life :=
    (congrArg StringRecord.life (stageIf_r measured p _) :)
  generalize stageIf measured p { r := q, changed := false, save := opened } = w at *
  obtain ⟨ht, hf⟩ := h1
  unfold Work.charge
  dsimp only
  cases hr : c.runs with
  | false =>
    rw [if_neg Bool.false_ne_true]
    have hlw : c.life = w.r.life := by
      rw [hq]
      exact hlife.resolve_right (by simp [hr])
    refine ⟨?_, ht.moved, fun e => ?_, fun e => ?_, fun e => ?_⟩
    · show w.save = true ↔ w.changed = true ∨ opened = true ∨ false = true
      rw [ht.saved]
      simp
    · rw [hn e]
      exact ⟨fun e => absurd e Bool.false_ne_true, fun e => absurd hs e⟩
    · have hm := hf (e.resolve_right Bool.false_ne_true)
      exact ⟨hm.lifeIndicator.trans (congrArg lifeIndicatorOf hlw.symm), hm.soh, hm.state⟩
    · have hm : measured = false := by simpa using fun hm => e (.inl hm)
      rw [hn hm]
      exact ⟨ho, hl, hs⟩
  | true =>
    rw [if_pos rfl]
    have hv : Work.Told r.state opened { w with r := { w.r with life := c.life, bucket := c.bucket, event := c.event } } :=
      ⟨ht.saved, ht.moved, ht.retiring, ht.standing⟩
    obtain ⟨hv5, hf5⟩ := hv.stage5 p
    refine ⟨?_, hv5.moved, fun e => ⟨fun hch => ?_, hv5.moved⟩, fun _ => hf5, fun e => absurd (.inr rfl) e⟩
    · exact ⟨fun _ => .inr (.inr rfl), fun _ => rfl⟩
    · rw [mustSave_changed, stage5_eq] at hch
      rw [mustSave_r, stage5_eq]
      have hw := hn e
      have hne := of_decide_eq_true (Bool.or_eq_true_iff.mp hch |>.resolve_left (by rw [hw]; exact Bool.false_ne_true))
      refine fun heq => hne (Eq.trans ?_ heq.symm)
      rw [hw]
      exact hs

/-! ### The charge of a block, case by case -/

theorem addCharge_takenDelta (charge : Nat) (isNew : Bool) (b : Block) : addCharge charge (b.takenDelta isNew) =
    if isNew = true ∧ b.delta ≠ 0 then min (charge + b.delta) 65535 else charge := by
  unfold addCharge Block.takenDelta
  cases isNew with
  | false => rfl
  | true => by_cases hd : b.delta = 0 <;> simp [hd, Config.chargeLimit]

section
variable {old new : Mode} {r : StringRecord} (isNew : Bool) (b : Block) (p : Profile)

theorem StringRecord.chargedBy_opened (ho : new = .battery ∧ old ≠ .battery) : r.chargedBy old new isNew b p =
    { life := r.life, bucket := r.bucket
      event := some { minutes := 0, charge := if isNew = true then min b.delta 65535 else 0, lowest := b.voltage }
      runs := false } := by
  have hl : old.leaves new = false := decide_eq_false fun h => ho.2 h.1
  have hc : addCharge 0 (b.takenDelta isNew) = if isNew = true then min b.delta 65535 else 0 := by
    rw [addCharge_takenDelta]
    by_cases hd : b.delta = 0 <;> simp [hd]
  unfold StringRecord.chargedBy StringRecord.eventRead
  rw [if_pos ho, hl, ← hc]
  rfl

theorem StringRecord.chargedBy_idle (ho : ¬(new = .battery ∧ old ≠ .battery)) (he : r.event = none) :
    r.chargedBy old new isNew b p = .idle p (b.takenDelta isNew) r.life r.bucket := by
  unfold StringRecord.chargedBy StringRecord.eventRead
  rw [if_neg ho, he]
  rfl

theorem StringRecord.chargedBy_event (ho : ¬(new = .battery ∧ old ≠ .battery)) {e : DischargeEvent} (he : r.event = some e) :
    r.chargedBy old new isNew b p = .discharge p (old.leaves new) (b.takenDelta isNew) r.life r.bucket
      { e with lowest := min e.lowest b.voltage } := by
  unfold StringRecord.chargedBy StringRecord.eventRead
  rw [if_neg ho, he]
  rfl

/-- A charge runs its stage exactly where the bucket charges itself or the event is closed (R68, R84). -/
theorem StringRecord.chargedBy_runs : (r.chargedBy old new isNew b p).runs = true ↔
    (isNew = true ∧ b.delta ≠ 0 ∧ r.event = none ∧ ¬(new = .battery ∧ old ≠ .battery) ∧
      p.capacity ≤ min (r.bucket + b.delta) 65535) ∨
    (old = .battery ∧ new ≠ .battery ∧ r.event.isSome = true) := by
  by_cases ho : new = .battery ∧ old ≠ .battery
  · rw [StringRecord.chargedBy_opened isNew b p ho]
    simp [ho]
  · cases he : r.event with
    | none =>
      rw [StringRecord.chargedBy_idle isNew b p ho he, Charging.idle, addCharge_takenDelta]
      have hd : b.takenDelta isNew ≠ 0 ↔ isNew = true ∧ b.delta ≠ 0 := by
        rw [ne_eq, Block.takenDelta_eq_zero]
        simp
      by_cases hn : isNew = true ∧ b.delta ≠ 0
      · by_cases hc : p.capacity ≤ min (r.bucket + b.delta) 65535
        · rw [if_pos hn, if_pos ⟨hd.mpr hn, hc⟩]
          exact iff_of_true rfl (.inl ⟨hn.1, hn.2, rfl, ho, hc⟩)
        · rw [if_pos hn, if_neg fun h => hc h.2]
          exact iff_of_false Bool.false_ne_true fun h => h.elim (fun h => hc h.2.2.2.2) fun h => Bool.false_ne_true h.2.2
      · rw [if_neg fun h => hn (hd.mp h.1)]
        exact iff_of_false Bool.false_ne_true fun h => h.elim (fun h => hn ⟨h.1, h.2.1⟩) fun h => Bool.false_ne_true h.2.2
    | some e =>
      rw [StringRecord.chargedBy_event isNew b p ho he, Charging.discharge, Mode.leaves]
      by_cases hl : old = .battery ∧ new ≠ .battery
      · rw [decide_eq_true hl]
        exact iff_of_true rfl (.inr ⟨hl.1, hl.2, rfl⟩)
      · rw [decide_eq_false hl]
        exact iff_of_false Bool.false_ne_true fun h => h.elim (fun h => by cases h.2.2.1) fun h => hl ⟨h.1, h.2.1⟩

/-- Without a stage the life stands, and without a delta taken the bucket does (R65, R73). -/
theorem StringRecord.chargedBy_quiet :
    ((r.chargedBy old new isNew b p).life = r.life ∨ (r.chargedBy old new isNew b p).runs = true) ∧
    (isNew = false ∨ b.delta = 0 → (r.chargedBy old new isNew b p).bucket = r.bucket) := by
  by_cases ho : new = .battery ∧ old ≠ .battery
  · rw [StringRecord.chargedBy_opened isNew b p ho]
    exact ⟨.inl rfl, fun _ => rfl⟩
  · cases he : r.event with
    | none =>
      rw [StringRecord.chargedBy_idle isNew b p ho he, Charging.idle]
      refine ⟨?_, fun h => ?_⟩
      · split
        · exact .inr rfl
        · exact .inl rfl
      · rw [if_neg fun hn => hn.1 ((b.takenDelta_eq_zero isNew).mpr h), (b.takenDelta_eq_zero isNew).mpr h]
        rfl
    | some e =>
      rw [StringRecord.chargedBy_event isNew b p ho he, Charging.discharge]
      dsimp only
      split
      · exact ⟨.inr rfl, fun _ => rfl⟩
      · exact ⟨.inl rfl, fun _ => rfl⟩

end

/-- The fields of the readings and of the resistance after an intake (R63, R64). -/
theorem StringRecord.measuredBy_fields (p : Profile) (b : Block) (r : StringRecord) :
    (b.resistance = 0 → (r.measuredBy p b).r = r.r ∧ (r.measuredBy p b).sinceR = r.sinceR ∧
      (r.measuredBy p b).resistanceIndicator = r.resistanceIndicator) ∧
    (b.resistance ≠ 0 → (r.measuredBy p b).r = b.resistance ∧ (r.measuredBy p b).sinceR = 0 ∧
      (r.measuredBy p b).resistanceIndicator = resistanceIndicatorOf p r.rb b.resistance) := by
  refine ⟨fun h => ?_, fun h => ?_⟩
  · rw [StringRecord.measuredBy, if_pos h]
    exact ⟨rfl, rfl, rfl⟩
  · rw [StringRecord.measuredBy, if_neg h]
    exact ⟨rfl, rfl, rfl⟩

theorem intakeBlock_stages {old new : Mode} {isNew : Bool} {b : Block} {p : Profile} {r : StringRecord} {w : Work}
    (h : r.state ≠ .retired) (hw : w = intakeBlock old new isNew b (some p) (startWork r)) :
    IntakeStages p r (decide (b.resistance ≠ 0)) (r.chargedBy old new isNew b p).runs
      (decide (new = .battery ∧ old ≠ .battery)) w := by
  have hk := (r.readBy old new b).measuredBy_kept p b
  rw [hw, intakeBlock_eq old new isNew b p h]
  refine intakeStages_charge h (by rw [hk]; rfl) (by rw [hk]; rfl) (by rw [hk]; rfl) ?_
  rw [hk]
  exact (StringRecord.chargedBy_quiet isNew b p).1

end Sys2Proof.Machine

section
open Sys2Proof Sys2Proof.Machine

/-- Settles O48: the block's readings and resistance are taken as they stand, its charge goes to the event or the bucket, and the
two places where a stage can run tell what they change. -/
theorem intakeOfOneBlock : Obligations.IntakeOfOneBlock := by
  intro old new isNew b p r q w _ hret hw hq
  subst hq
  have hrec := intakeBlock_record hret rfl hw
  have hstages := intakeBlock_stages hret hw
  have hfields := (r.readBy old new b).measuredBy_fields p b
  have hquiet := StringRecord.chargedBy_quiet (old := old) (new := new) (r := r) isNew b p
  have hruns := StringRecord.chargedBy_runs (old := old) (new := new) (r := r) isNew b p
  rw [(r.readBy old new b).measuredBy_kept p b] at hrec
  have hlife : w.r.life = (r.chargedBy old new isNew b p).life := (congrArg StringRecord.life hrec :)
  have hbucket : w.r.bucket = (r.chargedBy old new isNew b p).bucket := (congrArg StringRecord.bucket hrec :)
  have hevent : w.r.event = (r.chargedBy old new isNew b p).event := (congrArg StringRecord.event hrec :)
  have hr : w.r.r = ((r.readBy old new b).measuredBy p b).r := (congrArg StringRecord.r hrec :)
  have hsince : w.r.sinceR = ((r.readBy old new b).measuredBy p b).sinceR := (congrArg StringRecord.sinceR hrec :)
  have hind : w.r.resistanceIndicator = ((r.readBy old new b).measuredBy p b).resistanceIndicator :=
    (congrArg StringRecord.resistanceIndicator hrec :)
  have hsuspect : w.r.suspect = r.suspect := (congrArg StringRecord.suspect hrec :)
  rw [hlife, hbucket, hevent, hr, hsince, hind]
  refine ⟨(congrArg StringRecord.voltage hrec :), (congrArg StringRecord.current hrec :),
    (congrArg StringRecord.temperature hrec :), hfields.1, hfields.2, hquiet.2, fun total hnew hmode hev hd htotal => ?_,
    fun e hmode hev => ?_, fun h1 h2 => ?_, fun e h1 h2 hev hcharge => ?_, fun opened charged closed ho hc hcl => ?_,
    (congrArg StringRecord.cabinet hrec :), (congrArg StringRecord.position hrec :), (congrArg StringRecord.profile hrec :),
    (congrArg StringRecord.day hrec :), (congrArg StringRecord.rb hrec :), (congrArg StringRecord.m hrec :),
    (congrArg StringRecord.s hrec :), hsuspect, (congrArg StringRecord.owner hrec :)⟩
  · have ho : ¬(new = .battery ∧ old ≠ .battery) := fun h => hmode.elim (fun hn => hn h.1) h.2
    have ht : b.takenDelta isNew ≠ 0 := (b.takenDelta_eq_zero isNew).not.mpr (by simp [hnew, hd])
    have hsum : addCharge r.bucket (b.takenDelta isNew) = total := by rw [addCharge_takenDelta, if_pos ⟨hnew, hd⟩, htotal]
    rw [StringRecord.chargedBy_idle isNew b p ho hev, Charging.idle, hsum]
    by_cases hc : p.capacity ≤ total
    · rw [if_pos ⟨ht, hc⟩]
      exact ⟨rfl, fun hlt => absurd hc (by omega), fun _ => ⟨rfl, rfl⟩⟩
    · rw [if_neg fun h => hc h.2]
      exact ⟨rfl, fun _ => ⟨rfl, rfl⟩, fun h => absurd h hc⟩
  · have ho : ¬(new = .battery ∧ old ≠ .battery) := fun h => h.2 (hmode.mp h.1)
    have hl : old.leaves new = false := decide_eq_false fun h => h.2 (hmode.mpr h.1)
    rw [StringRecord.chargedBy_event isNew b p ho hev, Charging.discharge, hl, if_neg Bool.false_ne_true, addCharge_takenDelta]
    exact ⟨rfl, rfl, rfl⟩
  · rw [StringRecord.chargedBy_opened isNew b p ⟨h1, h2⟩]
    exact ⟨rfl, rfl, rfl⟩
  · have ho : ¬(new = .battery ∧ old ≠ .battery) := fun h => h.2 h1
    have hl : old.leaves new = true := decide_eq_true ⟨h1, h2⟩
    have htaken : addCharge e.charge (b.takenDelta isNew) = if isNew = true then min (e.charge + b.delta) 65535 else e.charge := by
      rw [addCharge_takenDelta]
      by_cases hd : b.delta = 0
      · simp [hd, hcharge]
      · simp [hd]
    rw [StringRecord.chargedBy_event isNew b p ho hev, Charging.discharge, hl, if_pos rfl]
    refine ⟨rfl, rfl, fun charge d hch hd => ?_⟩
    rw [htaken, ← hch, depthOf, ← hd]
    rfl
  · have hcase : (r.chargedBy old new isNew b p).runs = true ↔ charged ∨ closed := by rw [hruns, hc, hcl, ho]
    have hopen : decide (new = .battery ∧ old ≠ .battery) = true ↔ opened := decide_eq_true_iff.trans ho.symm
    have hany : b.resistance ≠ 0 ∨ charged ∨ closed ↔
        decide (b.resistance ≠ 0) = true ∨ (r.chargedBy old new isNew b p).runs = true := by
      rw [hcase, decide_eq_true_iff]
    refine ⟨?_, hstages.moved, fun hz => hstages.once (decide_eq_false (not_not.mpr hz)), fun hran => ?_, fun hno => ?_⟩
    · rw [hstages.save, hopen, hcase]
    · obtain ⟨hli, hsoh, hst⟩ := hstages.formed (hany.mp hran)
      rw [hlife] at hli
      rw [hind] at hsoh
      refine ⟨hli, hsoh, hst.trans ?_⟩
      rw [hsuspect]
      rfl
    · exact hstages.kept (hany.not.mp hno)

end

namespace Sys2Proof.Machine

/-! ## The closing of a visit: its permits (R126, R157) -/

/-- A Granted permit of a closing visit: WITHDRAW and the slot free, with no cause. -/
def PermitWork.withdraw : PermitWork := { left := none, note := some .withdraw, changed := false, overdue := false, save := true }

/-- What the close of visit `v` makes of a permit. -/
def visitCloseWork (v : Nat) (p : Permit) : PermitWork := if p.visit = some v then .withdraw else .quiet p

section
variable (v : Nat) (p : Permit)

theorem visitCloseWork_left : (visitCloseWork v p).left = if p.visit = some v then none else some p := by
  by_cases h : p.visit = some v <;> simp [visitCloseWork, h, PermitWork.withdraw, PermitWork.quiet]

theorem visitCloseWork_note : (visitCloseWork v p).note = if p.visit = some v then some .withdraw else none := by
  by_cases h : p.visit = some v <;> simp [visitCloseWork, h, PermitWork.withdraw, PermitWork.quiet]

theorem visitCloseWork_save : (visitCloseWork v p).save = true ↔ p.visit = some v := by
  by_cases h : p.visit = some v <;> simp [visitCloseWork, h, PermitWork.withdraw, PermitWork.quiet]

theorem visitCloseWork_silent : (visitCloseWork v p).changed = false ∧ (visitCloseWork v p).overdue = false := by
  by_cases h : p.visit = some v <;> simp [visitCloseWork, h, PermitWork.withdraw, PermitWork.quiet]

end

theorem State.permitWorked_withdraw {s : State} {k : Nat} {p : Permit} (h : s.permit? k = some p) (hg : p.state = .granted) :
    s.PermitWorked (s.closePermit k) k p .withdraw := by
  have hw := State.permitWorked_close h hg
  refine ⟨hw.permits, hw.cabinets, hw.serial, fun i _ => ?_, hw.overdue, hw.queue, hw.rest⟩
  have ha : (s.closePermit k).attention = s.attention := by
    rw [State.closePermit_standing k s p h, if_pos (.inl hg)]
    exact (s.post_rest p.cabinet .withdraw).1
  rw [ha]
  exact (Bool.or_false _).symm

theorem State.mem_permitsOfVisit {s : State} {v k : Nat} {p : Permit} :
    (k, p) ∈ s.permitsOfVisit v ↔ s.permit? k = some p ∧ p.visit = some v := by
  rw [State.permitsOfVisit, List.mem_filter, mem_entries]
  simp [State.permit?]

theorem State.permitsOfVisit_ascending (s : State) (v : Nat) : ((s.permitsOfVisit v).map Prod.fst).Pairwise (· < ·) :=
  List.pairwise_map.mpr ((entries_ascending s.permits).filter _)

theorem State.mem_retiredOf {s : State} {v k : Nat} :
    k ∈ s.retiredOf v ↔ ∃ r, s.string? k = some r ∧ r.state = .retired ∧ r.owner = some v := by
  rw [State.retiredOf, List.mem_map]
  refine ⟨fun ⟨⟨j, r⟩, he, hj⟩ => ?_, fun ⟨r, hr, h1, h2⟩ => ⟨(k, r), List.mem_filter.mpr ⟨(mem_entries _ _ _).mpr hr, ?_⟩, rfl⟩⟩
  · obtain ⟨hm, hc⟩ := List.mem_filter.mp he
    obtain rfl : j = k := hj
    exact ⟨r, (mem_entries _ _ _).mp hm, by simpa using hc⟩
  · simp [h1, h2]

theorem State.retiredOf_ascending (s : State) (v : Nat) : (s.retiredOf v).Pairwise (· < ·) :=
  List.pairwise_map.mpr ((entries_ascending s.strings).filter _)

/-- A fold over some numbers of a table, ascending, is a pass over all of them that skips the others. -/
theorem foldl_ascending {σ : Type} (f : σ → Nat → σ) {l : List Nat} {n : Nat} (hl : l.Pairwise (· < ·))
    (hn : ∀ k ∈ l, 1 ≤ k ∧ k ≤ n) (s : σ) : l.foldl f s = (numbers n).foldl (fun t k => if k ∈ l then f t k else t) s := by
  have hnum : (numbers n).Pairwise (· < ·) := List.pairwise_lt_range' 1
  have he : l = (numbers n).filter (fun k => decide (k ∈ l)) := by
    have hperm : l.Perm ((numbers n).filter (fun k => decide (k ∈ l))) := by
      refine (List.perm_ext_iff_of_nodup (hl.imp Nat.ne_of_lt) ((hnum.imp Nat.ne_of_lt).filter _)).mpr fun k => ?_
      rw [List.mem_filter, mem_numbers, decide_eq_true_iff]
      exact ⟨fun h => ⟨hn k h, h⟩, fun h => h.2⟩
    exact hperm.eq_of_pairwise (fun a b _ _ h1 h2 => absurd (h1.trans h2) (lt_irrefl _)) hl
      (hnum.filter _)
  conv_lhs => rw [he]
  rw [List.foldl_filter]
  simp only [decide_eq_true_eq]

/-- The permits of a visit, all Granted, are withdrawn in a pass over the Permit Table. -/
theorem State.closeVisitPermits_passed {s : State} (hz : s.Sized) {v : Nat}
    (hg : ∀ k p, s.permit? k = some p → p.visit = some v → p.state = .granted) :
    s.PermitsPassed ((s.permitsOfVisit v).foldl State.closeVisitPermit s) Config.permitCount (visitCloseWork v) := by
  have hmem : ∀ k, k ∈ (s.permitsOfVisit v).map Prod.fst ↔ ∃ p, s.permit? k = some p ∧ p.visit = some v := fun k => by
    simp only [List.mem_map, Prod.exists, State.mem_permitsOfVisit, exists_and_right, exists_eq_right]
  have hfold : (s.permitsOfVisit v).foldl State.closeVisitPermit s = (numbers Config.permitCount).foldl
      (fun t k => if k ∈ (s.permitsOfVisit v).map Prod.fst then t.closePermit k else t) s := by
    rw [← foldl_ascending (fun t k => State.closePermit k t) (s.permitsOfVisit_ascending v) fun k hk => ?_, List.foldl_map]
    · rfl
    · obtain ⟨p, hp, -⟩ := (hmem k).mp hk
      have := tget_some _ _ _ hp
      rwa [hz.permits] at this
  rw [hfold]
  refine foldl_numbers (P := fun n t => s.PermitsPassed t n (visitCloseWork v)) _ (s.permitsPassed_zero _) fun n t _ h => ?_
  have hn : t.permit? (n + 1) = s.permit? (n + 1) := by rw [h.permits, if_neg (by omega)]
  cases hp : s.permit? (n + 1) with
  | none =>
    rw [if_neg fun hk => by obtain ⟨p, hs, -⟩ := (hmem _).mp hk; rw [hp] at hs; cases hs]
    exact h.skip hp
  | some p =>
    refine h.next hp ?_
    unfold visitCloseWork
    by_cases hv : p.visit = some v
    · rw [if_pos hv, if_pos ((hmem _).mpr ⟨p, hp, hv⟩)]
      exact State.permitWorked_withdraw (hn.trans hp) (hg _ p hp hv)
    · rw [if_neg hv, if_neg fun hk => by
        obtain ⟨q, hs, hq⟩ := (hmem _).mp hk
        rw [hp] at hs
        cases hs
        exact hv hq]
      exact State.permitWorked_keep (hn.trans hp)

/-- The close of a visit raises no cause for its permits (R136, R157). -/
theorem State.PermitsPassed.closed_attention {s t : State} {n v : Nat} (h : s.PermitsPassed t n (visitCloseWork v)) :
    { t.attention with marginShort := s.attention.marginShort } = s.attention := by
  have hchanged : t.attention.permitChanged = s.attention.permitChanged := BitVec.eq_of_getLsbD_eq fun i hi => by
    rw [h.changed i hi]
    simp [(visitCloseWork_silent v _).1]
  have hoverdue : t.attention.permitOverdue = s.attention.permitOverdue := BitVec.eq_of_getLsbD_eq fun i hi => by
    rw [h.overdue i hi]
    simp [(visitCloseWork_silent v _).2]
  have ha := h.attention
  rwa [← hchanged, ← hoverdue] at ha

/-! ## The closing of a visit: its Retired records (R55, R157) -/

/-- The string slots of `l` have been freed. -/
structure State.SlotsFreed (s t : State) (l : List Nat) : Prop where
  strings : ∀ k, t.string? k = if k ∈ l then none else s.string? k
  changed : ∀ i, i < 64 → t.attention.stringStateChanged.getLsbD i =
    (s.attention.stringStateChanged.getLsbD i || decide (i + 1 ∈ l))
  queue : ∀ id, id ∈ t.store.queue ↔ id ∈ s.store.queue ∨ ∃ k ∈ l, id = stringImage k
  visits : t.visits = s.visits
  attention : { t.attention with stringStateChanged := s.attention.stringStateChanged } = s.attention
  frame : s.RecordFrame t

theorem tget_tset_none {α : Type} (t : List (Option α)) (n m : Nat) :
    tget (tset t n none) m = if m = n then none else tget t m := by
  by_cases h : m = n
  · subst h
    rw [if_pos rfl]
    cases hg : tget t m with
    | some a => exact tget_tset_some t m a none hg
    | none => exact (tget_tset_cases t m m none).elim (fun e => e.trans hg) fun e => e.2
  · rw [if_neg h, tget_tset_ne t n m none h]

theorem State.freeStrings_freed (s : State) (l : List Nat) : s.SlotsFreed (l.foldl (fun t k => t.freeString k) s) l := by
  induction l generalizing s with
  | nil => exact ⟨fun k => by simp, fun i _ => by simp, fun id => by simp, rfl, rfl, .refl s⟩
  | cons j l ih =>
    have h := ih (s.freeString j)
    rw [State.freeString_eq] at h
    rw [List.foldl_cons, State.freeString_eq]
    generalize l.foldl _ _ = t at h
    refine ⟨fun k => ?_, fun i hi => ?_, fun id => ?_, h.visits, ?_, ?_⟩
    · rw [h.strings]
      refine (congrArg (fun o => if k ∈ l then none else o) (tget_tset_none s.strings j k)).trans ?_
      by_cases hk : k = j <;> simp [hk, State.string?]
    · rw [h.changed i hi]
      simp [raiseStringChanged, markOf_getLsbD j hi, Bool.or_assoc]
    · rw [h.queue]
      simp [or_assoc]
    · exact (congrArg (fun a => { a with stringStateChanged := s.attention.stringStateChanged }) h.attention :)
    · exact State.RecordFrame.trans (show s.RecordFrame (s.freeString j) from rfl) h.frame

/-! ## The closing of a visit: the items of other visits (R157) -/

/-- The item as a freed target leaves it. -/
theorem abandonFreed_eq (freed : List Nat) (it : Item) : abandonFreed freed it =
    if it.kind ≠ .inspectCabinet ∧ it.target ∈ freed ∧ (it.state = .pending ∨ it.state = .interrupted) then
      { it with state := .abandoned, permit := none, result := none }
    else it := by
  have ht : freed.any (fun k => it.targetsString k) = true ↔ it.kind ≠ .inspectCabinet ∧ it.target ∈ freed := by
    rw [List.any_eq_true]
    simp only [Item.targetsString, Bool.and_eq_true, bne_iff_ne, beq_iff_eq]
    exact ⟨fun ⟨k, hk, h1, h2⟩ => ⟨h1, h2 ▸ hk⟩, fun ⟨h1, h2⟩ => ⟨_, h2, h1, rfl⟩⟩
  unfold abandonFreed abandonWaiting
  by_cases hf : it.kind ≠ .inspectCabinet ∧ it.target ∈ freed
  · rw [if_pos (ht.mpr hf)]
    by_cases hw : it.state = .pending ∨ it.state = .interrupted
    · rw [if_pos hw, if_pos ⟨hf.1, hf.2, hw⟩]
      rfl
    · rw [if_neg hw, if_neg fun h => hw h.2.2]
  · rw [if_neg (ht.not.mpr hf), if_neg fun h => hf ⟨h.1, h.2.1⟩]

/-- A work list changes exactly where an item in it waits on a freed slot. -/
theorem map_abandonFreed_ne (freed : List Nat) (items : List Item) : items.map (abandonFreed freed) ≠ items ↔
    ∃ it ∈ items, it.kind ≠ .inspectCabinet ∧ it.target ∈ freed ∧ (it.state = .pending ∨ it.state = .interrupted) := by
  have hfix : ∀ it : Item, abandonFreed freed it = it ↔
      ¬(it.kind ≠ .inspectCabinet ∧ it.target ∈ freed ∧ (it.state = .pending ∨ it.state = .interrupted)) := fun it => by
    rw [abandonFreed_eq]
    split
    · rename_i h
      refine iff_of_false (fun he => ?_) (not_not.mpr h)
      have hs : ItemState.abandoned = it.state := congrArg Item.state he
      rcases h.2.2 with e | e <;> rw [e] at hs <;> cases hs
    · exact iff_of_true rfl ‹_›
  have hall : items.map (abandonFreed freed) = items ↔ ∀ it ∈ items, abandonFreed freed it = it := by
    conv_lhs => rhs; rw [← List.map_id items]
    exact List.map_inj_left
  rw [ne_eq, hall, not_forall₂]
  refine exists_congr fun it => ?_
  rw [exists_prop, hfix, not_not]

/-- The waiting items of the visits `ws` on the freed slots have been abandoned. -/
structure State.ItemsFreed (s t : State) (freed ws : List Nat) : Prop where
  visits : ∀ w, t.visit? w = if w ∈ ws then
    (s.visit? w).map (fun y => { y with items := y.items.map (abandonFreed freed) }) else s.visit? w
  queue : ∀ id, id ∈ t.store.queue ↔ id ∈ s.store.queue ∨
    ∃ w ∈ ws, ∃ y, s.visit? w = some y ∧ y.items.map (abandonFreed freed) ≠ y.items ∧ id = visitImage w
  strings : t.strings = s.strings
  attention : t.attention = s.attention
  frame : s.RecordFrame t

theorem State.abandonIn_freed (s : State) (freed : List Nat) (w : Nat) : s.ItemsFreed (s.abandonIn freed w) freed [w] := by
  unfold State.abandonIn
  cases hy : s.visit? w with
  | none => exact ⟨fun u => by by_cases h : u = w <;> simp [h, hy], fun id => by simp [hy], rfl, rfl, .refl s⟩
  | some y =>
    dsimp only
    by_cases hi : y.items.map (abandonFreed freed) = y.items
    · rw [if_pos hi]
      exact ⟨fun u => by by_cases h : u = w <;> simp [h, hy, hi], fun id => by simp [hy, hi], rfl, rfl, .refl s⟩
    · rw [if_neg hi]
      refine ⟨fun u => ?_, fun id => by simp [hy, hi], rfl, rfl, rfl⟩
      refine (tget_tset_of_some s.visits w u y _ hy).trans ?_
      by_cases h : u = w
      · simp [h, hy]
      · simp [h, State.visit?]

theorem State.ItemsFreed.cons {s t u : State} {freed ws : List Nat} {w : Nat} (h : s.ItemsFreed t freed [w])
    (g : t.ItemsFreed u freed ws) (hw : w ∉ ws) : s.ItemsFreed u freed (w :: ws) := by
  have hother : ∀ j, j ≠ w → t.visit? j = s.visit? j := fun j hj => by rw [h.visits, if_neg (by simpa using hj)]
  refine ⟨fun j => ?_, fun id => ?_, g.strings.trans h.strings, g.attention.trans h.attention, h.frame.trans g.frame⟩
  · rw [g.visits]
    by_cases hj : j = w
    · subst hj
      rw [if_neg hw, h.visits, if_pos (by simp), if_pos (by simp)]
    · rw [hother j hj]
      simp [hj]
  · rw [g.queue, h.queue, or_assoc]
    refine or_congr_right ?_
    simp only [List.mem_cons, List.not_mem_nil, or_false, exists_eq_left, exists_eq_or_imp]
    refine or_congr_right (exists_congr fun j => and_congr_right fun hj => ?_)
    rw [hother j fun e => hw (e ▸ hj)]

theorem State.abandonIn_pass (s : State) (freed : List Nat) {ws : List Nat} (hw : ws.Nodup) :
    s.ItemsFreed (ws.foldl (State.abandonIn freed) s) freed ws := by
  induction ws generalizing s with
  | nil => exact ⟨fun w => by simp, fun id => by simp, rfl, rfl, .refl s⟩
  | cons w ws ih =>
    obtain ⟨hn, hd⟩ := List.nodup_cons.mp hw
    exact (s.abandonIn_freed freed w).cons (ih (State.abandonIn freed s w) hd) hn

/-! ## VISIT CLOSE (R156, R157) -/

/-- The closing of a visit, step by step. -/
theorem State.closeVisit_steps {s : State} (hz : s.Sized) {v : Nat}
    (hg : ∀ k p, s.permit? k = some p → p.visit = some v → p.state = .granted) :
    ∃ t u w : State, s.PermitsPassed t Config.permitCount (visitCloseWork v) ∧ t.SlotsFreed u (s.retiredOf v) ∧
      u.ItemsFreed w (s.retiredOf v) ((numbers Config.visitCount).filter (fun n => n != v)) ∧
      s.closeVisit v = ((w.setVisit v none).checkpoint (visitImage v)).recompute :=
  ⟨_, _, _, State.closeVisitPermits_passed hz hg, State.freeStrings_freed _ _,
    State.abandonIn_pass _ _ ((List.nodup_range' 1 : (numbers Config.visitCount).Nodup).filter _), rfl⟩

/-- The images of the permits withdrawn. -/
theorem State.closedPermits_queue {s : State} (hz : s.Sized) {v : Nat} {id : ImageId} :
    (∃ k p, k ≤ Config.permitCount ∧ s.permit? k = some p ∧ (visitCloseWork v p).save = true ∧ id = permitImage k) ↔
      ∃ k p, s.permit? k = some p ∧ p.visit = some v ∧ id = permitImage k := by
  refine exists_congr fun k => exists_congr fun p => ?_
  rw [visitCloseWork_save]
  refine ⟨fun h => h.2, fun h => ⟨?_, h⟩⟩
  have := tget_some _ _ _ h.1
  rw [hz.permits] at this
  exact this.2

/-- The images of the other visits whose items are abandoned. -/
theorem State.freedItems_queue {s t u : State} (hz : s.Sized) (ht : t.visits = s.visits) (hu : u.visits = t.visits) {v : Nat}
    {freed : List Nat} {id : ImageId} :
    (∃ w ∈ (numbers Config.visitCount).filter (fun n => n != v), ∃ y, u.visit? w = some y ∧
      y.items.map (abandonFreed freed) ≠ y.items ∧ id = visitImage w) ↔
      ∃ w y it, w ≠ v ∧ s.visit? w = some y ∧ it ∈ y.items ∧ it.kind ≠ .inspectCabinet ∧ it.target ∈ freed ∧
        (it.state = .pending ∨ it.state = .interrupted) ∧ id = visitImage w := by
  have hs : u.visit? = s.visit? := by unfold State.visit?; rw [hu, ht]
  simp only [hs, map_abandonFreed_ne, List.mem_filter, mem_numbers, bne_iff_ne]
  constructor
  · rintro ⟨w, ⟨-, hw⟩, y, hy, ⟨it, hi, hk, ht, hst⟩, e⟩
    exact ⟨w, y, it, hw, hy, hi, hk, ht, hst, e⟩
  · rintro ⟨w, y, it, hw, hy, hi, hk, ht, hst, e⟩
    have hn := tget_some _ _ _ hy
    rw [hz.visits] at hn
    exact ⟨w, ⟨hn, hw⟩, y, hy, ⟨it, hi, hk, ht, hst⟩, e⟩

theorem State.closeBarred_iff (s : State) (v : Nat) (x : Visit) : s.closeBarred v x = true ↔
    (∃ it ∈ x.items, it.state = .inProgress) ∨ ∃ k p, s.permit? k = some p ∧ p.visit = some v ∧ p.state ≠ .granted := by
  simp only [State.closeBarred, Bool.or_eq_true, List.any_eq_true, beq_iff_eq, bne_iff_ne, Prod.exists, State.mem_permitsOfVisit,
    and_assoc]

theorem visitClose_open {b : List Byte} {s : State} {x : Visit} (hx : s.visit? (field b 0 1) = some x) : visitClose b s =
    if s.closeBarred (field b 0 1) x = true then refuse .wrongState s
    else done (be1 (s.permitsOfVisit (field b 0 1)).length ++ be1 (s.retiredOf (field b 0 1)).length ++
      (s.retiredOf (field b 0 1)).flatMap be1) (s.closeVisit (field b 0 1)) := by
  unfold visitClose
  dsimp only
  rw [hx]

end Sys2Proof.Machine

section
open Sys2Proof Sys2Proof.Machine

/-- Settles O38: the permits go in a pass over their table, then the records are freed, then the other visits lose their waiting
items on the freed slots; no step touches what a later one reads. -/
theorem visitCloseFrees : Obligations.VisitCloseFrees := by
  rintro f s v x hz ht rfl hx
  generalize hv : field f.body 0 1 = v at hx
  refine ⟨fun hbar => ?_, fun hitems hg => ?_⟩
  · refine congrArg Host.Outcome.next (State.takeRequest_refused ht fun q => ?_)
    subst hv
    exact (visitClose_open (s := s.withPort q) hx).trans (if_pos ((s.closeBarred_iff _ x).mpr hbar))
  · have hfree : ¬s.closeBarred v x = true := (s.closeBarred_iff v x).not.mpr fun h =>
      h.elim (fun ⟨it, hi, hs⟩ => hitems it hi hs) fun ⟨k, p, hp, hpv, hs⟩ => hs (hg k p hp hpv)
    have he : exec (.visitClose f) s = .next { s.closeVisit v with
        port := s.repliedPort f 0x45 .done
          (be1 (s.permitsOfVisit v).length ++ be1 (s.retiredOf v).length ++ (s.retiredOf v).flatMap be1) } := by
      refine congrArg Host.Outcome.next (State.takeRequest_now ht fun q => ?_)
      subst hv
      refine (visitClose_open (s := s.withPort q) hx).trans ((if_neg hfree).trans ?_)
      rw [blind_closeVisit]
      rfl
    obtain ⟨s1, s2, s3, h1, h2, h3, hclose⟩ := State.closeVisit_steps hz hg
    have hframe : s1.RecordFrame s3 := h2.frame.trans h3.frame
    have hcabinet : ∀ c, s3.cabinet? c = s1.cabinet? c := fun c => congrArg (tget · c) hframe.cabinets
    have hsame : s1.attention.stringStateChanged = s.attention.stringStateChanged :=
      (congrArg Attention.stringStateChanged h1.attention :)
    rw [hclose] at he
    refine ⟨_, he, rfl, ?_, fun w hw => ?_, fun k => ?_, fun k => ?_, s.retiredOf_ascending v, s.permitsOfVisit_ascending v,
      fun k p => State.mem_permitsOfVisit, fun k => State.mem_retiredOf, fun id => ?_, fun i hi => ?_, ?_, rfl,
      fun k p y hp hpv hy => ?_, fun c hc => ?_, ?_, ?_, ?_, ?_, ?_, ?_⟩
    · exact (tget_tset_none _ v v).trans (if_pos rfl)
    · refine ((tget_tset_none _ v w).trans (if_neg hw)).trans ((h3.visits w).trans ?_)
      have hs : s2.visit? w = s.visit? w := by rw [State.visit?, h2.visits, h1.visits]; rfl
      simp only [hs, funext (abandonFreed_eq (s.retiredOf v))]
      split
      · rfl
      · rename_i hn
        cases hy : s.visit? w with
        | none => rfl
        | some y =>
          refine absurd (List.mem_filter.mpr ⟨(mem_numbers _ _).mpr ?_, by simpa using hw⟩) hn
          have := tget_some _ _ _ hy
          rwa [hz.visits] at this
    · refine (congrArg (tget · k) hframe.permits : s3.permit? k = s1.permit? k).trans ((h1.permit_of_full hz rfl k).trans ?_)
      simp only [visitCloseWork_left]
    · refine (congrArg (tget · k) h3.strings : s3.string? k = s2.string? k).trans ((h2.strings k).trans ?_)
      have hs : s1.string? k = s.string? k := by rw [State.string?, h1.strings]; rfl
      rw [hs]
      cases hr : s.string? k with
      | none => simp
      | some r => simp [State.mem_retiredOf, hr]
    · rw [State.recompute_store]
      refine (mem_enqueue id (visitImage v) s3.store.queue).trans ?_
      rw [h3.queue, h2.queue, h1.queue, State.closedPermits_queue hz, State.freedItems_queue hz h1.visits h2.visits]
      exact iff_of_eq (by ac_rfl)
    · refine (congrArg (fun a : Attention => a.stringStateChanged.getLsbD i) h3.attention).trans ((h2.changed i hi).trans ?_)
      rw [hsame]
    · have h31 : { s3.attention with stringStateChanged := s1.attention.stringStateChanged } = s1.attention := by
        rw [h3.attention, h2.attention]
      rw [← hsame]
      exact (congrArg (fun a => { a with marginShort := s.attention.marginShort }) h31).trans h1.closed_attention
    · obtain ⟨serial, hle, hc⟩ := h1.cabinet_of_posted hz rfl hy (m := .withdraw) (fun j q m _ _ hm => by
        rw [visitCloseWork_note] at hm
        split at hm
        · exact (Option.some.inj hm).symm
        · cases hm) hp rfl (by rw [visitCloseWork_note, if_pos hpv])
      exact ⟨serial, hle, (hcabinet _).trans hc⟩
    · refine (hcabinet c).trans (h1.cabinet_of_none fun k p hp hpc => ?_)
      rw [visitCloseWork_note, if_neg fun hpv => hc k p hp hpv hpc]
    · rw [State.recompute_link]
      refine (congrArg (fun l : Link => { l with nextSerial := s.link.nextSerial }) hframe.link).trans h1.link
    · exact hframe.profiles.trans h1.profiles
    · exact hframe.ask.trans h1.ask
    · exact hframe.floor.trans h1.floor
    · exact hframe.images.trans h1.images
    · exact (congrArg (fun u => u.store.writer) hframe : s3.store.writer = s1.store.writer).trans h1.writer

end

namespace Sys2Proof.Machine

/-! ## Work in hand: which records are Retiring, and which items name them (R54)

`RetiringHeld` speaks of two things alone: for whom each record is Retiring, and the work lists of the open visits. -/

/-- The item is a REPLACE STRING in progress. -/
def Item.replaces (it : Item) : Bool := it.state == .inProgress && it.kind == .replaceString

theorem Item.replaces_iff (it : Item) : it.replaces = true ↔ it.state = .inProgress ∧ it.kind = .replaceString := by
  simp [Item.replaces]

theorem Item.live_iff (it : Item) : it.live = true ↔ it.state ≠ .done ∧ it.state ≠ .abandoned := by
  simp [Item.live]

theorem Item.live_of_inProgress {it : Item} (h : it.state = .inProgress) : it.live = true := by
  simp [Item.live, h]

/-- For whom the record is Retiring; `none` for a record that is not. -/
def StringRecord.hold (r : StringRecord) : Option (Option Nat) := if r.state = .retiring then some r.owner else none

theorem StringRecord.hold_some (r : StringRecord) (o : Option Nat) : r.hold = some o ↔ r.state = .retiring ∧ r.owner = o := by
  unfold StringRecord.hold
  split <;> simp [*]

theorem StringRecord.hold_none {r : StringRecord} (h : r.state ≠ .retiring) : r.hold = none := if_neg h

/-- For whom the record in slot `k` is Retiring. -/
def State.hold (s : State) (k : Nat) : Option (Option Nat) := (s.string? k).bind StringRecord.hold

/-- The work list of the visit in slot `v`: empty where none is open. -/
def State.workList (s : State) (v : Nat) : List Item := ((s.visit? v).map Visit.items).getD []

theorem State.workList_open {s : State} {v : Nat} {x : Visit} (h : s.visit? v = some x) : s.workList v = x.items := by
  rw [State.workList, h]; rfl

theorem State.workList_free {s : State} {v : Nat} (h : s.visit? v = none) : s.workList v = [] := by
  rw [State.workList, h]; rfl

theorem itemAt_nil (i : Nat) : itemAt [] i = none := by cases i <;> rfl

theorem mem_iff_itemAt {items : List Item} {a : Item} : a ∈ items ↔ ∃ i, itemAt items i = some a := by
  rw [List.mem_iff_getElem?]
  exact ⟨fun ⟨i, h⟩ => ⟨i + 1, h⟩, fun ⟨i, h⟩ => match i, h with
    | i + 1, h => ⟨i, h⟩⟩

theorem State.itemAt_workList {s : State} {v i : Nat} {a : Item} : itemAt (s.workList v) i = some a ↔
    ∃ x, s.visit? v = some x ∧ itemAt x.items i = some a := by
  cases hv : s.visit? v with
  | none => simp [State.workList_free hv, itemAt_nil]
  | some x => simp [State.workList_open hv]

/-- `hold` tells for whom each record is Retiring, `items` gives each visit's work list: the live items are distinct, and the
records in work are exactly those that the REPLACE STRING items in progress name. -/
structure WorkHeld (hold : Nat → Option (Option Nat)) (items : Nat → List Item) : Prop where
  distinct : ∀ v w i j a b, itemAt (items v) i = some a → itemAt (items w) j = some b → a.live = true → b.live = true →
    a.kind = b.kind → a.target = b.target → v = w ∧ i = j
  held : ∀ v i a, itemAt (items v) i = some a → a.replaces = true → hold a.target = some (some v)
  holder : ∀ k o, hold k = some o → ∃ v i a, itemAt (items v) i = some a ∧ a.replaces = true ∧ a.target = k

theorem State.retiringHeld_iff (s : State) : s.RetiringHeld ↔ WorkHeld s.hold s.workList := by
  have hold : ∀ k o, s.hold k = some o ↔ ∃ r, s.string? k = some r ∧ r.state = .retiring ∧ r.owner = o := fun k o => by
    rw [State.hold, Option.bind_eq_some_iff]
    exact exists_congr fun r => and_congr_right fun _ => r.hold_some o
  constructor
  · rintro ⟨hd, hh, ho⟩
    refine ⟨fun v w i j a b ha hb => ?_, fun v i a ha hr => ?_, fun k o hk => ?_⟩
    · obtain ⟨x, hx, ha⟩ := State.itemAt_workList.mp ha
      obtain ⟨y, hy, hb⟩ := State.itemAt_workList.mp hb
      exact hd v w x y i j a b hx hy ha hb
    · obtain ⟨x, hx, ha⟩ := State.itemAt_workList.mp ha
      obtain ⟨hs, hk⟩ := a.replaces_iff.mp hr
      exact (hold _ _).mpr (hh v x a hx (mem_iff_itemAt.mpr ⟨i, ha⟩) hs hk)
    · obtain ⟨r, hr, hs, -⟩ := (hold _ _).mp hk
      obtain ⟨v, x, a, hx, ha, sa, ka, rfl⟩ := ho k r hr hs
      obtain ⟨i, ha⟩ := mem_iff_itemAt.mp ha
      exact ⟨v, i, a, State.itemAt_workList.mpr ⟨x, hx, ha⟩, a.replaces_iff.mpr ⟨sa, ka⟩, rfl⟩
  · rintro ⟨hd, hh, ho⟩
    refine ⟨fun v w x y i j a b hx hy ha hb => ?_, fun v x a hx ha hs hk => ?_, fun k r hr hs => ?_⟩
    · exact hd v w i j a b (State.itemAt_workList.mpr ⟨x, hx, ha⟩) (State.itemAt_workList.mpr ⟨y, hy, hb⟩)
    · obtain ⟨i, ha⟩ := mem_iff_itemAt.mp ha
      exact (hold _ _).mp (hh v i a (State.itemAt_workList.mpr ⟨x, hx, ha⟩) (a.replaces_iff.mpr ⟨hs, hk⟩))
    · obtain ⟨v, i, a, ha, ra, rfl⟩ := ho k r.owner ((hold _ _).mpr ⟨r, hr, hs, rfl⟩)
      obtain ⟨x, hx, ha⟩ := State.itemAt_workList.mp ha
      obtain ⟨sa, ka⟩ := a.replaces_iff.mp ra
      exact ⟨v, x, a, hx, mem_iff_itemAt.mpr ⟨i, ha⟩, sa, ka, rfl⟩

/-- What a change to an item that takes no work up leaves of it. -/
structure Item.Settles (a b : Item) : Prop where
  kind : b.kind = a.kind
  target : b.target = a.target
  live : b.live = true → a.live = true
  replaces : b.replaces = true → a.replaces = true

theorem Item.Settles.refl (a : Item) : a.Settles a := ⟨rfl, rfl, id, id⟩

/-- Work ends, or stays: every item comes from an old one at its place, and a record is released exactly when the item that
held it no longer replaces it. -/
theorem WorkHeld.ends {hold hold' : Nat → Option (Option Nat)} {items items' : Nat → List Item} (h : WorkHeld hold items)
    (hfrom : ∀ v i b, itemAt (items' v) i = some b → ∃ a, itemAt (items v) i = some a ∧ a.Settles b)
    (hkept : ∀ k, hold' k = hold k ∨ hold' k = none ∧ ∃ v i a, itemAt (items v) i = some a ∧ a.replaces = true ∧ a.target = k ∧
      ∀ b, itemAt (items' v) i = some b → b.replaces = false)
    (hended : ∀ v i a, itemAt (items v) i = some a → a.replaces = true →
      hold' a.target = none ∨ ∃ b, itemAt (items' v) i = some b ∧ b.replaces = true ∧ b.target = a.target) :
    WorkHeld hold' items' := by
  refine ⟨fun v w i j a b ha hb la lb hk ht => ?_, fun v i b hb hr => ?_, fun k o hk => ?_⟩
  · obtain ⟨a', ha', ea⟩ := hfrom v i a ha
    obtain ⟨b', hb', eb⟩ := hfrom w j b hb
    exact h.distinct v w i j a' b' ha' hb' (ea.live la) (eb.live lb) (by rw [← ea.kind, ← eb.kind, hk])
      (by rw [← ea.target, ← eb.target, ht])
  · obtain ⟨a, ha, e⟩ := hfrom v i b hb
    have ra := e.replaces hr
    have hold_a := h.held v i a ha ra
    rw [e.target]
    rcases hkept a.target with hk | ⟨-, w, j, c, hc, rc, hct, hno⟩
    · rw [hk, hold_a]
    · obtain ⟨sa, ka⟩ := a.replaces_iff.mp ra
      obtain ⟨sc, kc⟩ := c.replaces_iff.mp rc
      obtain ⟨rfl, rfl⟩ := h.distinct w v j i c a hc ha (Item.live_of_inProgress sc) (Item.live_of_inProgress sa)
        (kc.trans ka.symm) hct
      rw [hno b hb] at hr
      cases hr
  · rcases hkept k with e | ⟨e, -⟩
    · obtain ⟨v, i, a, ha, ra, rfl⟩ := h.holder k o (e.symm.trans hk)
      rcases hended v i a ha ra with hn | ⟨b, hb, rb, ht⟩
      · rw [hk] at hn; cases hn
      · exact ⟨v, i, b, hb, rb, ht⟩
    · rw [hk] at e; cases e

/-- One live item is replaced by one of its kind and target: a REPLACE STRING holds its target exactly when it is in progress
after it. -/
theorem WorkHeld.set {hold hold' : Nat → Option (Option Nat)} {items items' : Nat → List Item} (h : WorkHeld hold items)
    {v n : Nat} {a b : Item} (ha : itemAt (items v) n = some a) (hl : a.live = true) (hk : b.kind = a.kind)
    (ht : b.target = a.target) (hitems : ∀ w i, itemAt (items' w) i = if w = v ∧ i = n then some b else itemAt (items w) i)
    (hhold : ∀ k, hold' k = if a.kind = .replaceString ∧ k = a.target then
      (if b.state = .inProgress then some (some v) else none) else hold k) : WorkHeld hold' items' := by
  have hfrom : ∀ w i c, itemAt (items' w) i = some c → ∃ d, itemAt (items w) i = some d ∧ c.kind = d.kind ∧ c.target = d.target ∧
      d.live = true ∨ itemAt (items w) i = some c := fun w i c hc => by
    rw [hitems] at hc
    split at hc
    · rename_i e
      obtain ⟨rfl, rfl⟩ := e
      cases hc
      exact ⟨a, .inl ⟨ha, hk, ht, hl⟩⟩
    · exact ⟨c, .inr hc⟩
  refine ⟨fun u w i j c d hc hd lc ld ek et => ?_, fun w i c hc hr => ?_, fun k o hko => ?_⟩
  · obtain ⟨c', hc', ekc, etc, lc'⟩ : ∃ c', itemAt (items u) i = some c' ∧ c.kind = c'.kind ∧ c.target = c'.target ∧ c'.live = true := by
      obtain ⟨c', e | e⟩ := hfrom u i c hc
      · exact ⟨c', e⟩
      · exact ⟨c, e, rfl, rfl, lc⟩
    obtain ⟨d', hd', ekd, etd, ld'⟩ : ∃ d', itemAt (items w) j = some d' ∧ d.kind = d'.kind ∧ d.target = d'.target ∧ d'.live = true := by
      obtain ⟨d', e | e⟩ := hfrom w j d hd
      · exact ⟨d', e⟩
      · exact ⟨d, e, rfl, rfl, ld⟩
    exact h.distinct u w i j c' d' hc' hd' lc' ld' (by rw [← ekc, ← ekd, ek]) (by rw [← etc, ← etd, et])
  · obtain ⟨sc, kc⟩ := c.replaces_iff.mp hr
    rw [hitems] at hc
    rw [hhold]
    split at hc
    · rename_i e
      obtain ⟨rfl, rfl⟩ := e
      cases hc
      rw [if_pos ⟨hk ▸ kc, ht⟩, if_pos sc]
    · rename_i hne
      rw [if_neg, h.held w i c hc hr]
      rintro ⟨ka, et⟩
      exact hne (h.distinct w v i n c a hc ha (Item.live_of_inProgress sc) hl (kc.trans ka.symm) et)
  · rw [hhold] at hko
    split at hko
    · rename_i e
      split at hko
      · rename_i sb
        exact ⟨v, n, b, by rw [hitems, if_pos ⟨rfl, rfl⟩], b.replaces_iff.mpr ⟨sb, hk.trans e.1⟩, ht.trans e.2.symm⟩
      · cases hko
    · rename_i hne
      obtain ⟨w, i, c, hc, rc, rfl⟩ := h.holder k o hko
      refine ⟨w, i, c, ?_, rc, rfl⟩
      rw [hitems, if_neg, hc]
      rintro ⟨rfl, rfl⟩
      cases ha.symm.trans hc
      exact hne ⟨(a.replaces_iff.mp rc).2, rfl⟩

/-- A live REPLACE STRING that is not in progress holds nothing: its target is Retiring for no one. -/
theorem WorkHeld.not_held {hold : Nat → Option (Option Nat)} {items : Nat → List Item} (h : WorkHeld hold items) {v n : Nat}
    {a : Item} (ha : itemAt (items v) n = some a) (hl : a.live = true) (hk : a.kind = .replaceString) (hs : a.state ≠ .inProgress) :
    hold a.target = none := by
  cases he : hold a.target with
  | none => rfl
  | some o =>
    obtain ⟨w, i, b, hb, rb, ht⟩ := h.holder _ _ he
    obtain ⟨sb, kb⟩ := b.replaces_iff.mp rb
    obtain ⟨rfl, rfl⟩ := h.distinct w v i n b a hb ha (Item.live_of_inProgress sb) hl (kb.trans hk.symm) ht
    cases ha.symm.trans hb
    exact absurd sb hs

/-- A waiting item joins the work list of `v`: no live item agrees with it in kind and target. -/
theorem WorkHeld.add {hold : Nat → Option (Option Nat)} {items items' : Nat → List Item} (h : WorkHeld hold items) {v : Nat} {a : Item}
    (hs : a.state = .pending) (hnew : ∀ w i b, itemAt (items w) i = some b → b.live = true → b.kind = a.kind → b.target ≠ a.target)
    (hitems : ∀ w i, itemAt (items' w) i = if w = v ∧ i = (items v).length + 1 then some a else itemAt (items w) i) :
    WorkHeld hold items' := by
  have hno : a.replaces = false := by simp [Item.replaces, hs]
  have hlast : itemAt (items v) ((items v).length + 1) = none := List.getElem?_eq_none le_rfl
  refine ⟨fun u w i j c d hc hd lc ld ek et => ?_, fun w i c hc hr => ?_, fun k o hk => ?_⟩
  · rw [hitems] at hc hd
    split at hc <;> split at hd
    · rename_i e e'
      exact ⟨e.1.trans e'.1.symm, e.2.trans e'.2.symm⟩
    · cases hc
      exact absurd et.symm (hnew w j d hd ld ek.symm)
    · cases hd
      exact absurd et (hnew u i c hc lc ek)
    · exact h.distinct u w i j c d hc hd lc ld ek et
  · rw [hitems] at hc
    split at hc
    · cases hc; rw [hno] at hr; cases hr
    · exact h.held w i c hc hr
  · obtain ⟨w, i, c, hc, rc, ht⟩ := h.holder k o hk
    refine ⟨w, i, c, ?_, rc, ht⟩
    rw [hitems, if_neg, hc]
    rintro ⟨rfl, rfl⟩
    rw [hlast] at hc; cases hc

end Sys2Proof.Machine

namespace Sys2Proof.Machine

/-! ## What leaves the records and the visits alone -/

/-- The String Table and the open visits: all that the invariant speaks of. -/
def State.work (s : State) : List (Option StringRecord) × List (Option Visit) := (s.strings, s.visits)

theorem State.work_eq {s t : State} (hs : t.strings = s.strings) (hv : t.visits = s.visits) : t.work = s.work := by
  rw [State.work, State.work, hs, hv]

theorem State.RetiringHeld.of_work {s t : State} (h : s.RetiringHeld) (e : t.work = s.work) : t.RetiringHeld := by
  obtain ⟨hs, hv⟩ := Prod.mk.inj e
  have h1 : t.string? = s.string? := by unfold State.string?; rw [hs]
  have h2 : t.visit? = s.visit? := by unfold State.visit?; rw [hv]
  obtain ⟨hd, hh, ho⟩ := h
  exact ⟨by rw [State.ItemsDistinct, h2]; exact hd, by rw [h1, h2]; exact hh, by rw [h1, h2]; exact ho⟩

theorem State.work_foldl {α : Type} {f : State → α → State} (hf : ∀ s a, (f s a).work = s.work) (l : List α) (s : State) :
    (l.foldl f s).work = s.work := by
  induction l generalizing s with
  | nil => rfl
  | cons a l ih => exact (ih _).trans (hf s a)

theorem State.PermitFrame.work {s t : State} (h : s.PermitFrame t) : t.work = s.work := State.work_eq h.strings h.visits

theorem State.PermitsPassed.work {s t : State} {n : Nat} {out : Permit → PermitWork} (h : s.PermitsPassed t n out) :
    t.work = s.work := State.work_eq h.strings h.visits

section
variable (s : State)

theorem State.post_work (c : Nat) (n : Notice) : (s.post c n).work = s.work := (s.permitFrame_post c n).work

theorem State.retract_work (c : Nat) (n : Notice) : (s.retract c n).work = s.work := by
  unfold State.retract
  split <;> rfl

theorem State.setPulse_work (c pos : Nat) : (s.setPulse c pos).work = s.work := by
  unfold State.setPulse
  split <;> rfl

theorem State.setEntryOf_work (c group rated : Nat) : (s.setEntryOf c group rated).work = s.work := by
  unfold State.setEntryOf
  dsimp only
  split <;> rfl

theorem State.recallPermit_work (k : Nat) (p : Permit) : (s.recallPermit k p).work = s.work := s.post_work _ _

theorem State.endAsk_work (res : ResultCode) : (s.endAsk res).work = s.work := by
  rw [State.endAsk_eq]; rfl

theorem State.judgeAsk_work (a : Ask) : (s.judgeAsk a).work = s.work := by
  unfold State.judgeAsk
  dsimp only
  split
  · rfl
  · split
    · rfl
    · split
      · rfl
      · split
        · rfl
        · split
          · rfl
          · exact State.post_work _ _ _

theorem State.judgeIfSettled_work : s.judgeIfSettled.work = s.work := by
  unfold State.judgeIfSettled
  split
  · rfl
  · split
    · exact s.judgeAsk_work _
    · rfl

theorem State.settleWait_work (c : Nat) : (s.settleWait c).work = s.work := by
  unfold State.settleWait
  split
  · rfl
  · exact State.judgeIfSettled_work _

theorem State.releaseWait_work (c : Nat) (f : Flight) : (s.releaseWait c f).work = s.work := by
  unfold State.releaseWait
  split
  · exact s.settleWait_work c
  · rfl

theorem State.askReport_work (c : Nat) (m : Mode) (f : Flight) : (s.askReport c m f).work = s.work := by
  unfold State.askReport
  split
  · exact s.endAsk_work _
  · exact s.releaseWait_work c f

theorem State.acceptUtility_work (u : UtilityState) : (s.acceptUtility u).work = s.work := by
  by_cases hu : u = .lost
  · subst hu
    obtain ⟨v, hv, hp, -⟩ := s.acceptLost_passed
    rw [hv, State.endAsk_work]
    exact hp.work
  · rw [State.acceptUtility_other s hu]; rfl

theorem State.passTime_work (ms : Nat) : (s.passTime ms).work = s.work := by
  unfold State.passTime
  split
  · rw [State.judgeFilter_eq]
    split
    · exact State.acceptUtility_work _ _
    · rfl
  · rfl
  · rfl

theorem State.takeUrgent_work : s.takeUrgent.work = s.work := by
  unfold State.takeUrgent
  split
  · rfl
  · rename_i o _
    cases o with
    | hold => exact State.endAsk_work _ _
    | release => rfl
    | recallAll =>
      obtain ⟨v, hv, hp, -⟩ := State.recallAll_passed ({ s with port := { s.port with urgent := none } } : State)
      rw [State.runOrder, hv]
      exact hp.work

theorem State.formPoll_work : s.formPoll.work = s.work := by
  unfold State.formPoll
  split
  · rfl
  · split <;> rfl

theorem State.failPoll_work (c : Nat) (x : Cabinet) : (s.failPoll c x).work = s.work := by
  unfold State.failPoll
  dsimp only
  split
  · exact State.settleWait_work _ _
  · rfl

theorem State.pollFails_work : s.pollFails.work = s.work := by
  unfold State.pollFails
  split
  · rfl
  · split
    · rfl
    · split
      · exact State.failPoll_work _ _ _
      · rfl

theorem State.judgeBypass_work (c : Nat) (m : Mode) (named : Bool) : (s.judgeBypass c m named).work = s.work := by
  unfold State.judgeBypass
  split
  · rfl
  · split
    · split <;> rfl
    · rfl
    · rfl

theorem State.enterBypass_work (k : Nat) (p : Permit) : (s.enterBypass k p).work = s.work := by
  unfold State.enterBypass
  split <;> rfl

theorem State.clearOverrun_work : s.clearOverrun.work = s.work := by
  unfold State.clearOverrun
  split <;> rfl

theorem State.frameEvent_work (n : Nat) (tail : State → List Byte) {act : State → State} (ha : ∀ u, (act u).work = u.work) :
    (s.frameEvent n tail act).work = s.work := by
  unfold State.frameEvent
  split
  · rw [State.openFrame_eq]
    exact ha _
  · rfl
  · rfl

theorem State.writeConfig_work (c : FloorConfig) : (s.writeConfig c).work = s.work := by
  rw [State.writeConfig]
  unfold State.filterAfterWrite
  split
  · exact State.acceptUtility_work _ _
  · rfl

theorem State.endRunningWrite_work (o : WriteOutcome) : (s.endRunningWrite o).work = s.work := by
  unfold State.endRunningWrite
  split
  · rfl
  · split <;> rfl

theorem State.endResetWrite_work (o : WriteOutcome) : (s.endResetWrite o).work = s.work := by
  unfold State.endResetWrite
  split <;> rfl

end

/-! ## What the stages leave of the hold -/

theorem StringRecord.restated_retiring (p : Option Profile) (r : StringRecord) :
    r.restated p = .retiring ↔ r.state = .retiring := by
  unfold StringRecord.restated
  split
  · rfl
  · rename_i h
    simp only [(derivedState_ne p r.suspect r.soh).1, false_iff]
    exact fun e => h (.inl e)

/-- A change of a record's figures alone leaves open for whom it is Retiring. -/
theorem StringRecord.hold_congr {r q : StringRecord} (hs : q.state = .retiring ↔ r.state = .retiring) (ho : q.owner = r.owner) :
    q.hold = r.hold := by
  simp only [StringRecord.hold, hs, ho]

theorem StringRecord.weighed_hold (p : Profile) (r : StringRecord) : (r.weighed p).hold = r.hold :=
  StringRecord.hold_congr (StringRecord.restated_retiring _ _) rfl

theorem stage5_hold (p : Profile) (w : Work) : (stage5 p w).r.hold = w.r.hold := by
  rw [stage5_r, StringRecord.weighed_hold]

theorem stage4_hold (p : Profile) (w : Work) : (stage4 p w).r.hold = w.r.hold := stage5_hold p _

theorem idleBucketCharge_hold (p : Profile) (w : Work) : (idleBucketCharge p w).r.hold = w.r.hold := by
  unfold idleBucketCharge
  split
  · exact stage5_hold p _
  · rfl

theorem afterProfileWrite_hold (p : Profile) (w : Work) : (afterProfileWrite p w).r.hold = w.r.hold :=
  (stage4_hold p _).trans (idleBucketCharge_hold p w)

theorem closeEvent_hold (p : Option Profile) (w : Work) : (closeEvent p w).r.hold = w.r.hold := by
  unfold closeEvent
  split
  · rfl
  · split
    · rfl
    · exact stage5_hold _ _

theorem reanchor_hold (p : Option Profile) (measured : Nat) (w : Work) : (reanchor p measured w).r.hold = w.r.hold := by
  unfold reanchor
  split
  · rfl
  · exact stage5_hold _ _

theorem setBaseline_hold (p : Option Profile) (result : Nat) (w : Work) : (setBaseline p result w).r.hold = w.r.hold := by
  unfold setBaseline
  split
  · rfl
  · split
    · rfl
    · exact stage4_hold _ _

theorem stage1_hold (p : Profile) (z : Int) (w : Work) : (stage1 p z w).r.hold = w.r.hold := by
  unfold stage1
  dsimp only
  split
  · exact stage5_hold p _
  · rfl

theorem countCalendarMinute_hold (s : State) (p : Option Profile) (w : Work) : (countCalendarMinute s p w).r.hold = w.r.hold := by
  unfold countCalendarMinute
  split
  · rfl
  · split
    · exact stage1_hold _ _ w
    · rfl

theorem countSinceR_hold (w : Work) : (countSinceR w).r.hold = w.r.hold := by
  unfold countSinceR
  split <;> rfl

theorem tickWork_hold (s : State) (p : Option Profile) (r : StringRecord) : (tickWork s p r).r.hold = r.hold :=
  (countSinceR_hold _).trans (countCalendarMinute_hold s p _)

theorem openEvent_hold (p : Option Profile) (old new : Mode) (b : Block) (w : Work) : (openEvent p old new b w).r.hold = w.r.hold := by
  unfold openEvent
  split <;> rfl

theorem takeResistance_hold (p : Option Profile) (b : Block) (w : Work) : (takeResistance p b w).r.hold = w.r.hold := by
  unfold takeResistance
  split
  · rfl
  · split
    · rfl
    · exact stage4_hold _ _

theorem takeDelta_hold (p : Option Profile) (isNew : Bool) (b : Block) (w : Work) : (takeDelta p isNew b w).r.hold = w.r.hold := by
  unfold takeDelta
  split
  · split
    · rfl
    · split
      · rfl
      · exact idleBucketCharge_hold _ _
  · rfl

theorem leaveBattery_hold (p : Option Profile) (old new : Mode) (w : Work) : (leaveBattery p old new w).r.hold = w.r.hold := by
  unfold leaveBattery
  split
  · exact closeEvent_hold p w
  · rfl

theorem intakeBlock_hold (old new : Mode) (isNew : Bool) (b : Block) (p : Option Profile) (w : Work) :
    (intakeBlock old new isNew b p w).r.hold = w.r.hold :=
  (leaveBattery_hold p old new _).trans ((takeDelta_hold p isNew b _).trans ((takeResistance_hold p b _).trans
    (openEvent_hold p old new b w)))

/-! ## The records and the work lists after a change -/

theorem State.hold_of_strings {s t : State} (h : t.strings = s.strings) : t.hold = s.hold := by
  funext k; rw [State.hold, State.hold, State.string?, h]; rfl

theorem State.workList_of_visits {s t : State} (h : t.visits = s.visits) : t.workList = s.workList := by
  funext k; rw [State.workList, State.workList, State.visit?, h]; rfl

theorem State.hold_commit {s : State} {k : Nat} {r : StringRecord} (h : s.string? k = some r) (w : Work) (j : Nat) :
    (s.commit k w).hold j = if j = k then w.r.hold else s.hold j := by
  rw [State.hold, State.string?, State.commit_eq]
  dsimp only
  rw [tget_tset_of_some _ _ _ _ _ h]
  split <;> rfl

theorem State.workOn_visits (s : State) (k : Nat) (f : Option Profile → Work → Work) : (s.workOn k f).visits = s.visits := by
  cases h : s.string? k with
  | none => rw [State.workOn_free k f s h]
  | some r => rw [State.workOn_record k f s r h, State.commit_eq]

theorem State.workList_workOn (s : State) (k : Nat) (f : Option Profile → Work → Work) : (s.workOn k f).workList = s.workList :=
  State.workList_of_visits (s.workOn_visits k f)

/-- Work that leaves a record's hold changes no record's. -/
theorem State.hold_workOn_of_stage (s : State) (k : Nat) {f : Option Profile → Work → Work}
    (hf : ∀ p w, (f p w).r.hold = w.r.hold) : (s.workOn k f).hold = s.hold := by
  cases h : s.string? k with
  | none => rw [State.workOn_free k f s h]
  | some r =>
    rw [State.workOn_record k f s r h]
    funext j
    rw [State.hold_commit h, hf]
    split
    · subst_vars; rw [State.hold, h]; rfl
    · rfl

/-- A record that is not Retiring in a slot that held none, or a free slot in its place, changes no record's hold. -/
theorem State.hold_setString {s t : State} {k : Nat} {q : Option StringRecord} (ht : t.strings = tset s.strings k q)
    (hk : s.hold k = none) (hq : q.bind StringRecord.hold = none) : t.hold = s.hold := by
  funext j
  rw [State.hold, State.string?, ht]
  rcases tget_tset_cases s.strings k j q with e | ⟨rfl, e⟩
  · rw [e]; rfl
  · rw [e, hq, hk]

theorem State.workList_setVisit {s t : State} {v : Nat} {x : Visit} (h : s.visit? v = some x) (y : Visit)
    (ht : t.visits = tset s.visits v (some y)) (w : Nat) : t.workList w = if w = v then y.items else s.workList w := by
  rw [State.workList, State.visit?, ht, tget_tset_of_some _ _ _ _ _ h]
  split <;> rfl

/-! ## The invariant carried by what changes no hold -/

section
variable {s : State}

/-- The holds and the work lists are all that the invariant speaks of. -/
theorem State.RetiringHeld.of_view (h : s.RetiringHeld) {t : State} (hh : t.hold = s.hold) (hw : t.workList = s.workList) :
    t.RetiringHeld := by
  rw [State.retiringHeld_iff, hh, hw]
  exact s.retiringHeld_iff.mp h

theorem State.RetiringHeld.workOn_stage (h : s.RetiringHeld) (k : Nat) {f : Option Profile → Work → Work}
    (hf : ∀ p w, (f p w).r.hold = w.r.hold) : (s.workOn k f).RetiringHeld :=
  h.of_view (s.hold_workOn_of_stage k hf) (s.workList_workOn k f)

theorem State.RetiringHeld.recompute (h : s.RetiringHeld) : s.recompute.RetiringHeld := h.of_work rfl

theorem State.RetiringHeld.foldl {α : Type} {f : State → α → State} (hf : ∀ t a, State.RetiringHeld t → (f t a).RetiringHeld) (l : List α)
    {s : State} (h : s.RetiringHeld) : (l.foldl f s).RetiringHeld := by
  induction l generalizing s with
  | nil => exact h
  | cons a l ih => exact ih (hf s a h)

theorem State.RetiringHeld.intake (h : s.RetiringHeld) (c : Nat) (old new : Mode) (isNew : Bool) (rep : Report) :
    (s.intake c old new isNew rep).RetiringHeld := by
  refine State.RetiringHeld.foldl (fun t pos ht => ?_) _ h
  unfold State.intakeAt
  split
  · exact ht
  · exact ht.workOn_stage _ (intakeBlock_hold old new isNew _)

theorem State.RetiringHeld.writeProfile (h : s.RetiringHeld) (n : Nat) (p : Profile) : (s.writeProfile n p).RetiringHeld := by
  refine (State.RetiringHeld.foldl (fun t k ht => ?_) _
    (h.of_work (t := (s.setProfile n (some p)).checkpoint (profileImage n)) rfl)).recompute
  unfold State.profileWriteOn
  split
  · exact ht
  · split
    · exact ht.workOn_stage _ fun _ => afterProfileWrite_hold p
    · exact ht

theorem State.RetiringHeld.handResult (h : s.RetiringHeld) (it : Item) (value : Nat) : (s.handResult it value).RetiringHeld := by
  unfold State.handResult
  split
  · exact h
  · exact h
  · exact (h.workOn_stage _ fun p => reanchor_hold p value).recompute
  · exact (h.workOn_stage _ fun p => setBaseline_hold p value).recompute

theorem State.RetiringHeld.tick (h : s.RetiringHeld) (hz : s.Sized) : s.tick.RetiringHeld := by
  have ht := State.tick_ticked hz
  refine h.of_view (funext fun k => ?_) (funext fun v => ?_)
  · rw [State.hold, State.hold, ht.strings]
    cases s.string? k with
    | none => rfl
    | some r => exact tickWork_hold s _ r
  · rw [State.workList, State.workList, ht.visits]
    cases s.visit? v <;> rfl

end

end Sys2Proof.Machine

namespace Sys2Proof.Machine

/-! ## One item of a visit is replaced -/

theorem itemAt_setItem {items : List Item} {n : Nat} {a : Item} (h : itemAt items n = some a) (b : Item) (i : Nat) :
    itemAt (setItem items n b) i = if i = n then some b else itemAt items i := by
  cases n with
  | zero => cases h
  | succ n =>
    cases i with
    | zero => rfl
    | succ i =>
      have hn : n < items.length := (List.getElem?_eq_some_iff.mp h).1
      show (items.set n b)[i]? = _
      rw [List.getElem?_set]
      by_cases hi : n = i
      · subst hi; simp [hn]
      · simp [hi, Ne.symm hi, itemAt]

theorem itemAt_map (f : Item → Item) (items : List Item) (i : Nat) : itemAt (items.map f) i = (itemAt items i).map f := by
  cases i with
  | zero => rfl
  | succ i => exact List.getElem?_map

theorem itemAt_concat (items : List Item) (b : Item) (i : Nat) :
    itemAt (items ++ [b]) i = if i = items.length + 1 then some b else itemAt items i := by
  cases i with
  | zero => rfl
  | succ i =>
    show (items ++ [b])[i]? = _
    simp only [Nat.add_right_cancel_iff]
    by_cases hi : i = items.length
    · subst hi; simp
    · rw [if_neg hi]
      rcases Nat.lt_or_gt_of_ne hi with h | h
      · exact List.getElem?_append_left h
      · show _ = items[i]?
        rw [List.getElem?_append_right h.le, List.getElem?_eq_none h.le, List.getElem?_eq_none (by simp; omega)]

theorem State.storeItem_some {s : State} {v : Nat} {x : Visit} (h : s.visit? v = some x) (n : Nat) (b : Item) :
    s.storeItem v n b = (s.setVisit v (some { x with items := setItem x.items n b })).checkpoint (visitImage v) := by
  rw [State.storeItem, h]

theorem State.storeItem_strings (s : State) (v n : Nat) (b : Item) : (s.storeItem v n b).strings = s.strings := by
  unfold State.storeItem
  split <;> rfl

section
variable {s : State}

/-- A live item of an open visit is replaced, with the work on its target done before. -/
theorem State.RetiringHeld.storeItem (h : s.RetiringHeld) {t : State} {v n : Nat} {x : Visit} {a : Item}
    (hit : s.itemOf v n = some (x, a)) (hl : a.live = true) {b : Item} (hk : b.kind = a.kind) (ht : b.target = a.target)
    (hv : t.visits = s.visits)
    (hh : ∀ k, t.hold k = if a.kind = .replaceString ∧ k = a.target then
      (if b.state = .inProgress then some (some v) else none) else s.hold k) : (t.storeItem v n b).RetiringHeld := by
  obtain ⟨hx, ha⟩ := State.itemOf_some hit
  have htx : t.visit? v = some x := by rw [State.visit?, hv]; exact hx
  rw [State.retiringHeld_iff, State.hold_of_strings (t.storeItem_strings v n b)]
  refine (s.retiringHeld_iff.mp h).set (v := v) (n := n) (a := a) (b := b) ?_ hl hk ht (fun w i => ?_) hh
  · rw [State.workList_open hx, ha]
  · rw [State.workList_setVisit htx { x with items := setItem x.items n b } (by rw [State.storeItem_some htx]; rfl)]
    by_cases hw : w = v
    · subst hw
      simp only [if_true, true_and, State.workList_open hx]
      exact itemAt_setItem ha b i
    · simp only [hw, if_false, false_and, State.workList_of_visits hv]

theorem State.itemCabinet_isSome {it : Item} (hk : it.kind ≠ .inspectCabinet) (h : (s.itemCabinet it).isSome = true) :
    ∃ r, s.string? it.target = some r := by
  rw [State.itemCabinet, if_neg hk] at h
  cases hr : s.string? it.target with
  | none => rw [hr] at h; cases h
  | some r => exact ⟨r, rfl⟩

/-- An item that passes the checks of VISIT START waits, and a target it works on exists (R145). -/
theorem State.startRefusal_none {v : Nat} {it : Item} (h : s.startRefusal v it = none) :
    (it.state = .pending ∨ it.state = .interrupted) ∧ (it.kind ≠ .inspectCabinet → (s.itemCabinet it).isSome = true) ∧
      (it.kind = .inspectCabinet → (s.cabinet? it.target).isSome = true) ∧
      (needsPermit it.kind = true → (s.workPermit v (s.itemCabinet it)).isSome = true) := by
  unfold State.startRefusal at h
  split at h
  · cases h
  · rename_i h1
    split at h
    · cases h
    · rename_i h2
      split at h
      · cases h
      · rename_i h3
        split at h
        · cases h
        · rename_i h4
          refine ⟨?_, fun hk => ?_, fun hk => ?_, fun hk => ?_⟩
          · by_contra hno
            exact h1 (not_or.mp hno)
          · exact Option.isSome_iff_ne_none.mpr fun e => h3 ⟨hk, by rw [e]; rfl⟩
          · exact Option.isSome_iff_ne_none.mpr fun e => h2 ⟨hk, by rw [e]; rfl⟩
          · exact Option.isSome_iff_ne_none.mpr fun e => h4 ⟨hk, by rw [e]; rfl⟩

theorem toRetiring_hold (v : Nat) (w : Work) : (toRetiring v w).r.hold = some (some v) := by
  simp [toRetiring, StringRecord.hold]

theorem State.RetiringHeld.visitStart (h : s.RetiringHeld) (b : List Byte) : (visitStart b s).1.RetiringHeld := by
  unfold Machine.visitStart
  dsimp only
  split
  · exact h
  · rename_i x it hit
    split
    · exact h
    · rename_i hr
      obtain ⟨hs, hc, -⟩ := State.startRefusal_none hr
      have hl : it.live = true := by rcases hs with e | e <;> simp [Item.live, e]
      refine h.storeItem hit hl rfl rfl ?_ fun k => ?_
      · split
        · exact s.workOn_visits _ _
        · rfl
      · by_cases hk : it.kind = .replaceString
        · obtain ⟨r, hr⟩ := State.itemCabinet_isSome (by rw [hk]; decide) (hc (by rw [hk]; decide))
          rw [if_pos hk]
          simp only [hk, true_and]
          show ((s.workOn it.target fun _ => toRetiring _).recompute).hold k = _
          rw [State.hold_of_strings (State.recompute_strings _), State.workOn_record _ _ _ _ hr, State.hold_commit hr, toRetiring_hold]
          rfl
        · rw [if_neg hk, if_neg fun e => hk e.1]


theorem State.handResult_visits (s : State) (it : Item) (value : Nat) : (s.handResult it value).visits = s.visits := by
  unfold State.handResult
  split
  · rfl
  · rfl
  · exact s.workOn_visits _ _
  · exact s.workOn_visits _ _

theorem retire_hold (p : Option Profile) (w : Work) : (retire p w).r.hold = none :=
  StringRecord.hold_none (by simp [retire])

theorem newRecord_hold (p : Profile) (c pos n day : Nat) (rb : Option Nat) : (newRecord p c pos n day rb).hold = none :=
  stage4_hold p _

theorem fromRetiring_hold (p : Option Profile) (w : Work) : (fromRetiring p w).r.hold = none := by
  unfold fromRetiring
  split
  · exact StringRecord.hold_none (by simpa using (derivedState_ne _ _ _).1)
  · exact StringRecord.hold_none ‹_›

theorem State.hold_free {k : Nat} (h : s.string? k = none) : s.hold k = none := by
  rw [State.hold, h]; rfl

theorem State.commit_strings (k : Nat) (w : Work) : (s.commit k w).strings = tset s.strings k (some w.r) := by
  rw [State.commit_eq]

theorem State.commit_visits (k : Nat) (w : Work) : (s.commit k w).visits = s.visits := by
  rw [State.commit_eq]

/-- A new record in a free slot holds nothing. -/
theorem State.hold_commission {k : Nat} (h : s.string? k = none) {r : StringRecord} (hr : r.hold = none) :
    (s.commission k r).hold = s.hold :=
  State.hold_setString (State.commit_strings k _) (State.hold_free h) hr

theorem State.RetiringHeld.stringCommission (h : s.RetiringHeld) (b : List Byte) : (stringCommission b s).1.RetiringHeld := by
  unfold Machine.stringCommission
  dsimp only
  split
  · exact h
  · split
    · split
      · exact h
      · split
        · exact h
        · split
          · exact h
          · rename_i k hk
            refine State.RetiringHeld.recompute (h.of_view (State.hold_commission (lowestFree_spec _ _ hk).2.2 ?_)
              (State.workList_of_visits (State.commit_visits k _)))
            exact newRecord_hold _ _ _ _ _ _
    · exact h

theorem State.RetiringHeld.finishReplace (h : s.RetiringHeld) {v n : Nat} {x : Visit} {it : Item}
    (hit : s.itemOf v n = some (x, it)) (hs : it.state = .inProgress) (hk : it.kind = .replaceString) (profileNo value : Nat) :
    (finishReplace v n profileNo value x it s).1.RetiringHeld := by
  unfold Machine.finishReplace
  split
  · exact h
  · split
    · exact h
    · split
      · exact h
      · rename_i p _ _ k hfree
        split
        · exact h
        · rename_i old hold
          split
          · exact h
          · rename_i c _
            have hfree : s.string? k = none := (lowestFree_spec _ _ hfree).2.2
            have hne : k ≠ it.target := fun e => by rw [← e, hfree] at hold; cases hold
            have hfree1 : (s.workOn it.target retire).string? k = none := by
              rw [State.workOn_record _ _ _ _ hold, State.string?, State.commit_strings, tget_tset_ne _ _ _ _ hne]
              exact hfree
            refine State.RetiringHeld.recompute (h.storeItem hit (Item.live_of_inProgress hs) rfl rfl ?_ fun j => ?_)
            · exact (State.commit_visits k _).trans (s.workOn_visits _ _)
            · rw [State.hold_commission hfree1 (newRecord_hold _ _ _ _ _ _), State.workOn_record _ _ _ _ hold,
                State.hold_commit hold, retire_hold]
              simp only [hk, true_and]
              rfl

theorem State.RetiringHeld.visitFinish (h : s.RetiringHeld) (b : List Byte) : (visitFinish b s).1.RetiringHeld := by
  unfold Machine.visitFinish
  dsimp only
  split
  · exact h
  · rename_i x it hit
    split
    · exact h
    · rename_i hs
      have hs : it.state = .inProgress := not_not.mp hs
      split
      · exact h.finishReplace hit hs ‹_› _ _
      · rename_i hk
        refine (h.handResult it _).storeItem (x := x) (a := it) ?_ (Item.live_of_inProgress hs) rfl rfl rfl fun k => ?_
        · rw [State.itemOf, State.visit?, State.handResult_visits]; exact hit
        · rw [if_neg fun e => hk e.1]

/-- A released target is Retiring for no one. -/
theorem State.hold_releaseTarget (s : State) (it : Item) (k : Nat) :
    (s.releaseTarget it).hold k = if it.replaces = true ∧ k = it.target then none else s.hold k := by
  unfold State.releaseTarget
  by_cases hr : it.replaces = true
  · rw [if_pos (it.replaces_iff.mp hr)]
    simp only [hr, true_and]
    cases ht : s.string? it.target with
    | none =>
      rw [State.workOn_free _ _ _ ht]
      split
      · subst_vars; exact State.hold_free ht
      · rfl
    | some r => rw [State.workOn_record _ _ _ _ ht, State.hold_commit ht, fromRetiring_hold]
  · rw [if_neg (it.replaces_iff.not.mp hr), if_neg fun e => hr e.1]

theorem State.releaseTarget_visits (s : State) (it : Item) : (s.releaseTarget it).visits = s.visits := by
  unfold State.releaseTarget
  split
  · exact s.workOn_visits _ _
  · rfl

theorem State.RetiringHeld.visitAbandon (h : s.RetiringHeld) (b : List Byte) : (visitAbandon b s).1.RetiringHeld := by
  unfold Machine.visitAbandon
  dsimp only
  split
  · exact h
  · rename_i x it hit
    split
    · rename_i hl
      refine h.storeItem hit hl rfl rfl (s.releaseTarget_visits it) fun k => ?_
      rw [State.hold_of_strings (State.recompute_strings _), State.hold_releaseTarget]
      obtain ⟨hx, ha⟩ := State.itemOf_some hit
      by_cases hr : it.replaces = true
      · obtain ⟨-, hk⟩ := it.replaces_iff.mp hr
        simp only [hr, hk, true_and]
        rfl
      · rw [if_neg fun e => hr e.1]
        split
        · rename_i e
          have hs : it.state ≠ .inProgress := fun hs => hr (it.replaces_iff.mpr ⟨hs, e.1⟩)
          rw [e.2]
          exact (s.retiringHeld_iff.mp h).not_held (by rw [State.workList_open hx, ha]) hl e.1 hs
        · rfl
    · exact h

/-! ### Slots and visits that come and go -/

/-- A record that no visit owns, and that no live item targets, is not Retiring. -/
theorem State.RetiringHeld.hold_of_no_item (h : s.RetiringHeld) {k : Nat} (hl : s.liveItemOn k = false) : s.hold k = none := by
  cases hk : s.hold k with
  | none => rfl
  | some o =>
    obtain ⟨v, i, a, ha, hr, ht⟩ := (s.retiringHeld_iff.mp h).holder k o hk
    obtain ⟨x, hx, ha⟩ := State.itemAt_workList.mp ha
    obtain ⟨hs, hkind⟩ := a.replaces_iff.mp hr
    have htarget : a.targetsString k = true := by simp [Item.targetsString, hkind, ht]
    rw [State.liveItemOn, List.any_eq_false] at hl
    have hno := hl (v, x) ((mem_entries _ _ _).mpr hx)
    rw [Bool.not_eq_true, List.any_eq_false] at hno
    refine absurd ?_ (hno a (mem_iff_itemAt.mpr ⟨i, ha⟩))
    rw [Item.live_of_inProgress hs, htarget]; rfl

theorem State.RetiringHeld.stringDrop (h : s.RetiringHeld) (b : List Byte) : (stringDrop b s).1.RetiringHeld := by
  unfold Machine.stringDrop
  dsimp only
  split
  · exact h
  · split
    · exact h
    · split
      · exact h
      · split
        · exact h
        · rename_i hl
          exact h.of_view (State.hold_setString rfl (h.hold_of_no_item (Bool.not_eq_true _ ▸ hl)) rfl) rfl

theorem State.RetiringHeld.visitOpen (h : s.RetiringHeld) (b : List Byte) : (visitOpen b s).1.RetiringHeld := by
  unfold Machine.visitOpen
  split
  · exact h
  · rename_i v hv
    refine h.of_view rfl (funext fun w => ?_)
    rw [State.workList, State.workList, State.visit?]
    rcases tget_tset_cases s.visits v w (some (newVisit (field b 0 4) s.floor.config.maxVisit s.floor.clock)) with e | ⟨rfl, e⟩
    · exact congrArg (fun o => (o.map Visit.items).getD []) e
    · have hfree : s.visit? w = none := (lowestFree_spec _ _ hv).2.2
      rw [hfree]
      exact congrArg (fun o => (o.map Visit.items).getD []) e

/-- No live item of an open visit agrees with a new one (R143, check 6). -/
theorem State.duplicateItem_false {k : ItemKind} {target : Nat} (h : s.duplicateItem k target = false) {w i : Nat} {a : Item}
    (ha : itemAt (s.workList w) i = some a) (hl : a.live = true) (hk : a.kind = k) : a.target ≠ target := by
  intro ht
  obtain ⟨x, hx, ha⟩ := State.itemAt_workList.mp ha
  rw [State.duplicateItem, List.any_eq_false] at h
  have hno := h (w, x) ((mem_entries _ _ _).mpr hx)
  rw [Bool.not_eq_true, List.any_eq_false] at hno
  refine absurd ?_ (hno a (mem_iff_itemAt.mpr ⟨i, ha⟩))
  simp [hl, hk, ht]

theorem State.RetiringHeld.visitAdd (h : s.RetiringHeld) (b : List Byte) : (visitAdd b s).1.RetiringHeld := by
  unfold Machine.visitAdd
  dsimp only
  split
  · exact h
  · rename_i x hx
    split
    · exact h
    · rename_i k _
      split
      · exact h
      · split
        · exact h
        · split
          · exact h
          · rename_i hd
            rw [State.retiringHeld_iff]
            refine (s.retiringHeld_iff.mp h).add (v := field b 0 1) (a := newItem k (field b 2 1)) rfl
              (fun w i a ha hl hk => State.duplicateItem_false (Bool.not_eq_true _ ▸ hd) ha hl hk) fun w i => ?_
            refine (congrArg (itemAt · i) (State.workList_setVisit hx _ rfl w)).trans ?_
            by_cases hw : w = field b 0 1
            · rw [if_pos hw, hw, State.workList_open hx]
              simp only [true_and]
              exact itemAt_concat _ _ _
            · rw [if_neg hw, if_neg fun e => hw e.1]

theorem abandonFreed_settles (freed : List Nat) (a : Item) :
    a.Settles (abandonFreed freed a) ∧ (a.state = .inProgress → abandonFreed freed a = a) := by
  rw [abandonFreed_eq]
  split
  · rename_i h
    refine ⟨⟨rfl, rfl, nofun, nofun⟩, fun e => ?_⟩
    rw [e] at h
    rcases h.2.2 with h | h <;> cases h
  · exact ⟨.refl a, fun _ => rfl⟩

/-- The passes of a VISIT CLOSE, for any state of the permits. -/
theorem State.closeVisit_passes (s : State) (v : Nat) : ∃ t u w : State, t.work = s.work ∧ t.SlotsFreed u (s.retiredOf v) ∧
    u.ItemsFreed w (s.retiredOf v) ((numbers Config.visitCount).filter (fun n => n != v)) ∧
    s.closeVisit v = ((w.setVisit v none).checkpoint (visitImage v)).recompute :=
  ⟨_, _, _, State.work_foldl (f := State.closeVisitPermit) (fun t e => ((State.PermitFrame.refl t).closePermit e.1).work) _ _,
    State.freeStrings_freed _ _,
    State.abandonIn_pass _ _ ((List.nodup_range' 1 : (numbers Config.visitCount).Nodup).filter _), rfl⟩

/-- The closed visit has no items left, and those of the others are as the freed slots leave them. -/
theorem State.ItemsFreed.workList {t w : State} {freed : List Nat} {v : Nat}
    (h : t.ItemsFreed w freed ((numbers Config.visitCount).filter (fun n => n != v))) (u i : Nat) :
    itemAt ((((w.setVisit v none).checkpoint (visitImage v)).recompute).workList u) i =
      if u = v then none else if u ∈ (numbers Config.visitCount).filter (fun n => n != v) then
        (itemAt (t.workList u) i).map (abandonFreed freed) else itemAt (t.workList u) i := by
  have hset : (((w.setVisit v none).checkpoint (visitImage v)).recompute).visit? u = if u = v then none else w.visit? u :=
    tget_tset_none _ _ _
  rw [State.workList, hset]
  split
  · exact itemAt_nil i
  · rw [h.visits, State.workList]
    split
    · cases t.visit? u with
      | none => simp [itemAt_nil]
      | some y => exact itemAt_map _ _ _
    · rfl

/-- Retired records that leave the table held nothing. -/
theorem State.SlotsFreed.hold {t u : State} (ht : t.strings = s.strings) {v : Nat} (h : t.SlotsFreed u (s.retiredOf v)) :
    u.hold = s.hold := by
  funext k
  rw [State.hold, h.strings]
  split
  · rename_i hk
    obtain ⟨r, hr, hs, -⟩ := State.mem_retiredOf.mp hk
    rw [State.hold, hr]
    exact (StringRecord.hold_none (by rw [hs]; decide)).symm
  · rw [State.string?, ht]; rfl

theorem State.RetiringHeld.closeVisit (h : s.RetiringHeld) {v : Nat} {x : Visit} (hx : s.visit? v = some x)
    (hb : s.closeBarred v x = false) : (s.closeVisit v).RetiringHeld := by
  have hidle : ∀ a ∈ x.items, a.state ≠ .inProgress := by
    rw [State.closeBarred, Bool.or_eq_false_iff, List.any_eq_false] at hb
    exact fun a ha => by simpa using hb.1 a ha
  obtain ⟨t, u, w, ht, hfreed, hitems, e⟩ := s.closeVisit_passes v
  obtain ⟨hstrings, hvisits⟩ := Prod.mk.inj ht
  have hlist : u.workList = s.workList := State.workList_of_visits (hfreed.visits.trans hvisits)
  have hhold : w.hold = s.hold := (State.hold_of_strings hitems.strings).trans (hfreed.hold hstrings)
  rw [e, State.retiringHeld_iff]
  refine (s.retiringHeld_iff.mp h).ends (fun j i b hb => ?_) (fun k => .inl (congrFun hhold k)) fun j i a ha hr => .inr ⟨a, ?_, hr, rfl⟩
  · rw [hitems.workList, hlist] at hb
    split at hb
    · cases hb
    · split at hb
      · obtain ⟨a, ha, rfl⟩ := Option.map_eq_some_iff.mp hb
        exact ⟨a, ha, (abandonFreed_settles _ a).1⟩
      · exact ⟨b, hb, .refl b⟩
  · have hs := (a.replaces_iff.mp hr).1
    rw [hitems.workList, hlist]
    split
    · rename_i hj
      rw [hj, State.workList_open hx] at ha
      exact absurd hs (hidle a (mem_iff_itemAt.mpr ⟨i, ha⟩))
    · split
      · rw [ha, Option.map_some, (abandonFreed_settles _ a).2 hs]
      · exact ha

theorem State.RetiringHeld.visitClose (h : s.RetiringHeld) (b : List Byte) : (visitClose b s).1.RetiringHeld := by
  unfold Machine.visitClose
  dsimp only
  split
  · exact h
  · rename_i x hx
    split
    · exact h
    · rename_i hb
      exact h.closeVisit hx (Bool.not_eq_true _ ▸ hb)

end

end Sys2Proof.Machine

namespace Sys2Proof.Machine

/-! ## The hand-over of a permit (R153) -/

section
variable {s : State}

theorem State.releaseTargets_visits (s : State) (k : Nat) (items : List Item) : (s.releaseTargets k items).visits = s.visits := by
  unfold State.releaseTargets
  induction items generalizing s with
  | nil => rfl
  | cons it items ih =>
    refine (ih _).trans ?_
    show (if it.holds k = true then s.releaseTarget it else s).visits = _
    split
    · exact s.releaseTarget_visits it
    · rfl

/-- Exactly the targets of the REPLACE STRING items that hold the permit are released. -/
theorem State.hold_releaseTargets (s : State) (k : Nat) (items : List Item) (j : Nat) :
    (s.releaseTargets k items).hold j =
      if ∃ it ∈ items, it.holds k = true ∧ it.replaces = true ∧ it.target = j then none else s.hold j := by
  unfold State.releaseTargets
  induction items generalizing s with
  | nil => simp
  | cons it items ih =>
    rw [List.foldl_cons, ih]
    by_cases hk : it.holds k = true
    · rw [if_pos hk, State.hold_releaseTarget]
      by_cases hr : it.replaces = true ∧ j = it.target
      · simp [hk, hr.1, hr.2]
      · have hr' : ¬(it.replaces = true ∧ it.target = j) := fun e => hr ⟨e.1, e.2.symm⟩
        simp only [List.mem_cons, exists_eq_or_imp, hk, true_and, hr, hr', if_false, false_or]
    · simp [hk]

theorem Item.holds_iff (it : Item) (k : Nat) : it.holds k = true ↔ it.state = .inProgress ∧ it.permit = some k := by
  simp [Item.holds]

theorem interruptItem_settles (k : Nat) (a : Item) : a.Settles (interruptItem k a) := by
  unfold interruptItem
  split
  · rename_i h
    exact ⟨rfl, rfl, fun _ => Item.live_of_inProgress ((a.holds_iff k).mp h).1, nofun⟩
  · exact .refl a

theorem State.RetiringHeld.interruptVisit (h : s.RetiringHeld) (k v : Nat) : (State.interruptVisit k s v).RetiringHeld := by
  unfold State.interruptVisit
  split
  · exact h
  · rename_i x hx
    split
    · have hvis : ((s.releaseTargets k x.items).visit? v) = some x := by rw [State.visit?, State.releaseTargets_visits]; exact hx
      generalize ht : ((((s.releaseTargets k x.items).setVisit v (some { x with items := x.items.map (interruptItem k) })).attend
        (raiseItemInterrupted v)).checkpoint (visitImage v)) = t
      have hhold : t.hold = (s.releaseTargets k x.items).hold := State.hold_of_strings (by rw [← ht]; rfl)
      have hlist : ∀ w i, itemAt (t.workList w) i = if w = v then (itemAt (s.workList w) i).map (interruptItem k)
          else itemAt (s.workList w) i := fun w i => by
        rw [State.workList_setVisit hvis { x with items := x.items.map (interruptItem k) } (by rw [← ht]; rfl),
          State.workList_of_visits (s.releaseTargets_visits k x.items)]
        split
        · subst_vars; rw [State.workList_open hx]; exact itemAt_map _ _ _
        · rfl
      rw [State.retiringHeld_iff]
      refine (s.retiringHeld_iff.mp h).ends (fun w i b hb => ?_) (fun j => ?_) fun w i a ha hr => ?_
      · rw [hlist] at hb
        split at hb
        · obtain ⟨a, ha, rfl⟩ := Option.map_eq_some_iff.mp hb
          exact ⟨a, ha, interruptItem_settles k a⟩
        · exact ⟨b, hb, .refl b⟩
      · rw [hhold, State.hold_releaseTargets]
        split
        · rename_i hj
          obtain ⟨a, ha, hk, hr, rfl⟩ := hj
          obtain ⟨i, ha⟩ := mem_iff_itemAt.mp ha
          refine .inr ⟨rfl, v, i, a, by rw [State.workList_open hx, ha], hr, rfl, fun b hb => ?_⟩
          rw [hlist, if_pos rfl, State.workList_open hx, ha] at hb
          cases hb
          rw [interruptItem, if_pos hk]; rfl
        · exact .inl rfl
      · rw [hhold, State.hold_releaseTargets]
        by_cases hw : w = v
        · subst hw
          rw [State.workList_open hx] at ha
          by_cases hk : a.holds k = true
          · exact .inl (if_pos ⟨a, mem_iff_itemAt.mpr ⟨i, ha⟩, hk, hr, rfl⟩)
          · refine .inr ⟨a, ?_, hr, rfl⟩
            rw [hlist, if_pos rfl, State.workList_open hx, ha, Option.map_some, interruptItem, if_neg hk]
        · exact .inr ⟨a, by rw [hlist, if_neg hw, ha], hr, rfl⟩
    · exact h

theorem State.RetiringHeld.interruptHolders (h : s.RetiringHeld) (k : Nat) : (s.interruptHolders k).RetiringHeld :=
  State.RetiringHeld.foldl (fun _ v ht => ht.interruptVisit k v) _ h

theorem State.RetiringHeld.reportOnPermit (h : s.RetiringHeld) (k : Nat) (p : Permit) (m : Mode) :
    (s.reportOnPermit k p m).RetiringHeld := by
  have hactive : (s.reportOnActive k p m).RetiringHeld := by
    unfold State.reportOnActive
    split
    · exact State.RetiringHeld.interruptHolders (h.of_work
        (t := ((s.setPermit k (some { p with state := .returning })).attend (raisePermitChanged k)).checkpoint (permitImage k)) rfl) k
    · exact h
  unfold State.reportOnPermit
  split
  · unfold State.reportOnGranted
    split
    · exact h.of_work ((State.retract_work _ _ _).trans (s.enterBypass_work k p))
    · exact h
  · exact hactive
  · exact hactive
  · unfold State.reportOnReturning
    split
    · exact h.of_work ((State.PermitFrame.refl s).closeRaising k).work
    · dsimp only
      split
      · exact h.of_work ((State.post_work _ _ _).trans (s.enterBypass_work k p))
      · exact h.of_work (s.enterBypass_work k p)
    · exact h

theorem State.RetiringHeld.permitReport (h : s.RetiringHeld) (c : Nat) (m : Mode) : (s.permitReport c m).RetiringHeld := by
  unfold State.permitReport
  split
  · exact h.of_work (s.judgeBypass_work c m false)
  · exact (h.reportOnPermit _ _ m).of_work (State.judgeBypass_work _ c m true)

theorem State.RetiringHeld.takeReport (h : s.RetiringHeld) (c : Nat) (x : Cabinet) (f : Flight) (rep : Report) :
    (s.takeReport c x f rep).RetiringHeld := by
  unfold State.takeReport
  dsimp only
  refine State.RetiringHeld.of_work (State.RetiringHeld.recompute (State.RetiringHeld.permitReport
    (State.RetiringHeld.intake (h.of_work ?_) c x.mode rep.givenMode (x.isNew rep) rep) c rep.givenMode)) (State.askReport_work _ _ _ _)
  split <;> rfl

theorem State.RetiringHeld.takeReply (h : s.RetiringHeld) (cs : List RxChar) : (s.takeReply cs).RetiringHeld := by
  unfold State.takeReply
  split
  · exact h
  · have hclosed : s.closeWindow.RetiringHeld := h.of_work rfl
    split
    · exact hclosed
    · split
      · split
        · exact hclosed.of_work (State.failPoll_work _ _ _)
        · exact hclosed.of_work (State.releaseWait_work _ _ _)
        · exact hclosed.takeReport _ _ _ _
      · exact hclosed

/-! ## Every command -/

theorem State.RetiringHeld.takeRequest (h : s.RetiringHeld) {code : Byte} {need : Nat} {f : RequestFrame}
    {handle : List Byte → State → State × Answer} (hh : ∀ b u, State.RetiringHeld u → (handle b u).1.RetiringHeld) :
    (s.takeRequest code need f handle).RetiringHeld := by
  unfold State.takeRequest State.frameEvent
  split
  · rw [State.openFrame_eq]
    refine State.RetiringHeld.of_work (s := (s.withPort s.openedPort).judgeRequest code need f handle) ?_ rfl
    have h1 : (s.withPort s.openedPort).RetiringHeld := h.of_work rfl
    unfold State.judgeRequest
    split
    · have h2 := h1.of_work (State.clearOverrun_work _)
      dsimp only
      split
      · unfold State.answer
        split
        · exact (hh _ _ h2).of_work rfl
        · exact (hh _ _ h2).of_work rfl
      · exact h2.of_work rfl
    · exact h1.of_work rfl
    · exact h1.of_work rfl
    · exact h1.of_work rfl
  · exact h.of_work rfl
  · exact h.of_work rfl

/-- A request whose handling touches no record and no visit. -/
theorem State.takeRequest_work {code : Byte} {need : Nat} {f : RequestFrame}
    {handle : List Byte → State → State × Answer} (hh : ∀ b u, (handle b u).1.work = u.work) :
    (s.takeRequest code need f handle).work = s.work := by
  refine State.frameEvent_work s _ _ fun u => ?_
  unfold State.judgeRequest
  split
  · dsimp only
    split
    · unfold State.answer
      split
      · exact (hh _ _).trans u.clearOverrun_work
      · exact (hh _ _).trans u.clearOverrun_work
    · exact u.clearOverrun_work
  · rfl
  · rfl
  · rfl

theorem cabinetSet_work (b : List Byte) (u : State) : (cabinetSet b u).1.work = u.work := by
  unfold cabinetSet
  dsimp only
  split
  · exact u.setEntryOf_work _ _ _
  · rfl

theorem cabinetDrop_work (b : List Byte) (u : State) : (cabinetDrop b u).1.work = u.work := by
  unfold cabinetDrop
  dsimp only
  split
  · rfl
  · split
    · rfl
    · split <;> rfl

theorem cabinetRead_work (b : List Byte) (u : State) : (cabinetRead b u).1.work = u.work := by
  unfold cabinetRead
  dsimp only
  split
  · rfl
  · show (if _ then u else _).work = _
    split <;> rfl

theorem profileRead_work (b : List Byte) (u : State) : (profileRead b u).1.work = u.work := by
  unfold profileRead
  dsimp only
  split <;> rfl

theorem stringRead_work (b : List Byte) (u : State) : (stringRead b u).1.work = u.work := by
  unfold stringRead
  split <;> rfl

theorem stringPulse_work (b : List Byte) (u : State) : (stringPulse b u).1.work = u.work := by
  unfold stringPulse
  split
  · rfl
  · split
    · rfl
    · exact u.setPulse_work _ _

theorem permitAsk_work (b : List Byte) (u : State) : (permitAsk b u).1.work = u.work := by
  unfold permitAsk
  dsimp only
  split
  · rfl
  · split <;> rfl

theorem permitRead_work (b : List Byte) (u : State) : (permitRead b u).1.work = u.work := by
  unfold permitRead
  dsimp only
  split <;> rfl

theorem permitRecall_work (b : List Byte) (u : State) : (permitRecall b u).1.work = u.work := by
  unfold permitRecall
  dsimp only
  split
  · rfl
  · split
    · exact u.recallPermit_work _ _
    · rfl

theorem permitCancel_work (b : List Byte) (u : State) : (permitCancel b u).1.work = u.work := by
  unfold permitCancel
  dsimp only
  split
  · rfl
  · split
    · exact ((State.PermitFrame.refl u).closePermit _).work
    · rfl

theorem visitRead_work (b : List Byte) (u : State) : (visitRead b u).1.work = u.work := by
  unfold visitRead
  dsimp only
  split <;> rfl

theorem State.start_not_operating (cause : StartCause) (s : State) : (s.start cause).operating = false := by
  obtain ⟨out, h⟩ := State.start_passed cause s
  have hp : (s.start cause).port.state = .starting := by rw [h.port]; rfl
  simp [State.operating, hp]

/-- A command that an operating part takes keeps the invariant, or leaves the part not operating. -/
theorem exec_retiringHeld (i : Instr) (ho : s.operating = true) (hz : s.Sized) (h : s.RetiringHeld) :
    ∃ t, exec i s = .next t ∧ (t.operating = true → t.RetiringHeld) := by
  have hrun : s.phase = .running := (s.operating_iff.mp ho).1
  have frame : ∀ {n : Nat} {tail : State → List Byte} {act : State → State}, (∀ u, (act u).work = u.work) →
      (s.frameEvent n tail act).operating = true → (s.frameEvent n tail act).RetiringHeld :=
    fun ha _ => h.of_work (s.frameEvent_work _ _ ha)
  have calm : ∀ {code : Byte} {need : Nat} {f : RequestFrame} {handle : List Byte → State → State × Answer},
      (∀ b u, (handle b u).1.work = u.work) → (s.takeRequest code need f handle).operating = true →
      (s.takeRequest code need f handle).RetiringHeld := fun ha _ => h.of_work (State.takeRequest_work ha)
  cases i with
  | floorRead f => exact ⟨_, rfl, calm fun _ _ => rfl⟩
  | floorConfigWrite f => exact ⟨_, rfl, calm fun _ u => u.writeConfig_work _⟩
  | clockSet f => exact ⟨_, rfl, calm fun _ _ => rfl⟩
  | attentionRead f => exact ⟨_, rfl, calm fun _ _ => rfl⟩
  | cabinetSet f => exact ⟨_, rfl, calm cabinetSet_work⟩
  | cabinetDrop f => exact ⟨_, rfl, calm cabinetDrop_work⟩
  | cabinetRead f => exact ⟨_, rfl, calm cabinetRead_work⟩
  | profileWrite f =>
    refine ⟨_, rfl, fun _ => h.takeRequest fun b u hu => ?_⟩
    unfold profileWrite
    dsimp only
    split
    · exact hu.writeProfile _ _
    · exact hu
  | profileRead f => exact ⟨_, rfl, calm profileRead_work⟩
  | stringCommission f => exact ⟨_, rfl, fun _ => h.takeRequest fun b _ hu => hu.stringCommission b⟩
  | stringRead f => exact ⟨_, rfl, calm stringRead_work⟩
  | stringPulse f => exact ⟨_, rfl, calm stringPulse_work⟩
  | stringDrop f => exact ⟨_, rfl, fun _ => h.takeRequest fun b _ hu => hu.stringDrop b⟩
  | permitAsk f => exact ⟨_, rfl, calm permitAsk_work⟩
  | permitRead f => exact ⟨_, rfl, calm permitRead_work⟩
  | permitRecall f => exact ⟨_, rfl, calm permitRecall_work⟩
  | permitCancel f => exact ⟨_, rfl, calm permitCancel_work⟩
  | visitOpen f => exact ⟨_, rfl, fun _ => h.takeRequest fun b _ hu => hu.visitOpen b⟩
  | visitAdd f => exact ⟨_, rfl, fun _ => h.takeRequest fun b _ hu => hu.visitAdd b⟩
  | visitStart f => exact ⟨_, rfl, fun _ => h.takeRequest fun b _ hu => hu.visitStart b⟩
  | visitFinish f => exact ⟨_, rfl, fun _ => h.takeRequest fun b _ hu => hu.visitFinish b⟩
  | visitAbandon f => exact ⟨_, rfl, fun _ => h.takeRequest fun b _ hu => hu.visitAbandon b⟩
  | visitClose f => exact ⟨_, rfl, fun _ => h.takeRequest fun b _ hu => hu.visitClose b⟩
  | visitRead f => exact ⟨_, rfl, calm visitRead_work⟩
  | unknownRequest code f =>
    refine ⟨_, rfl, frame fun u => ?_⟩
    unfold State.judgeUnknown
    split
    · exact u.clearOverrun_work
    · rfl
    · rfl
    · rfl
  | statusPeek b => exact ⟨_, rfl, frame fun _ => rfl⟩
  | disregardedFrame b rest => exact ⟨_, rfl, frame fun _ => rfl⟩
  | fetch rest =>
    refine ⟨_, rfl, frame fun u => ?_⟩
    unfold State.judgeFetch
    split
    · split <;> rfl
    · rfl
  | urgent order rest =>
    refine ⟨_, rfl, frame fun u => ?_⟩
    unfold State.placeOrder
    split <;> rfl
  | urgentCancel rest =>
    refine ⟨_, rfl, frame fun u => ?_⟩
    unfold State.cancelOrder
    split <;> rfl
  | portReset rest => exact ⟨_, rfl, frame fun _ => rfl⟩
  | pollSlot orderFirst =>
    refine ⟨_, rfl, fun _ => h.of_work ?_⟩
    split
    · split
      · exact (State.formPoll_work _).trans s.takeUrgent_work
      · exact (State.takeUrgent_work _).trans s.formPoll_work
    · rfl
  | breakSlot =>
    refine ⟨_, rfl, fun _ => h.of_work ?_⟩
    split
    · exact State.takeUrgent_work _
    · rfl
  | idleSlot =>
    refine ⟨_, rfl, fun _ => h.of_work ?_⟩
    split
    · exact State.takeUrgent_work _
    · rfl
  | noReply => exact ⟨_, rfl, fun _ => h.of_work s.pollFails_work⟩
  | noReplyInTime => exact ⟨_, rfl, fun _ => h.of_work s.pollFails_work⟩
  | replyEnd chars => exact ⟨_, rfl, fun _ => h.takeReply _⟩
  | askWaitEnd => exact ⟨_, rfl, fun _ => h.of_work s.judgeIfSettled_work⟩
  | askEarlyEnd =>
    refine ⟨_, rfl, fun _ => h.of_work ?_⟩
    split
    · rfl
    · split
      · rfl
      · exact s.endAsk_work _
  | minuteTick =>
    refine ⟨_, rfl, fun _ => ?_⟩
    split
    · rw [if_pos ho]; exact h.tick hz
    · exact h
    · exact h
  | calendarStep slot =>
    refine ⟨_, rfl, fun _ => ?_⟩
    split
    · exact h
    · split
      · exact (h.workOn_stage _ (countCalendarMinute_hold s)).recompute
      · exact h
  | automaticPulse slot =>
    refine ⟨_, rfl, fun _ => ?_⟩
    split
    · exact h
    · rename_i r hr
      split
      · exact h
      · split
        · refine State.RetiringHeld.of_work (h.of_view (t := s.setString slot _) (funext fun k => ?_) rfl) (State.setPulse_work _ _ _)
          refine (congrArg (fun o => Option.bind o StringRecord.hold) (tget_tset_of_some _ _ k _ _ hr)).trans ?_
          split
          · subst_vars; rw [State.hold, hr]; rfl
          · rfl
        · exact h
  | grantTimeout slot =>
    refine ⟨_, rfl, fun _ => h.of_work ?_⟩
    split
    · rfl
    · split
      · exact ((State.PermitFrame.refl s).closeRaising slot).work
      · rfl
  | permitOverdue slot =>
    refine ⟨_, rfl, fun _ => h.of_work ?_⟩
    split
    · rfl
    · split <;> rfl
  | visitOvertime slot =>
    refine ⟨_, rfl, fun _ => ?_⟩
    split
    · exact h
    · rename_i x hx
      split
      · refine h.of_view rfl (funext fun w => ?_)
        rw [State.workList_setVisit hx { x with remaining := 0, overtime := true } rfl]
        split
        · subst_vars; rw [State.workList_open hx]
        · rfl
      · exact h
  | utilitySenseEdge high =>
    refine ⟨_, rfl, fun _ => h.of_work ?_⟩
    split <;> rfl
  | utilityChange => exact ⟨_, rfl, fun _ => h.of_work (s.passTime_work _)⟩
  | storeWriteBegin =>
    refine ⟨_, rfl, fun _ => h.of_work ?_⟩
    split <;> rfl
  | storeWriteEnd o =>
    refine ⟨_, rfl, fun _ => h.of_work ?_⟩
    split
    · exact s.endRunningWrite_work o
    · exact s.endResetWrite_work o
    · rfl
  | powerOn =>
    refine ⟨s.losePower.start .powerOn, ?_, fun ht => absurd ht (Bool.not_eq_true _ ▸ State.start_not_operating _ _)⟩
    rw [exec, execPowerOn, hrun]
  | powerLoss => exact ⟨_, exec_powerLoss (by rw [hrun]; decide), fun ht => by cases ht⟩
  | resetAssert o => exact ⟨_, exec_resetAssert hrun o, fun ht => by cases ht⟩
  | resetLine =>
    refine ⟨(s.enterReset .matched).completeWrite.start .resetLine, ?_,
      fun ht => absurd ht (Bool.not_eq_true _ ▸ State.start_not_operating _ _)⟩
    rw [exec, execResetLine, hrun]
  | firstUtilityJudgement =>
    refine ⟨_, rfl, fun _ => ?_⟩
    split
    · rename_i hp
      simp [State.operating, hp] at ho
    · exact h
  | floorClockSecond =>
    refine ⟨_, rfl, fun _ => h.of_work ?_⟩
    split <;> rfl
  | chipSelectAssertion =>
    refine ⟨_, rfl, fun _ => h.of_work ?_⟩
    split <;> rfl

end

end Sys2Proof.Machine

section
open Sys2Proof Sys2Proof.Machine

/-- Settles O14: every command leaves the records' holds and the visits' items as they were, or changes them together. -/
theorem stepKeepsRetiringHeld : Obligations.StepKeepsRetiringHeld := by
  intro s t hz ho h hstep hto
  unfold step at hstep
  split at hstep
  · cases hstep
    exact h.of_work (s.passTime_work 1)
  · rename_i c rest _
    obtain ⟨u, hu, hk⟩ := exec_retiringHeld (s := { s with pending := rest }) c ho
      (by obtain ⟨h1, h2, h3, h4, h5, h6, h7⟩ := hz; exact ⟨h1, h2, h3, h4, h5, h6, h7⟩) (h.of_work rfl)
    rw [hu] at hstep
    cases hstep
    exact hk hto

end

namespace Sys2Proof.Machine

/-! ## STRING DROP (R61) -/

theorem State.liveItemOn_iff (s : State) (k : Nat) : s.liveItemOn k = true ↔ ∃ v x it, s.visit? v = some x ∧ it ∈ x.items ∧
    it.live = true ∧ it.kind ≠ .inspectCabinet ∧ it.target = k := by
  simp only [State.liveItemOn, List.any_eq_true, Prod.exists, Bool.and_eq_true, Item.targetsString, bne_iff_ne, beq_iff_eq]
  constructor
  · rintro ⟨v, x, hx, it, hit, hl, hk, ht⟩
    exact ⟨v, x, it, (mem_entries _ _ _).mp hx, hit, hl, hk, ht⟩
  · rintro ⟨v, x, it, hx, hit, hl, hk, ht⟩
    exact ⟨v, x, (mem_entries _ _ _).mpr hx, it, hit, hl, hk, ht⟩

theorem stringDrop_record {b : List Byte} {s : State} {r : StringRecord} (h : s.string? (field b 0 1) = some r) :
    stringDrop b s = if r.attached = true ∨ r.owner.isSome = true ∨ s.liveItemOn (field b 0 1) = true
      then refuse .wrongState s else done [] (s.freeString (field b 0 1)) := by
  simp only [stringDrop, h]
  by_cases h1 : r.attached = true
  · rw [if_pos h1, if_pos (.inl h1)]
  · by_cases h2 : r.owner.isSome = true
    · rw [if_neg h1, if_pos h2, if_pos (.inr (.inl h2))]
    · by_cases h3 : s.liveItemOn (field b 0 1) = true
      · rw [if_neg h1, if_neg h2, if_pos h3, if_pos (.inr (.inr h3))]
      · rw [if_neg h1, if_neg h2, if_neg h3, if_neg fun e => e.elim h1 fun e => e.elim h2 h3]

/-! ## A new record (R58) -/

/-- The record of R58. -/
def freshRecord (p : Profile) (c pos n day : Nat) (rb : Option Nat) : StringRecord :=
  { cabinet := some c, position := pos, profile := n, day := day, rb := rb, r := 0, voltage := 0, current := 0,
    temperature := p.assumed, life := 0, m := 0, s := 0, bucket := 0, event := none, soh := 1000, resistanceIndicator := 1000,
    lifeIndicator := 1000, suspect := false, state := .good, sinceR := 0, owner := none }

/-- Without a resistance both indicators are 1000, and an SoH of 1000 is above every watch threshold. -/
theorem newRecord_eq {p : Profile} (hp : p.InRange) (c pos n day : Nat) (rb : Option Nat) :
    newRecord p c pos n day rb = freshRecord p c pos n day rb := by
  have hri : resistanceIndicatorOf p rb 0 = 1000 := by cases rb <;> rfl
  have hlife : lifeIndicatorOf 0 = 1000 := rfl
  have hgood : derivedState (some p) false 1000 = .good := if_pos (hp.watch.2.trans (by decide))
  show (stage4 p (startWork (freshRecord p c pos n day rb))).r = _
  rw [stage4, stage5_r]
  show ({ freshRecord p c pos n day rb with resistanceIndicator := resistanceIndicatorOf p rb 0 } : StringRecord).weighed p = _
  simp only [hri, freshRecord, StringRecord.weighed, StringRecord.restated, hlife, min_self, reduceCtorEq, or_self, if_false, hgood]

/-! ## The stages of a profile write (R48) -/

/-- The record once its idle bucket is charged by whole buckets at depth 100 (R84). -/
def StringRecord.bucketCharged (p : Profile) (r : StringRecord) : StringRecord :=
  if p.capacity ≤ r.bucket then
    ({ r with
      life := addLife r.life (r.bucket / p.capacity * cycleShare p 100 p.w1), bucket := r.bucket % p.capacity } : StringRecord).weighed p
  else r

theorem idleBucketCharge_eq (p : Profile) (r : StringRecord) : idleBucketCharge p (startWork r) =
    { r := r.bucketCharged p, changed := decide (r.state ≠ (r.bucketCharged p).state), save := decide (p.capacity ≤ r.bucket) } := by
  unfold idleBucketCharge StringRecord.bucketCharged
  by_cases h : p.capacity ≤ r.bucket
  · simp only [startWork_r, h, if_true, decide_true]
    rw [stage5_eq]
    exact Work.eq_of_fields rfl (Bool.false_or _) rfl
  · simp only [startWork_r, h, if_false, decide_false]
    exact Work.eq_of_fields rfl (decide_eq_false (not_not.mpr rfl)).symm rfl

/-- The record after a write of its profile: the charge, then both indicators, SoH and state anew. -/
def StringRecord.rewritten (p : Profile) (r : StringRecord) : StringRecord :=
  ({ r.bucketCharged p with
    resistanceIndicator := resistanceIndicatorOf p (r.bucketCharged p).rb (r.bucketCharged p).r } : StringRecord).weighed p

theorem afterProfileWrite_eq (p : Profile) (r : StringRecord) : afterProfileWrite p (startWork r) =
    { r := r.rewritten p
      changed := decide (r.state ≠ (r.bucketCharged p).state) || decide ((r.bucketCharged p).state ≠ (r.rewritten p).state)
      save := decide (p.capacity ≤ r.bucket) || decide ((r.bucketCharged p).state ≠ (r.rewritten p).state) } := by
  unfold afterProfileWrite stage4
  rw [idleBucketCharge_eq, stage5_eq]
  rfl

/-- What the charge leaves of a record: its life, its bucket, and what stage 5 forms of them. -/
theorem StringRecord.bucketCharged_fields (p : Profile) (r : StringRecord) : r.bucketCharged p = { r with
    life := if p.capacity ≤ r.bucket then addLife r.life (r.bucket / p.capacity * cycleShare p 100 p.w1) else r.life
    bucket := if p.capacity ≤ r.bucket then r.bucket % p.capacity else r.bucket
    lifeIndicator := (r.bucketCharged p).lifeIndicator, soh := (r.bucketCharged p).soh, state := (r.bucketCharged p).state } := by
  unfold StringRecord.bucketCharged
  by_cases h : p.capacity ≤ r.bucket
  · simp only [h, if_true]; rfl
  · simp only [h, if_false]

theorem StringRecord.bucketCharged_below {p : Profile} {r : StringRecord} (h : r.bucket < p.capacity) : r.bucketCharged p = r :=
  if_neg (by omega)

theorem StringRecord.bucketCharged_steady (p : Profile) (r : StringRecord) : r.Steady (r.bucketCharged p) := by
  unfold StringRecord.bucketCharged
  split
  · refine StringRecord.Steady.trans ?_ (StringRecord.weighed_steady _ _)
    exact ⟨rfl, rfl, rfl, .rfl⟩
  · exact .refl r

theorem StringRecord.bucketCharged_hold (p : Profile) (r : StringRecord) :
    (r.bucketCharged p).state = .retiring ↔ r.state = .retiring := by
  unfold StringRecord.bucketCharged
  split
  · exact StringRecord.restated_retiring _ _
  · rfl

theorem resistanceIndicatorOf_some {p : Profile} {b r rr : Nat} (hr : r ≠ 0) (h : rr = min (r * 1000 / b) 5000) :
    resistanceIndicatorOf p (some b) r = if rr ≤ 1000 then 1000 else 1000 - (rr - 1000) * 1000 / (p.reol - 1000) := by
  subst h
  exact if_neg hr

/-- The state a record has once its SoH is formed anew (R52, R88). -/
theorem StringRecord.restated_thresholds (p : Profile) (r : StringRecord) : r.restated (some p) =
    if r.state = .retiring ∨ r.state = .retired then r.state else if r.suspect = true then .suspect
      else if p.watch ≤ r.soh then .good else if p.replace ≤ r.soh then .watch else .due := rfl

theorem StringRecord.rewritten_state (p : Profile) (r : StringRecord) : (r.rewritten p).state =
    if r.state = .retiring ∨ r.state = .retired then r.state else if r.suspect = true then .suspect
      else if p.watch ≤ (r.rewritten p).soh then .good else if p.replace ≤ (r.rewritten p).soh then .watch else .due := by
  have hs : (r.bucketCharged p).suspect = r.suspect := by rw [StringRecord.bucketCharged_fields]
  refine (StringRecord.restated_thresholds p _).trans ?_
  show (if (r.bucketCharged p).state = .retiring ∨ (r.bucketCharged p).state = .retired then (r.bucketCharged p).state
    else if (r.bucketCharged p).suspect = true then StringState.suspect
      else if p.watch ≤ (r.rewritten p).soh then .good else if p.replace ≤ (r.rewritten p).soh then .watch else .due) = _
  rw [hs]
  by_cases h1 : r.state = .retiring
  · rw [if_pos (.inl ((r.bucketCharged_hold p).mpr h1)), if_pos (.inl h1), (r.bucketCharged_hold p).mpr h1, h1]
  · by_cases h2 : r.state = .retired
    · rw [if_pos (.inr ((r.bucketCharged_steady p).retired.mpr h2)), if_pos (.inr h2), (r.bucketCharged_steady p).retired.mpr h2, h2]
    · rw [if_neg (not_or.mpr ⟨(r.bucketCharged_hold p).not.mpr h1, (r.bucketCharged_steady p).retired.not.mpr h2⟩),
        if_neg (not_or.mpr ⟨h1, h2⟩)]

/-! ## A record of an Empty profile (R53) -/

/-- The record of an Empty profile with the readings and the resistance of a block taken (R63, R64). -/
def StringRecord.readEmpty (b : Block) (r : StringRecord) : StringRecord :=
  { r with
    voltage := b.voltage, current := b.current, temperature := clampInt (-200) 700 b.temperature
    r := if b.resistance = 0 then r.r else b.resistance
    sinceR := if b.resistance = 0 then r.sinceR else 0
    event := r.event.map (fun e => { e with lowest := min e.lowest b.voltage }) }

/-- No event opens, no stage runs and no delta is taken on an Empty profile (R53, R64 to R66). -/
theorem intakeBlock_empty (old new : Mode) (isNew : Bool) (b : Block) (r : StringRecord) :
    intakeBlock old new isNew b none (startWork r) = leaveBattery none old new (startWork (r.readEmpty b)) := by
  have ho : openEvent none old new b (startWork r) = startWork r := if_neg fun h => by cases h.2.2.1
  have ht : takeResistance none b (takeReadings b (startWork r)) = startWork (r.readEmpty b) := by
    unfold takeResistance StringRecord.readEmpty
    by_cases h : b.resistance = 0
    · simp only [h, if_true]; rfl
    · simp only [h, if_false]; rfl
  have hd : takeDelta none isNew b (startWork (r.readEmpty b)) = startWork (r.readEmpty b) := by
    unfold takeDelta
    split <;> rfl
  rw [intakeBlock, ho, ht, hd]

/-- An event held in a record of an Empty profile closes without a cycle step (R68). -/
theorem leaveBattery_empty (old new : Mode) (r : StringRecord) : leaveBattery none old new (startWork r) =
    { r := { r with event := if old = .battery ∧ new ≠ .battery then none else r.event }, changed := false
      save := decide (old = .battery ∧ new ≠ .battery) && r.event.isSome } := by
  unfold leaveBattery
  by_cases h : old = .battery ∧ new ≠ .battery
  · simp only [h, if_true, decide_true, Bool.true_and, ne_eq, not_false_eq_true, and_self]
    unfold closeEvent
    cases he : r.event with
    | none => simp only [startWork_r, he]; exact Work.eq_of_fields (by rw [startWork_r, ← he]) rfl rfl
    | some e => simp only [startWork_r, he]; rfl
  · simp only [h, if_false, decide_false, Bool.false_and]
    rfl

end Sys2Proof.Machine

section
open Sys2Proof Sys2Proof.Machine

/-- Settles O29: the checks of R61 in their order, then the freed slot. -/
theorem stringDropFreesTheSlot : Obligations.StringDropFreesTheSlot := by
  rintro f s k ht rfl
  refine ⟨fun hn => ?_, fun r hr hb => ?_, fun r hr hc ho hi => ?_⟩
  · have hfree : s.string? (field f.body 0 1) = none := by
      rcases hn with hn | ⟨hlen, hout⟩
      · exact hn
      · cases hs : s.string? (field f.body 0 1) with
        | none => rfl
        | some r => exact absurd (hlen ▸ tget_some _ _ _ hs) hout
    refine congrArg Host.Outcome.next (State.takeRequest_refused ht fun p => ?_)
    simp only [stringDrop, show (s.withPort p).string? (field f.body 0 1) = none from hfree]
  · refine congrArg Host.Outcome.next (State.takeRequest_refused ht fun p => ?_)
    refine (stringDrop_record (s := s.withPort p) hr).trans (if_pos (hb.imp_right (Or.imp_right ?_)))
    rintro ⟨v, x, it, hx, hit, hd, ha, hk, hkt⟩
    exact (State.liveItemOn_iff (s.withPort p) _).mpr ⟨v, x, it, hx, hit, it.live_iff.mpr ⟨hd, ha⟩, hk, hkt⟩
  · refine congrArg Host.Outcome.next (State.takeRequest_now (t := s.freeString (field f.body 0 1)) ht fun p => ?_)
    rw [stringDrop_record (s := s.withPort p) hr, if_neg]
    · rfl
    rintro (h | h | h)
    · rw [StringRecord.attached, hc] at h; cases h
    · rw [ho] at h; cases h
    · obtain ⟨v, x, it, hx, hit, hl, hk, hkt⟩ := (State.liveItemOn_iff (s.withPort p) _).mp h
      exact (hi v x it hx hit hk hkt).elim (it.live_iff.mp hl).1 (it.live_iff.mp hl).2

/-- Settles O27: past the checks, the new record is the one of R58. -/
theorem stringCommissionCreates : Obligations.StringCommissionCreates := by
  rintro f s c pos n k p ht rfl rfl rfl hc h1 h4 hp hpr ha hk
  obtain ⟨x, hx⟩ := Option.isSome_iff_exists.mp hc
  refine ⟨freshRecord p (field f.body 0 1) (field f.body 1 1) (field f.body 2 1) (field f.body 3 2) (baselineOf (field f.body 5 4)),
    rfl, ?_⟩
  generalize hr : freshRecord p (field f.body 0 1) (field f.body 1 1) (field f.body 2 1) (field f.body 3 2)
    (baselineOf (field f.body 5 4)) = r
  refine congrArg Host.Outcome.next (State.takeRequest_now (t := (s.commission k r).recompute) ht fun q => ?_)
  have hx' : (s.withPort q).cabinet? (field f.body 0 1) = some x := hx
  have hp' : (s.withPort q).profile? (field f.body 2 1) = some p := hp
  have ha' : (s.withPort q).stringAt (field f.body 0 1) (field f.body 1 1) = none := ha
  have hk' : lowestFree (s.withPort q).strings = some k := hk
  simp only [stringCommission, hx', inRange_true (count := Config.positionCount) h1 h4, if_true, hp', ha', Option.isSome_none,
    Bool.false_eq_true, if_false, hk', newRecord_eq hpr, hr]
  rw [blind_commission, blind_recompute]
  rfl

/-- Settles O53: each timed event at the last minute of its object. -/
theorem lastMinutesOfOneObject : Obligations.LastMinutesOfOneObject := by
  refine ⟨fun s k c r p x ho hr hp hc hx hs hd => ?_, fun s k p x ho hp hs ht hx => ?_, fun s k p ho hp hs hm => ?_,
    fun s v x ho hx hm => ?_⟩
  · have hdue : s.operating = true ∧ r.cabinet.isSome = true ∧ r.state ≠ .retired ∧ p.interval * 1440 ≤ r.sinceR + 1 :=
      ⟨ho, by rw [hc]; rfl, hs, hd.ge⟩
    have hsince : sinceAtPulse p r = p.interval * 1440 := by unfold sinceAtPulse; omega
    have hget : r.cabinet.getD 0 = c := by rw [hc]; rfl
    simp only [exec, execAutomaticPulse, hr, hp]
    rw [if_pos hdue, hsince, hget]
    exact congrArg Host.Outcome.next (State.setPulse_present (s := s.setString k _) hx _)
  · have hdue : s.operating = true ∧ p.state = .granted ∧ p.timeout.getD 0 ≤ 1 := ⟨ho, hs, by rw [ht]; exact le_rfl⟩
    simp only [exec, execGrantTimeout, hp, if_pos hdue, State.expireGrant, State.closeRaising]
    rw [State.closePermit_granted hp hs hx]
    rfl
  · simp only [exec, execPermitOverdue, hp, if_pos (show s.operating = true ∧ p.state = .active ∧ p.remaining ≤ 1 from ⟨ho, hs, hm.le⟩)]
    rfl
  · simp only [exec, execVisitOvertime, hx, if_pos (show s.operating = true ∧ x.remaining = 1 from ⟨ho, hm⟩)]
    rfl

/-- Settles O26: the stages of a profile write, and what an Empty profile leaves undone. -/
theorem ageingOfOneRecord : Obligations.AgeingOfOneRecord := by
  refine ⟨?_, ?_, fun m r => rfl, fun m p r => ⟨rfl, fun hm => if_neg hm⟩⟩
  · rintro p r q w hp rfl rfl
    rw [afterProfileWrite_eq]
    have hcharged := r.bucketCharged_fields p
    have hcap : 0 < p.capacity := hp.capacity.1
    have hri : (r.rewritten p).resistanceIndicator = resistanceIndicatorOf p r.rb r.r :=
      (congrArg (fun u : StringRecord => resistanceIndicatorOf p u.rb u.r) hcharged :)
    dsimp only
    refine ⟨?_, ?_, ?_, ?_, ?_, rfl, rfl, r.rewritten_state p, ?_, ?_, ?_, ?_⟩
    · exact (congrArg StringRecord.life hcharged :)
    · exact (congrArg StringRecord.bucket hcharged :)
    · refine (congrArg StringRecord.bucket hcharged :).trans_lt ?_
      show (if p.capacity ≤ r.bucket then r.bucket % p.capacity else r.bucket) < _
      split
      · exact Nat.mod_lt _ hcap
      · omega
    · rintro (h | h)
      · rw [hri, h]; rfl
      · rw [hri, h]; cases r.rb <;> rfl
    · intro b rr hb hr hrr
      rw [hri, hb, resistanceIndicatorOf_some hr hrr]
      exact ⟨fun h => if_pos h, fun h => if_neg (by omega)⟩
    · exact congrArg (fun u : StringRecord => { u with
        life := (r.rewritten p).life, bucket := (r.rewritten p).bucket, resistanceIndicator := (r.rewritten p).resistanceIndicator
        lifeIndicator := (r.rewritten p).lifeIndicator, soh := (r.rewritten p).soh, state := (r.rewritten p).state }) hcharged
    · intro hne
      by_cases h : r.state = (r.bucketCharged p).state
      · rw [← h]; simp [hne.symm]
      · simp [h]
    · intro hb
      rw [StringRecord.bucketCharged_below hb]
      rw [Bool.or_eq_true_iff, decide_eq_true_iff, decide_eq_true_iff]
      exact ⟨fun h => h.elim (fun h => absurd rfl h) Ne.symm, fun h => .inr h.symm⟩
    · by_cases hb : p.capacity ≤ r.bucket
      · simp [hb]
      · rw [StringRecord.bucketCharged_below (by omega)]
        simp [hb]
  · rintro old new isNew b r w rfl
    rw [intakeBlock_empty, leaveBattery_empty]
    refine ⟨rfl, ?_, ?_⟩
    · show (decide _ && (r.event.map _).isSome) = true ↔ _
      rw [Option.isSome_map, Bool.and_eq_true, decide_eq_true_iff, and_assoc]
    · rfl

/-- Settles O52: the window of the record is closed, and its changes are carried out. -/
theorem calendarStepAges : Obligations.CalendarStepAges := by
  rintro s k r p total n rest a hp ho hr hpr hc hm rfl hdiv h0 hlt rfl
  obtain ⟨-, -, -, -, -, -, -, h1, h2⟩ := (s.countsMinute_iff r).mp hc
  have hwork : countCalendarMinute s (some p) (startWork r) = stage1 p (s.minuteTemperature p r) (startWork r) := if_pos hc
  have hshare : calendarShare p (r.s + s.minuteTemperature p r) = 1000000000 / p.life * clampNat 16 4096
      (if 0 ≤ n then 256 * (p.step + rest.toNat) / p.step * 2 ^ n.toNat
        else 256 * (p.step + rest.toNat) / p.step / 2 ^ (-n).toNat) / 256 := by
    have hstep : 0 < (p.step : Int) := by have := hp.step; omega
    obtain ⟨hq, hrest⟩ := (Int.ediv_emod_unique (a := (r.s + s.minuteTemperature p r) / 60 - p.tref) (r := rest) (q := n) hstep).mpr
      ⟨by rw [hdiv]; ring, h0, hlt⟩
    rw [calendarShare, acceleration, windowMean, hq, hrest]
  have hlife : (r.windowed p (s.minuteTemperature p r)).life = min (r.life + 1000000000 / p.life * clampNat 16 4096
      (if 0 ≤ n then 256 * (p.step + rest.toNat) / p.step * 2 ^ n.toNat
        else 256 * (p.step + rest.toNat) / p.step / 2 ^ (-n).toNat) / 256) 1500000000 := by
    rw [← hshare]; rfl
  have hrun : exec (.calendarStep k) s = .next (s.workOn k (countCalendarMinute s)).recompute := by
    simp only [exec, execCalendarStep, hr]
    rw [if_pos ⟨ho, hc, hm.ge⟩]
  rw [hrun, State.workOn_record _ _ _ _ hr, hpr, hwork, stage1_window h1 h2 hm.ge, State.commit_eq]
  refine ⟨_, r.windowed p (s.minuteTemperature p r), rfl, rfl, ?_, rfl, rfl, rfl, rfl, ?_, ?_, State.recompute_current _, rfl⟩
  · rw [← hlife]; rfl
  · show (if decide (r.state ≠ (r.windowed p (s.minuteTemperature p r)).state) = true then raiseStringChanged k s.attention
      else s.attention).stringStateChanged = _
    by_cases hst : (r.windowed p (s.minuteTemperature p r)).state = r.state
    · rw [if_pos hst, hst, if_neg (by simp)]
    · rw [if_neg hst, if_pos (decide_eq_true (Ne.symm hst))]; rfl
  · show { (if decide (r.state ≠ (r.windowed p (s.minuteTemperature p r)).state) = true then raiseStringChanged k s.attention
      else s.attention) with stringStateChanged := s.attention.stringStateChanged, marginShort := s.attention.marginShort } = s.attention
    split <;> rfl

end

namespace Sys2Proof.Machine

/-! ## VISIT START (R145, R146) -/

section
variable {s : State}

theorem State.workPermit_some {v c k : Nat} (h : s.workPermit v (some c) = some k) :
    ∃ p, s.permit? k = some p ∧ p.cabinet = c ∧ p.visit = some v ∧ (p.state = .active ∨ p.state = .overdue) := by
  obtain ⟨⟨j, p⟩, he, rfl⟩ := Option.map_eq_some_iff.mp h
  have hp := List.find?_some he
  simp only [Bool.and_eq_true, Bool.or_eq_true, beq_iff_eq, Option.some.injEq] at hp
  exact ⟨p, (mem_entries _ _ _).mp (List.mem_of_find?_eq_some he), hp.1.1, hp.1.2, hp.2⟩

theorem State.workPermit_none {v c k : Nat} {p : Permit} (h : s.workPermit v (some c) = none) (hp : s.permit? k = some p)
    (hc : p.cabinet = c) (hv : p.visit = some v) : p.state = .granted ∨ p.state = .returning := by
  have hno := List.find?_eq_none.mp (Option.map_eq_none_iff.mp h) (k, p) ((mem_entries _ _ _).mpr hp)
  simp only [hc, hv, Bool.and_eq_true, Bool.or_eq_true, beq_iff_eq, true_and] at hno
  cases hs : p.state with
  | granted => exact .inl rfl
  | active => exact absurd (.inl hs) hno
  | overdue => exact absurd (.inr hs) hno
  | returning => exact .inr rfl

theorem needsPermit_iff (k : ItemKind) : needsPermit k = true ↔ k ≠ .baseline := by
  cases k <;> simp [needsPermit]

/-- Past the checks of state and target, an item is refused exactly where the permit it needs is not found. -/
theorem State.startRefusal_permit {v : Nat} {it : Item} (hs : it.state = .pending ∨ it.state = .interrupted)
    (hc : it.kind = .inspectCabinet → (s.cabinet? it.target).isSome = true)
    (hr : it.kind ≠ .inspectCabinet → (s.itemCabinet it).isSome = true) : s.startRefusal v it =
      if it.kind ≠ .baseline ∧ s.workPermit v (s.itemCabinet it) = none then some .noPermit else none := by
  have h1 : ¬(it.state ≠ .pending ∧ it.state ≠ .interrupted) := fun h => hs.elim h.1 h.2
  have h2 : ¬(it.kind = .inspectCabinet ∧ (s.cabinet? it.target).isNone = true) := fun h => by
    have := hc h.1
    rw [Option.isNone_iff_eq_none.mp h.2] at this
    cases this
  have h3 : ¬(it.kind ≠ .inspectCabinet ∧ (s.itemCabinet it).isNone = true) := fun h => by
    have := hr h.1
    rw [Option.isNone_iff_eq_none.mp h.2] at this
    cases this
  rw [State.startRefusal, if_neg h1, if_neg h2, if_neg h3]
  simp only [needsPermit_iff, Option.isNone_iff_eq_none]

/-- The item started on the permit `k`, or on none for a BASELINE. -/
theorem State.startedItem_eq {v : Nat} {it : Item} {k : Option Nat}
    (h : (if it.kind = .baseline then none else s.workPermit v (s.itemCabinet it)) = k) :
    s.startedItem v it = { it with state := .inProgress, permit := k } := by
  subst h
  unfold State.startedItem
  by_cases hk : it.kind = .baseline
  · rw [if_pos hk, if_neg ((needsPermit_iff _).not.mpr (not_not.mpr hk))]
  · rw [if_neg hk, if_pos ((needsPermit_iff _).mpr hk)]

theorem visitStart_passes {b : List Byte} {x : Visit} {it : Item} (h : s.itemOf (field b 0 1) (field b 1 1) = some (x, it))
    (hr : s.startRefusal (field b 0 1) it = none) : visitStart b s = done (itemBody (s.startedItem (field b 0 1) it))
      ((if it.kind = .replaceString then (s.workOn it.target (fun _ => toRetiring (field b 0 1))).recompute else s).storeItem
        (field b 0 1) (field b 1 1) (s.startedItem (field b 0 1) it)) := by
  simp only [visitStart, h, hr]

/-- A start that passes its checks, on an item that is no REPLACE STRING. -/
theorem exec_visitStart_plain {f : RequestFrame} {x : Visit} {it : Item} {k : Option Nat} (ht : s.Takes 2 f)
    (hit : s.itemOf (field f.body 0 1) (field f.body 1 1) = some (x, it)) (hr : s.startRefusal (field f.body 0 1) it = none)
    (hk : it.kind ≠ .replaceString) (hp : (if it.kind = .baseline then none else s.workPermit (field f.body 0 1) (s.itemCabinet it)) = k) :
    exec (.visitStart f) s = .next { s with
      visits := tset s.visits (field f.body 0 1)
        (some { x with items := setItem x.items (field f.body 1 1) { it with state := .inProgress, permit := k } })
      store := { s.store with queue := enqueue (visitImage (field f.body 0 1)) s.store.queue }
      port := s.repliedPort f 0x42 .done (itemBody { it with state := .inProgress, permit := k }) } := by
  have hx := (State.itemOf_some hit).1
  refine congrArg Host.Outcome.next ((State.takeRequest_now (res := .done)
    (body := itemBody { it with state := .inProgress, permit := k })
    (t := s.storeItem (field f.body 0 1) (field f.body 1 1) { it with state := .inProgress, permit := k }) ht fun q => ?_).trans ?_)
  · rw [visitStart_passes (s := s.withPort q) hit hr, if_neg hk,
      show (s.withPort q).startedItem (field f.body 0 1) it = _ from State.startedItem_eq hp, blind_storeItem]
    rfl
  · rw [State.storeItem_some hx]
    rfl

theorem toRetiring_eq (v : Nat) (r : StringRecord) : toRetiring v (startWork r) =
    { r := { r with state := .retiring, owner := some v }, changed := decide (r.state ≠ .retiring), save := true } :=
  Work.eq_of_fields (takeState_r _ _) (takeState_changed _ _) rfl

/-! ## Work on one record and one item -/

/-- A request worked on the record in slot `k`, recomputed, and gave the visit in slot `v` the value `y`. -/
structure State.Served (s t : State) (v : Nat) (y : Visit) (k : Nat) (w : Work) : Prop where
  visits : t.visits = tset s.visits v (some y)
  strings : t.strings = tset s.strings k (some w.r)
  changed : t.attention.stringStateChanged =
    if w.changed = true then s.attention.stringStateChanged ||| markOf 64 k else s.attention.stringStateChanged
  attention : { t.attention with
    stringStateChanged := s.attention.stringStateChanged, marginShort := s.attention.marginShort } = s.attention
  queue : ∀ id, id ∈ t.store.queue ↔ id ∈ s.store.queue ∨ (w.save = true ∧ id = stringImage k) ∨ id = visitImage v
  images : t.store.images = s.store.images
  writer : t.store.writer = s.store.writer
  groups : t.groups = (numbers Config.groupCount).map (t.figures none)
  cabinets : t.cabinets = s.cabinets
  profiles : t.profiles = s.profiles
  permits : t.permits = s.permits
  ask : t.ask = s.ask
  floor : t.floor = s.floor
  link : t.link = s.link

/-- The state after the work, the recomputation, and the storing of the item. -/
def State.serve (s : State) (v n : Nat) (d : Item) (k : Nat) (w : Work) : State := ((s.commit k w).recompute).storeItem v n d

theorem State.served {v : Nat} {x : Visit} (hx : s.visit? v = some x) (n : Nat) (d : Item) (k : Nat) (w : Work) (p : Port) :
    s.Served { s.serve v n d k w with port := p } v { x with items := setItem x.items n d } k w := by
  have hv : ((s.commit k w).recompute).visit? v = some x := by
    rw [State.visit?, State.recompute_visits, State.commit_visits]; exact hx
  have e : s.serve v n d k w = (((s.commit k w).recompute).setVisit v
      (some { x with items := setItem x.items n d })).checkpoint (visitImage v) := State.storeItem_some hv n d
  rw [e, State.commit_eq]
  refine ⟨rfl, rfl, ?_, ?_, fun id => ?_, rfl, rfl, State.recompute_current _, rfl, rfl, rfl, rfl, rfl, rfl⟩
  · show (if w.changed = true then raiseStringChanged k s.attention else s.attention).stringStateChanged = _
    split <;> rfl
  · show { (if w.changed = true then raiseStringChanged k s.attention else s.attention) with
      stringStateChanged := s.attention.stringStateChanged, marginShort := s.attention.marginShort } = s.attention
    split <;> rfl
  · refine (mem_enqueue _ _ _).trans ?_
    rw [← or_assoc]
    refine or_congr_left ?_
    show id ∈ (if w.save = true then enqueue (stringImage k) s.store.queue else s.store.queue) ↔ _
    by_cases h : w.save = true <;> simp [h]

theorem blind_serve (v n : Nat) (d : Item) (k : Nat) (w : Work) : PortBlind (fun s => State.serve s v n d k w) :=
  PortBlind.comp (f := State.storeItem v n d) (blind_storeItem v n d)
    (PortBlind.comp (f := State.recompute) blind_recompute (blind_commit k w))

end

end Sys2Proof.Machine

section
open Sys2Proof Sys2Proof.Machine

/-- Settles O34: the permit the item needs, and the start past its checks. -/
theorem visitStartBeginsWork : Obligations.VisitStartBeginsWork := by
  rintro f s v n x it ht rfl rfl hit
  have hx := (State.itemOf_some hit).1
  refine ⟨fun h1 h2 => ?_, fun hs => ⟨fun r c hk hr hc => ?_, fun c hc hb hi => ⟨fun hp => ?_, fun k hp hk => ?_,
    fun k r w hp hk hr hw => ?_⟩⟩, fun c k h => State.workPermit_some h, fun c k p h hp hc hv => State.workPermit_none h hp hc hv, rfl⟩
  · exact congrArg Host.Outcome.next (State.takeRequest_refused ht fun p =>
      visitStart_refused (s := s.withPort p) hit (if_pos ⟨h1, h2⟩))
  · refine exec_visitStart_plain (k := none) ht hit ?_ (by rw [hk]; decide) (if_pos hk)
    rw [State.startRefusal_permit hs (fun h => by rw [hk] at h; cases h), if_neg fun h => h.1 hk]
    intro _
    rw [State.itemCabinet, if_neg (by rw [hk]; decide), hr, Option.bind_some, hc]; rfl
  all_goals
    have hperm := State.startRefusal_permit (s := s) (v := field f.body 0 1) hs (fun h => by
      rw [State.itemCabinet, if_pos h] at hc
      cases hc; exact hi h) fun _ => by rw [hc]; rfl
    rw [hc] at hperm
  · refine congrArg Host.Outcome.next (State.takeRequest_refused ht fun p =>
      visitStart_refused (s := s.withPort p) hit (hperm.trans (if_pos ⟨hb, hp⟩)))
  · refine exec_visitStart_plain (k := some k) ht hit (hperm.trans (if_neg fun h => ?_)) hk (by rw [if_neg hb, hc, hp])
    rw [hp] at h; cases h.2
  · have hr0 : s.startRefusal (field f.body 0 1) it = none := hperm.trans (if_neg fun h => by rw [hp] at h; cases h.2)
    have hd : s.startedItem (field f.body 0 1) it = { it with state := .inProgress, permit := some k } :=
      State.startedItem_eq (by rw [if_neg hb, hc, hp])
    have hw' : w = (s.commit it.target (toRetiring (field f.body 0 1) (startWork r))).recompute := by
      rw [hw, State.commit_eq, toRetiring_eq]
      by_cases h : r.state = .retiring <;> simp [h]
    have hwx : w.visit? (field f.body 0 1) = some x := by
      rw [hw', State.visit?, State.recompute_visits, State.commit_visits]; exact hx
    refine congrArg Host.Outcome.next ((State.takeRequest_now (res := .done)
      (body := itemBody { it with state := .inProgress, permit := some k })
      (t := s.serve (field f.body 0 1) (field f.body 1 1) { it with state := .inProgress, permit := some k } it.target
        (toRetiring (field f.body 0 1) (startWork r))) ht fun q => ?_).trans ?_)
    · rw [visitStart_passes (s := s.withPort q) hit hr0, if_pos hk,
        show (s.withPort q).startedItem (field f.body 0 1) it = _ from hd, State.workOn_record (s := s.withPort q) _ _ r hr]
      exact congrArg (fun u => (u, Answer.now .done _)) (blind_serve _ _ _ _ _ q s)
    · rw [State.serve, ← hw', State.storeItem_some hwx]
      rw [hw]
      rfl

end

namespace Sys2Proof.Machine

/-! ## VISIT ABANDON (R152) -/

/-- Without work on a record, a request that recomputes and stores an item changes the groups, the visit and its image alone. -/
theorem State.recompute_storeItem {s : State} {v : Nat} {x : Visit} (hx : s.visit? v = some x) (n : Nat) (d : Item) :
    s.recompute.storeItem v n d = { s.recompute with
      visits := tset s.visits v (some { x with items := setItem x.items n d })
      store := { s.store with queue := enqueue (visitImage v) s.store.queue } } :=
  State.storeItem_some (s := s.recompute) hx n d

theorem fromRetiring_eq (p : Option Profile) {r : StringRecord} (h : r.state = .retiring) : fromRetiring p (startWork r) =
    { r := { r with state := derivedState p r.suspect r.soh, owner := none }, changed := true, save := true } := by
  have hne : derivedState p r.suspect r.soh ≠ r.state := h ▸ (derivedState_ne p r.suspect r.soh).1
  refine (if_pos h).trans (Work.eq_of_fields (takeState_r _ _) ?_ rfl)
  refine (takeState_changed _ _).trans ?_
  exact Bool.or_eq_true_iff.mpr (.inr (decide_eq_true hne.symm))

theorem visitAbandon_live {b : List Byte} {s : State} {x : Visit} {it : Item}
    (h : s.itemOf (field b 0 1) (field b 1 1) = some (x, it)) (hl : it.live = true) : visitAbandon b s =
      done (itemBody it.abandon) (((s.releaseTarget it).recompute).storeItem (field b 0 1) (field b 1 1) it.abandon) := by
  simp only [visitAbandon, h, hl, if_true]

/-- A VISIT ABANDON of a live item. -/
theorem exec_visitAbandon_live {f : RequestFrame} {s : State} {x : Visit} {it : Item} (ht : s.Takes 2 f)
    (hit : s.itemOf (field f.body 0 1) (field f.body 1 1) = some (x, it)) (hl : it.live = true) :
    exec (.visitAbandon f) s = .next
      { ((s.releaseTarget it).recompute).storeItem (field f.body 0 1) (field f.body 1 1) it.abandon with
        port := s.repliedPort f 0x44 .done (itemBody it.abandon) } := by
  refine congrArg Host.Outcome.next (State.takeRequest_now ht fun q => ?_)
  rw [visitAbandon_live (s := s.withPort q) hit hl, blind_releaseTarget, blind_recompute, blind_storeItem]
  rfl

/-! ## VISIT FINISH of the other kinds (R150) -/

/-- The record as a measured capacity of `m` anchors it (R89). -/
def StringRecord.anchored (p : Profile) (m : Nat) (r : StringRecord) : StringRecord :=
  { r with
    life := (1000 - min (m * 100 / p.capacity) 1000) * 1000000
    suspect := false
    lifeIndicator := min (m * 100 / p.capacity) 1000
    soh := min (min (m * 100 / p.capacity) 1000) r.resistanceIndicator
    state := if r.state = .retiring ∨ r.state = .retired then r.state
      else derivedState (some p) false (min (min (m * 100 / p.capacity) 1000) r.resistanceIndicator) }

/-- The life indicator of an anchored life is the measured permille. -/
theorem lifeIndicatorOf_anchored {c : Nat} (h : c ≤ 1000) : lifeIndicatorOf ((1000 - c) * 1000000) = c := by
  unfold lifeIndicatorOf
  rw [Nat.mul_div_cancel _ (by decide)]
  omega

theorem reanchor_eq (p : Profile) (m : Nat) (r : StringRecord) : reanchor (some p) m (startWork r) =
    { r := r.anchored p m, changed := decide (r.state ≠ (r.anchored p m).state), save := true } := by
  have hl := lifeIndicatorOf_anchored (Nat.min_le_right (m * 100 / p.capacity) 1000)
  have hw : ({ r with life := (1000 - min (m * 100 / p.capacity) 1000) * 1000000, suspect := false } : StringRecord).weighed p =
      r.anchored p m := by
    unfold StringRecord.weighed
    rw [hl]
    rfl
  unfold reanchor
  dsimp only [startWork]
  rw [stage5_eq, hw]
  exact Work.eq_of_fields rfl (Bool.false_or _) rfl

/-- The record with a baseline of `m` (R91). -/
def StringRecord.based (p : Profile) (m : Nat) (r : StringRecord) : StringRecord :=
  ({ r with rb := some m, resistanceIndicator := resistanceIndicatorOf p (some m) r.r } : StringRecord).weighed p

theorem setBaseline_filled (p : Profile) {m : Nat} (h0 : m ≠ 0) (hm : m ≤ 65535) (r : StringRecord) :
    setBaseline (some p) m (startWork r) =
      { r := r.based p m, changed := decide (r.state ≠ (r.based p m).state), save := true } := by
  unfold setBaseline
  rw [if_neg h0, Nat.min_eq_left hm]
  dsimp only [startWork]
  rw [stage4, stage5_eq]
  exact Work.eq_of_fields rfl (Bool.false_or _) rfl

theorem setBaseline_empty {m : Nat} (h0 : m ≠ 0) (hm : m ≤ 65535) (r : StringRecord) :
    setBaseline none m (startWork r) = { r := { r with rb := some m }, changed := false, save := true } := by
  unfold setBaseline
  rw [if_neg h0, Nat.min_eq_left hm]
  rfl

/-- What the result of the item, handed on, makes of its target (R89, R91, R150). -/
def handWork (k : ItemKind) (p : Option Profile) (m : Nat) (r : StringRecord) : Work :=
  if k = .capacityTest then reanchor p m (startWork r) else setBaseline p m (startWork r)

/-- The item a CAPACITY TEST or a BASELINE leaves with the value `m`. -/
def Item.measured (it : Item) (m : Nat) : Item :=
  { it with state := .done, permit := none, result := some { profile := 0, value := m, newSlot := 0 } }

theorem State.handResult_record {s : State} {it : Item} {r : StringRecord} (hk : it.kind = .capacityTest ∨ it.kind = .baseline)
    (hr : s.string? it.target = some r) (m : Nat) :
    s.handResult it m = (s.commit it.target (handWork it.kind (s.profile? r.profile) m r)).recompute ∧
      it.finished (plainResult it.kind m) = it.measured m := by
  rcases hk with hk | hk
  · constructor
    · simp only [State.handResult, hk, handWork, if_true]
      rw [State.workOn_record _ _ _ _ hr]
    · rw [hk]; rfl
  · constructor
    · simp only [State.handResult, hk, handWork, reduceCtorEq, if_false]
      rw [State.workOn_record _ _ _ _ hr]
    · rw [hk]; rfl

theorem visitFinish_plain {b : List Byte} {s : State} {x : Visit} {it : Item}
    (h : s.itemOf (field b 0 1) (field b 1 1) = some (x, it)) (hs : it.state = .inProgress) (hk : it.kind ≠ .replaceString) :
    visitFinish b s = done (itemBody (it.finished (plainResult it.kind (min (field b 3 4) 65535))))
      ((s.handResult it (min (field b 3 4) 65535)).storeItem (field b 0 1) (field b 1 1)
        (it.finished (plainResult it.kind (min (field b 3 4) 65535)))) := by
  simp [visitFinish, h, hs, hk]

/-- A finish that hands a measured value on. -/
theorem exec_visitFinish_measured {f : RequestFrame} {s : State} {m : Nat} {x : Visit} {it : Item} {r : StringRecord} (ht : s.Takes 7 f)
    (hit : s.itemOf (field f.body 0 1) (field f.body 1 1) = some (x, it)) (hs : it.state = .inProgress)
    (hk : it.kind = .capacityTest ∨ it.kind = .baseline) (hr : s.string? it.target = some r) (hm : m = min (field f.body 3 4) 65535) :
    ∃ t, exec (.visitFinish f) s = .next t ∧ t.port = s.repliedPort f 0x43 .done (itemBody (it.measured m)) ∧
      s.Served t (field f.body 0 1) { x with items := setItem x.items (field f.body 1 1) (it.measured m) } it.target
        (handWork it.kind (s.profile? r.profile) m r) := by
  have hne : it.kind ≠ .replaceString := by rcases hk with e | e <;> rw [e] <;> decide
  refine ⟨_, congrArg Host.Outcome.next (State.takeRequest_now ht fun q => ?_), rfl,
    State.served (State.itemOf_some hit).1 (field f.body 1 1) (it.measured m) _ _ _⟩
  obtain ⟨h1, h2⟩ := State.handResult_record (s := s.withPort q) hk hr m
  rw [visitFinish_plain (s := s.withPort q) hit hs hne, ← hm, h1, h2]
  exact congrArg (fun u => (u, Answer.now .done _)) (blind_serve _ _ _ _ _ q s)

theorem State.Served.attention_unchanged {s t : State} {v k : Nat} {y : Visit} {w : Work} (h : s.Served t v y k w)
    (hw : w.changed = false) : { t.attention with marginShort := s.attention.marginShort } = s.attention := by
  have he : t.attention.stringStateChanged = s.attention.stringStateChanged := by rw [h.changed, hw]; rfl
  have ha := h.attention
  rw [← he] at ha
  exact ha

/-- A mark set for a change of state, written as a case split on the state. -/
theorem ite_changed {α : Type} (a b : StringState) (y z : α) :
    (if decide (a ≠ b) = true then y else z) = if b = a then z else y := by
  by_cases h : b = a
  · rw [if_pos h, if_neg (by simp [h])]
  · rw [if_neg h, if_pos (decide_eq_true (Ne.symm h))]

end Sys2Proof.Machine

section
open Sys2Proof Sys2Proof.Machine

/-- Settles O37: the released target, and the item Abandoned. -/
theorem visitAbandonReleases : Obligations.VisitAbandonReleases := by
  rintro f s v n x it d ht rfl rfl hit rfl
  have hx := (State.itemOf_some hit).1
  refine ⟨fun hs => ?_, fun h1 h2 => ?_⟩
  · have hl : it.live = false := by rcases hs with e | e <;> simp [Item.live, e]
    refine congrArg Host.Outcome.next (State.takeRequest_refused ht fun q => ?_)
    simp only [visitAbandon, show (s.withPort q).itemOf (field f.body 0 1) (field f.body 1 1) = some (x, it) from hit, hl,
      Bool.false_eq_true, if_false]
  · refine ⟨_, exec_visitAbandon_live ht hit (it.live_iff.mpr ⟨h1, h2⟩), rfl, ?_⟩
    by_cases hr : ∃ r, (it.state = .inProgress ∧ it.kind = .replaceString) ∧ s.string? it.target = some r
    · obtain ⟨r, hr, hrec⟩ := hr
      have hserved := State.served hx (field f.body 1 1) it.abandon it.target (fromRetiring (s.profile? r.profile) (startWork r))
        (s.repliedPort f 0x44 .done (itemBody it.abandon))
      have hrel : s.releaseTarget it = s.commit it.target (fromRetiring (s.profile? r.profile) (startWork r)) :=
        (if_pos hr).trans (State.workOn_record _ _ _ _ hrec)
      rw [State.serve, ← hrel] at hserved
      refine ⟨hserved.visits, hserved.attention, hserved.images, hserved.writer, fun hno => absurd hr hno, fun r' _ _ hr' hret => ?_,
        hserved.groups, hserved.cabinets, hserved.profiles, hserved.permits, hserved.ask, hserved.floor, hserved.link⟩
      cases hrec.symm.trans hr'
      rw [fromRetiring_eq _ hret] at hserved
      exact ⟨hserved.strings, fun id => (hserved.queue id).trans (by simp), hserved.changed⟩
    · have hrel : s.releaseTarget it = s := by
        unfold State.releaseTarget
        split
        · rename_i h
          exact State.workOn_free _ _ _ (Option.eq_none_iff_forall_ne_some.mpr fun r hrec => hr ⟨r, h, hrec⟩)
        · rfl
      rw [hrel, State.recompute_storeItem hx]
      exact ⟨rfl, rfl, rfl, rfl, fun _ => ⟨rfl, rfl, fun id => mem_enqueue _ _ _⟩, fun r h1 h2 hrec => absurd ⟨r, ⟨h1, h2⟩, hrec⟩ hr,
        State.recompute_current s, rfl, rfl, rfl, rfl, rfl, rfl⟩

/-- Settles O35: the results handed on, each by its stage. -/
theorem visitFinishHandsOn : Obligations.VisitFinishHandsOn := by
  rintro f s v n m x it ht rfl rfl hm hit
  have hx := (State.itemOf_some hit).1
  have hle : m ≤ 65535 := by omega
  refine ⟨fun hs => ?_, fun hs hk => ?_, fun r p d hs hk hr hp hd => ?_, fun r p d hs hk hr hp hd => ?_, fun r d hs hk hr hp hd => ?_⟩
  · refine congrArg Host.Outcome.next (State.takeRequest_refused ht fun q => ?_)
    simp only [visitFinish, show (s.withPort q).itemOf (field f.body 0 1) (field f.body 1 1) = some (x, it) from hit]
    exact if_pos hs
  · refine congrArg Host.Outcome.next ((State.takeRequest_now (res := .done) (body := itemBody (it.finished none))
      (t := s.storeItem (field f.body 0 1) (field f.body 1 1) (it.finished none)) ht fun q => ?_).trans ?_)
    · have hh : ∀ u : State, u.handResult it (min (field f.body 3 4) 65535) = u := fun u => by simp only [State.handResult, hk]
      rw [visitFinish_plain (s := s.withPort q) hit hs (by rw [hk]; decide), hh, hk, blind_storeItem]
      rfl
    · rw [State.storeItem_some hx]
      rfl
  · obtain ⟨t, hrun, hport, hserved⟩ := exec_visitFinish_measured ht hit hs (.inl hk) hr hm
    have hwork : handWork it.kind (s.profile? r.profile) m r = _ :=
      (if_pos hk).trans ((congrArg (fun o => reanchor o m (startWork r)) hp).trans (reanchor_eq p m r))
    rw [hwork] at hserved
    subst hd
    exact ⟨t, r.anchored p m, hrun, hport, hserved.visits, hserved.strings, rfl, hserved.changed.trans (ite_changed _ _ _ _),
      hserved.attention, fun id => (hserved.queue id).trans (by simp), hserved.images, hserved.writer, hserved.groups, hserved.cabinets,
      hserved.profiles, hserved.permits, hserved.ask, hserved.floor, hserved.link⟩
  · obtain ⟨t, hrun, hport, hserved⟩ := exec_visitFinish_measured ht hit hs (.inr hk) hr hm
    have hwork : handWork it.kind (s.profile? r.profile) m r = setBaseline (some p) m (startWork r) := by
      rw [handWork, if_neg (by rw [hk]; decide), hp]
    rw [hwork] at hserved
    subst hd
    have hread : ∀ k, t.string? k = if k = it.target then some (setBaseline (some p) m (startWork r)).r else s.string? k := fun k => by
      rw [State.string?, hserved.strings]
      exact tget_tset_of_some _ _ _ _ _ hr
    refine ⟨t, (setBaseline (some p) m (startWork r)).r, hrun, hport, hserved.visits, by rw [hread, if_pos rfl],
      fun k hk => by rw [hread, if_neg hk], fun h0 => by rw [h0]; rfl, fun h0 => ?_, ?_, hserved.attention, fun id => ?_,
      hserved.images, hserved.writer, hserved.groups, hserved.cabinets,
      hserved.profiles, hserved.permits, hserved.ask, hserved.floor, hserved.link⟩
    · rw [setBaseline_filled p h0 hle]
      exact ⟨rfl, rfl, rfl, rfl, rfl, rfl⟩
    · refine hserved.changed.trans ?_
      by_cases h0 : m = 0
      · rw [h0]; exact (if_neg Bool.false_ne_true).trans (if_pos rfl).symm
      · rw [setBaseline_filled p h0 hle]
        exact ite_changed _ _ _ _
    · refine (hserved.queue id).trans (or_congr_right (or_comm.trans (or_congr_right (and_congr_left fun _ => ?_))))
      by_cases h0 : m = 0
      · rw [h0]; simp [setBaseline, startWork]
      · rw [setBaseline_filled p h0 hle]; simp [h0]
  · obtain ⟨t, hrun, hport, hserved⟩ := exec_visitFinish_measured ht hit hs hk hr hm
    subst hd
    by_cases hb : it.kind = .baseline ∧ m ≠ 0
    · have hwork : handWork it.kind (s.profile? r.profile) m r = { r := { r with rb := some m }, changed := false, save := true } := by
        rw [handWork, if_neg (by rw [hb.1]; decide), hp]
        exact setBaseline_empty hb.2 hle r
      rw [hwork] at hserved
      refine ⟨t, hrun, hport, hserved.visits, hserved.strings.trans (if_pos hb).symm, fun id => ?_, ?_, hserved.images, hserved.writer,
        hserved.groups, hserved.cabinets, hserved.profiles, hserved.permits, hserved.ask, hserved.floor, hserved.link⟩
      · rw [hserved.queue]; simp [hb, or_comm]
      · exact hserved.attention_unchanged rfl
    · have hwork : handWork it.kind (s.profile? r.profile) m r = startWork r := by
        rw [handWork, hp]
        split
        · rfl
        · rename_i h
          exact if_pos (not_not.mp fun h0 => hb ⟨hk.resolve_left h, h0⟩)
      rw [hwork] at hserved
      refine ⟨t, hrun, hport, hserved.visits, (hserved.strings.trans (tset_tget _ _ _ hr)).trans (if_neg hb).symm, fun id => ?_, ?_,
        hserved.images, hserved.writer,
        hserved.groups, hserved.cabinets, hserved.profiles, hserved.permits, hserved.ask, hserved.floor, hserved.link⟩
      · rw [hserved.queue]
        simp only [startWork, Bool.false_eq_true, false_and, false_or]
        exact or_congr_right ⟨.inl, fun h => h.resolve_right fun h => hb ⟨h.1, h.2.1⟩⟩
      · exact hserved.attention_unchanged rfl

end

namespace Sys2Proof.Machine

/-! ## VISIT FINISH of a REPLACE STRING (R149) -/

/-- What the close of an event leaves of a record: its own figures, all but life, SoH and state (R68). -/
theorem closeEvent_fields (p : Option Profile) (r : StringRecord) : (closeEvent p (startWork r)).r = { r with
    life := (closeEvent p (startWork r)).r.life, lifeIndicator := (closeEvent p (startWork r)).r.lifeIndicator
    soh := (closeEvent p (startWork r)).r.soh, state := (closeEvent p (startWork r)).r.state, event := none } := by
  unfold closeEvent
  cases he : r.event with
  | none => simp only [startWork_r, he]; rw [← he]
  | some e =>
    simp only [startWork_r, he]
    cases p with
    | none => rfl
    | some q => simp only [mustSave_r, stage5_r]; rfl

/-- Without an event, or on an Empty profile, life and SoH stay (R68). -/
theorem closeEvent_kept {p : Option Profile} {r : StringRecord} (h : r.event = none ∨ p = none) :
    (closeEvent p (startWork r)).r = { r with event := none } := by
  rcases h with h | rfl
  · rw [closeEvent_none (w := startWork r) h]
    show r = _
    rw [← h]
  · unfold closeEvent
    cases he : r.event with
    | none => simp only [startWork_r, he]; rw [← he]
    | some e => simp only [startWork_r, he]; rfl

/-- An event on a Filled profile closes with its cycle step, and stage 5 follows (R68, R82, R83, R87). -/
theorem closeEvent_step {q : Profile} {r : StringRecord} {e : DischargeEvent} (h : r.event = some e) :
    (closeEvent (some q) (startWork r)).r.life =
        addLife r.life (cycleShare q (depthOf q e.charge) (bandWeight q (depthOf q e.charge))) ∧
      (closeEvent (some q) (startWork r)).r.lifeIndicator = lifeIndicatorOf (closeEvent (some q) (startWork r)).r.life ∧
      (closeEvent (some q) (startWork r)).r.soh =
        min (closeEvent (some q) (startWork r)).r.lifeIndicator r.resistanceIndicator := by
  rw [closeEvent_some (w := startWork r) h]
  simp only [mustSave_r, stage5_r]
  exact ⟨rfl, rfl, rfl⟩

/-- A record that is retired where it stood. -/
theorem retire_eq (p : Option Profile) {r : StringRecord} (h : r.state ≠ .retired) : retire p (startWork r) =
    { r := { (closeEvent p (startWork r)).r with cabinet := none, state := .retired }, changed := true, save := true } := by
  have hne : (closeEvent p (startWork r)).r.state ≠ .retired := (closeEvent_sound p (startWork r)).steady.retired.not.mpr h
  refine Work.eq_of_fields (takeState_r _ _) ((takeState_changed _ _).trans ?_) rfl
  exact Bool.or_eq_true_iff.mpr (.inr (decide_eq_true hne))

/-- The state after a replacement: `old`'s slot retired, the new record in slot `k`, the item stored, the groups formed anew. -/
def State.replace (s : State) (v n : Nat) (d : Item) (j : Nat) (w : Work) (k : Nat) (r : StringRecord) : State :=
  (((s.commit j w).commission k r).storeItem v n d).recompute

theorem State.replace_eq {s : State} {v : Nat} {x : Visit} (hx : s.visit? v = some x) (n : Nat) (d : Item) {j : Nat} {w : Work}
    (hc : w.changed = true) (hs : w.save = true) (k : Nat) (r : StringRecord) : s.replace v n d j w k r = ({ s with
      strings := tset (tset s.strings j (some w.r)) k (some r),
      visits := tset s.visits v (some { x with items := setItem x.items n d }),
      attention := raiseStringChanged k (raiseStringChanged j s.attention),
      store := { s.store with
        queue := enqueue (visitImage v) (enqueue (stringImage k) (enqueue (stringImage j) s.store.queue)) } } : State).recompute := by
  have hv : ((s.commit j w).commission k r).visit? v = some x := by
    rw [State.visit?, State.commission, State.commit_visits, State.commit_visits]; exact hx
  rw [State.replace, State.storeItem_some hv, State.commission, State.commit_eq, State.commit_eq]
  simp only [hc, hs, if_true]
  rfl

theorem blind_replace (v n : Nat) (d : Item) (j : Nat) (w : Work) (k : Nat) (r : StringRecord) :
    PortBlind (fun s => State.replace s v n d j w k r) :=
  PortBlind.comp (f := State.recompute) blind_recompute (PortBlind.comp (f := State.storeItem v n d) (blind_storeItem v n d)
    (PortBlind.comp (f := State.commission k r) (blind_commission k r) (blind_commit j w)))

/-- The replacement past its checks. -/
theorem finishReplace_passes {s : State} {v n profileNo value k c : Nat} {x : Visit} {it : Item} {p : Profile} {old : StringRecord}
    (hp : s.profile? profileNo = some p) (ho : s.otherInProgress it.target = false) (hk : lowestFree s.strings = some k)
    (hold : s.string? it.target = some old) (hc : old.cabinet = some c) : finishReplace v n profileNo value x it s =
      done (itemBody (it.finished (some { profile := profileNo, value := value, newSlot := k })))
        (s.replace v n (it.finished (some { profile := profileNo, value := value, newSlot := k })) it.target
          (retire (s.profile? old.profile) (startWork old)) k
          (newRecord p c old.position profileNo (openingDay x.opened) (baselineOf value))) := by
  simp only [finishReplace, hp, ho, Bool.false_eq_true, if_false, hk, hold, hc]
  rw [State.workOn_record _ _ _ _ hold]
  rfl

end Sys2Proof.Machine

section
open Sys2Proof Sys2Proof.Machine

/-- Settles O36: the retirement of the target, and the new record in its place. -/
theorem visitFinishReplacesTheString : Obligations.VisitFinishReplacesTheString := by
  rintro f s v n m k c x it d old p ht rfl rfl hm hit hs hkind hp hpr ho hk hold hc hst rfl
  have hx := (State.itemOf_some hit).1
  have hne : it.target ≠ k := fun e => by
    rw [e, State.string?, (lowestFree_spec _ _ hk).2.2] at hold; cases hold
  have hkr := lowestFree_spec _ _ hk
  have hm' : m ≤ 65535 := by omega
  obtain ⟨r, hr⟩ : ∃ r, r = freshRecord p c old.position (field f.body 2 1) (openingDay x.opened) (baselineOf m) := ⟨_, rfl⟩
  have hrun : exec (.visitFinish f) s = .next
      { s.replace (field f.body 0 1) (field f.body 1 1)
          (it.finished (some { profile := field f.body 2 1, value := m, newSlot := k })) it.target
          (retire (s.profile? old.profile) (startWork old)) k r with
        port := s.repliedPort f 0x43 .done
          (itemBody (it.finished (some { profile := field f.body 2 1, value := m, newSlot := k }))) } := by
    refine congrArg Host.Outcome.next (State.takeRequest_now ht fun q => ?_)
    rw [visitFinish_replaces (s := s.withPort q) hit hs hkind, ← hm, finishReplace_passes (s := s.withPort q) hp ho hk hold hc,
      newRecord_eq hpr, ← hr]
    exact congrArg (fun u => (u, Answer.now .done _)) (blind_replace _ _ _ _ _ _ _ q s)
  have hfields := closeEvent_fields (s.profile? old.profile) old
  rw [retire_eq _ hst, State.replace_eq hx _ _ rfl rfl] at hrun
  have hread : ∀ j, tget (tset (tset s.strings it.target (some { (closeEvent (s.profile? old.profile) (startWork old)).r with
      cabinet := none, state := .retired })) k (some r)) j = if j = k then some r else if j = it.target then
        some { (closeEvent (s.profile? old.profile) (startWork old)).r with cabinet := none, state := .retired }
      else s.string? j := fun j => by
    by_cases hj : j = k
    · subst hj
      rw [if_pos rfl, tget_tset_same _ _ _ hkr.1 (by rw [tset_length]; exact hkr.2.1)]
    · rw [if_neg hj, tget_tset_ne _ _ _ _ hj, tget_tset_of_some _ _ _ _ _ hold]
      rfl
  refine ⟨_, { (closeEvent (s.profile? old.profile) (startWork old)).r with cabinet := none, state := .retired }, hrun, rfl, rfl,
    (hread _).trans ((if_neg hne).trans (if_pos rfl)), rfl, rfl, closeEvent_event _ _, (congrArg StringRecord.owner hfields :),
    (congrArg StringRecord.position hfields :), (congrArg StringRecord.profile hfields :), (congrArg StringRecord.rb hfields :),
    (congrArg StringRecord.r hfields :), fun h => ?_, fun e po c1 he hpo hc1 => ?_, (hread k).trans ((if_pos rfl).trans ?_),
    fun j h1 h2 => (hread j).trans ((if_neg h1).trans (if_neg h2)), rfl, rfl, fun id => ?_, rfl, rfl, State.recompute_current _, rfl, rfl,
    rfl, rfl, rfl, rfl⟩
  · rw [closeEvent_kept h]; exact ⟨rfl, rfl⟩
  · subst hc1
    rw [hpo]
    exact closeEvent_step he
  · rw [hr, freshRecord, baselineOf, Nat.min_eq_left hm']; rfl
  · show id ∈ enqueue _ (enqueue _ (enqueue _ _)) ↔ _
    simp only [mem_enqueue, or_assoc]

end

namespace Sys2Proof.Machine

/-! ## A pass over the String Table that commits one work for each record -/

theorem State.commit_startWork {s : State} {k : Nat} {r : StringRecord} (h : s.string? k = some r) : s.commit k (startWork r) = s := by
  rw [State.commit_eq, startWork_r, tset_tget _ _ _ h]
  rfl

theorem State.Worked.pass {s : State} {f : State → Nat → State} {out : Nat → StringRecord → Work}
    (hs : s.strings.length = Config.stringCount)
    (hfree : ∀ t out' k, s.Worked t out' → t.string? k = none → f t k = t)
    (hwork : ∀ t out' k r, s.Worked t out' → s.string? k = some r → t.string? k = some r → f t k = t.commit k (out k r)) :
    s.Worked ((numbers Config.stringCount).foldl f s) out := by
  have hpass := foldl_numbers (f := f) (s := s)
    (P := fun m t => s.Worked t (fun k r => if k ≤ m then out k r else startWork r)) Config.stringCount
    ((State.Worked.refl s).congr fun k r hr => by rw [if_neg (by have := tget_some _ _ _ hr; omega)])
    fun m t _ h => by
      have hlater : ∀ r, (if m + 1 ≤ m then out (m + 1) r else startWork r) = startWork r := fun r => if_neg (by omega)
      have hmore : ∀ k r, k ≠ m + 1 → (if k ≤ m then out k r else startWork r) = if k ≤ m + 1 then out k r else startWork r :=
        fun k r hk => if_congr (by omega) rfl rfl
      cases hr : s.string? (m + 1) with
      | none =>
        rw [hfree t _ _ h (by rw [h.strings, hr]; rfl)]
        exact h.congr fun k r hkr => hmore k r fun e => by rw [e, hr] at hkr; cases hkr
      | some r =>
        rw [hwork t _ _ r h hr (by rw [h.strings, hr, Option.map_some, hlater]; rfl)]
        refine (h.commit hr (hlater r) _).congr fun k q hkq => ?_
        by_cases hk : k = m + 1
        · subst hk
          cases hr.symm.trans hkq
          rw [if_pos rfl, if_pos le_rfl]
        · rw [if_neg hk, hmore k q hk]
  refine hpass.congr fun k r hr => ?_
  have := tget_some _ _ _ hr
  exact if_pos (by omega)

/-! ## PROFILE WRITE (R46 to R48) -/

/-- What a write of profile `n` makes of one record (R48, log entry 28). -/
def rewriteWork (n : Nat) (p : Profile) (r : StringRecord) : Work :=
  if r.profile = n ∧ r.state ≠ .retired then afterProfileWrite p (startWork r) else startWork r

theorem rewriteWork_r (n : Nat) (p : Profile) (r : StringRecord) : (rewriteWork n p r).r =
    if r.profile = n ∧ r.state ≠ .retired then (afterProfileWrite p (startWork r)).r else r := by
  unfold rewriteWork
  split <;> rfl

theorem rewriteWork_changed (n : Nat) (p : Profile) (r : StringRecord) : (rewriteWork n p r).changed =
    (decide (r.profile = n ∧ r.state ≠ .retired) && (afterProfileWrite p (startWork r)).changed) := by
  unfold rewriteWork
  split
  · next h => rw [decide_eq_true h, Bool.true_and]
  · next h => rw [decide_eq_false h]; rfl

theorem rewriteWork_save_iff (n : Nat) (p : Profile) (r : StringRecord) : (rewriteWork n p r).save = true ↔
    r.profile = n ∧ r.state ≠ .retired ∧ (afterProfileWrite p (startWork r)).save = true := by
  unfold rewriteWork
  split
  · next h => simp [h]
  · next h => exact ⟨fun e => absurd e Bool.false_ne_true, fun ⟨h1, h2, _⟩ => absurd ⟨h1, h2⟩ h⟩

/-- The pass of a write over the whole table. -/
theorem State.profileWrite_worked {s : State} (hs : s.strings.length = Config.stringCount) (n : Nat) (p : Profile) :
    s.Worked ((numbers Config.stringCount).foldl (State.profileWriteOn n p) s) (fun _ => rewriteWork n p) := by
  refine State.Worked.pass hs (fun t _ k _ hf => by rw [State.profileWriteOn, hf]) fun t _ k r _ _ hr => ?_
  rw [State.profileWriteOn, hr]
  dsimp only
  unfold rewriteWork
  split
  · exact State.workOn_record _ _ _ _ hr
  · exact (State.commit_startWork hr).symm

/-- A two-byte field read as a signed number (R192). -/
theorem signed16_field (b : List Byte) (off : Nat) : signed16 (field b off 2) = (BitVec.ofNat 16 (field b off 2)).toInt := by
  have := field_lt b off 2
  rw [BitVec.toInt_eq_toNat_cond, BitVec.toNat_ofNat, Nat.mod_eq_of_lt (by omega), signed16]
  split <;> split <;> omega

end Sys2Proof.Machine

section
open Sys2Proof Sys2Proof.Machine

/-- Settles O25: the pass over the table works on each record that names the profile once, then the groups are formed anew. -/
theorem profileWriteActsOnItsRecords : Obligations.ProfileWriteActsOnItsRecords := by
  rintro f s n p hz ht rfl h1 h4 rfl
  refine ⟨Profile.clamp_inRange _, ?_, ?_⟩
  · rw [← signed16_field]; rfl
  obtain ⟨p, hp⟩ : ∃ p, p = (profileOfBody f.body).clamp := ⟨_, rfl⟩
  rw [← hp]
  have hrun : exec (.profileWrite f) s = .next
      { s.writeProfile (field f.body 0 1) p with port := s.repliedPort f 0x20 .done (profileBody p) } := by
    refine congrArg Host.Outcome.next (State.takeRequest_now ht fun q => ?_)
    simp only [profileWrite, ← hp, show inRange Config.profileCount (field f.body 0 1) = true from decide_eq_true ⟨h1, h4⟩, if_true]
    exact congrArg (fun u => (u, Answer.now .done _)) (blind_writeProfile _ _ q s)
  obtain ⟨a, ha⟩ : ∃ a, a = (s.setProfile (field f.body 0 1) (some p)).checkpoint (profileImage (field f.body 0 1)) := ⟨_, rfl⟩
  obtain ⟨b, hb⟩ : ∃ b, b = (numbers Config.stringCount).foldl (State.profileWriteOn (field f.body 0 1) p) a := ⟨_, rfl⟩
  have hw : a.Worked b (fun _ => rewriteWork (field f.body 0 1) p) := by
    rw [hb]; exact State.profileWrite_worked (by rw [ha]; exact hz.strings) _ _
  have hs : ∀ k, a.string? k = s.string? k := fun k => by rw [ha]; rfl
  refine ⟨_, hrun, rfl, ?_⟩
  rw [State.writeProfile, ← ha, ← hb]
  refine ⟨hw.profiles.trans (by rw [ha]; rfl), fun k => ?_, fun i hi => ?_, fun id => ?_, ?_, State.recompute_current b,
    hw.floor.trans (by rw [ha]; rfl), hw.cabinets.trans (by rw [ha]; rfl), hw.link.trans (by rw [ha]; rfl),
    hw.permits.trans (by rw [ha]; rfl), hw.ask.trans (by rw [ha]; rfl), hw.visits.trans (by rw [ha]; rfl),
    hw.images.trans (by rw [ha]; rfl), hw.writer.trans (by rw [ha]; rfl)⟩
  · rw [← hs]
    exact (hw.strings k).trans (Option.map_congr fun r _ => rewriteWork_r _ _ r)
  · rw [← hs]
    refine (hw.changed i hi).trans ?_
    simp only [rewriteWork_changed]
    rw [ha]; rfl
  · refine (hw.queue id).trans ?_
    simp only [hs, rewriteWork_save_iff, and_assoc]
    rw [ha]
    exact (or_congr_left (mem_enqueue _ _ _)).trans or_assoc
  · rw [State.recompute_attention, hw.attention, ha]
    rfl
end

namespace Sys2Proof.Machine

/-! ## What the hand-over of a permit leaves (R153) -/

/-- The record once it has come back from Retiring, with its profile `p` (R54). -/
def StringRecord.released (p : Option Profile) (r : StringRecord) : StringRecord :=
  { r with state := derivedState p r.suspect r.soh, owner := none }

theorem StringRecord.released_state_ne (p : Option Profile) (r : StringRecord) : (r.released p).state ≠ .retiring :=
  (derivedState_ne p r.suspect r.soh).1

/-- The record in slot `j` is Retiring. -/
def State.retiringAt (s : State) (j : Nat) : Prop := ∃ r, s.string? j = some r ∧ r.state = .retiring

/-- The visits in the slots `1..n` of `s` have handed permit slot `k` over, and the records `freed` have come back from Retiring. -/
structure State.HandedOver (s t : State) (k n : Nat) (freed : Nat → Prop) : Prop where
  retiring : ∀ j, freed j → s.retiringAt j
  kept : ∀ j, ¬freed j → t.string? j = s.string? j
  released : ∀ j r, freed j → s.string? j = some r → t.string? j = some (r.released (s.profile? r.profile))
  marked : ∀ i, i < 64 → (t.attention.stringStateChanged.getLsbD i = true ↔
    s.attention.stringStateChanged.getLsbD i = true ∨ freed (i + 1))
  visits : ∀ v, t.visit? v = if v ≤ n then (s.visit? v).map (fun y => { y with items := y.items.map (interruptItem k) })
    else s.visit? v
  interrupted : ∀ i, i < 4 → (t.attention.visitItemInterrupted.getLsbD i = true ↔
    s.attention.visitItemInterrupted.getLsbD i = true ∨
      i < n ∧ ∃ y it, s.visit? (i + 1) = some y ∧ it ∈ y.items ∧ it.holds k = true)
  queue : ∀ id, id ∈ t.store.queue ↔ id ∈ s.store.queue ∨ (∃ j, freed j ∧ id = stringImage j) ∨
    ∃ v y it, v ≤ n ∧ s.visit? v = some y ∧ it ∈ y.items ∧ it.holds k = true ∧ id = visitImage v
  frame : t = { s with
    strings := t.strings
    visits := t.visits
    attention := { s.attention with
      stringStateChanged := t.attention.stringStateChanged, visitItemInterrupted := t.attention.visitItemInterrupted }
    store := { s.store with queue := t.store.queue } }

theorem State.handedOver_zero (s : State) (k : Nat) : s.HandedOver s k 0 (fun _ => False) where
  retiring _ h := h.elim
  kept _ _ := rfl
  released _ _ h := h.elim
  marked _ _ := (or_iff_left id).symm
  visits v := by
    split
    · obtain rfl : v = 0 := by omega
      rfl
    · rfl
  interrupted _ _ := (or_iff_left fun h => absurd h.1 (Nat.not_lt_zero _)).symm
  queue id := by
    refine (or_iff_left ?_).symm
    rintro (⟨_, h, _⟩ | ⟨v, y, _, hv, hy, _⟩)
    · exact h
    · have := tget_some _ _ _ hy
      omega
  frame := rfl

section
variable {s t : State} {k n : Nat} {freed : Nat → Prop}

theorem State.HandedOver.profile? (h : s.HandedOver t k n freed) : t.profile? = s.profile? := by rw [h.frame]; rfl

/-- One record more comes back, if it is Retiring. -/
theorem State.HandedOver.release (h : s.HandedOver t k n freed) (j : Nat) :
    s.HandedOver (t.workOn j fromRetiring) k n (fun i => freed i ∨ i = j ∧ s.retiringAt j) := by
  by_cases hj : ¬freed j ∧ s.retiringAt j
  · obtain ⟨hf, r, hr, hret⟩ := hj
    have htr : t.string? j = some r := (h.kept j hf).trans hr
    rw [State.workOn_record _ _ _ _ htr, h.profile?, fromRetiring_eq _ hret, State.commit_eq]
    simp only [if_true]
    have hread : ∀ i, tget (tset t.strings j (some (r.released (s.profile? r.profile)))) i =
        if i = j then some (r.released (s.profile? r.profile)) else t.string? i := fun i => tget_tset_of_some _ _ _ _ _ htr
    refine ⟨?_, fun i hi => ?_, fun i q hi hq => ?_, fun i hi => ?_, h.visits, h.interrupted, fun id => ?_, ?_⟩
    · rintro i (hi | ⟨rfl, hi⟩)
      · exact h.retiring i hi
      · exact hi
    · have hij : i ≠ j := fun e => hi (.inr ⟨e, r, hr, hret⟩)
      exact (hread i).trans ((if_neg hij).trans (h.kept i fun e => hi (.inl e)))
    · refine (hread i).trans ?_
      by_cases hij : i = j
      · subst hij
        cases hr.symm.trans hq
        exact if_pos rfl
      · exact (if_neg hij).trans (h.released i q (hi.resolve_right fun e => hij e.1) hq)
    · have hat : s.retiringAt j := ⟨r, hr, hret⟩
      simp only [raiseStringChanged, BitVec.getLsbD_or, Bool.or_eq_true, h.marked i hi, markOf_getLsbD j hi, decide_eq_true_eq,
        and_iff_left hat, or_assoc]
    · have hat : s.retiringAt j := ⟨r, hr, hret⟩
      rw [mem_enqueue, h.queue]
      simp only [and_iff_left hat, or_and_right, exists_or, exists_eq_left, or_assoc]
      exact or_congr_right (or_congr_right or_comm)
    · rw [h.frame]
      rfl
  · have hidle : t.workOn j fromRetiring = t := by
      cases hs : t.string? j with
      | none => exact State.workOn_free _ _ _ hs
      | some q =>
        have hq : q.state ≠ .retiring := fun e => hj ⟨fun hf => ?_, ?_⟩
        · rw [State.workOn_record _ _ _ _ hs, show fromRetiring (t.profile? q.profile) (startWork q) = startWork q from if_neg hq,
            State.commit_eq, startWork_r, tset_tget _ _ _ hs]
          rfl
        · obtain ⟨r, hr, -⟩ := h.retiring j hf
          rw [h.released j r hf hr] at hs
          cases hs
          exact r.released_state_ne _ e
        · by_cases hf : freed j
          · exact h.retiring j hf
          · exact ⟨q, (h.kept j hf).symm.trans hs, e⟩
    have hsame : (fun i => freed i ∨ i = j ∧ s.retiringAt j) = freed := by
      funext i
      refine propext (or_iff_left_of_imp ?_)
      rintro ⟨rfl, hi⟩
      by_contra hf
      exact hj ⟨hf, hi⟩
    rw [hidle, hsame]
    exact h

/-- The targets of a visit's items that hold the permit come back. -/
theorem State.HandedOver.releaseTargets (h : s.HandedOver t k n freed) (items : List Item) :
    s.HandedOver (t.releaseTargets k items) k n (fun j => freed j ∨
      s.retiringAt j ∧ ∃ it ∈ items, it.holds k = true ∧ it.kind = .replaceString ∧ it.target = j) := by
  unfold State.releaseTargets
  induction items generalizing t freed with
  | nil => simpa using h
  | cons it items ih =>
    rw [List.foldl_cons]
    by_cases hw : it.holds k = true ∧ it.kind = .replaceString
    · have hin := ((it.holds_iff k).mp hw.1).1
      rw [if_pos hw.1, State.releaseTarget, if_pos ⟨hin, hw.2⟩]
      refine cast (congrArg _ (funext fun j => propext ?_)) (ih (h.release it.target))
      simp only [List.mem_cons, exists_eq_or_imp, hw.1, hw.2, true_and, and_or_left, or_assoc]
      refine or_congr_right (or_congr_left ⟨?_, ?_⟩)
      · rintro ⟨rfl, hj⟩
        exact ⟨hj, rfl⟩
      · rintro ⟨hj, rfl⟩
        exact ⟨rfl, hj⟩
    · have hskip : (if it.holds k = true then t.releaseTarget it else t) = t := by
        split
        · rename_i hk
          exact if_neg fun e => hw ⟨hk, e.2⟩
        · rfl
      rw [hskip]
      refine cast (congrArg _ (funext fun j => propext ?_)) (ih h)
      simp only [List.mem_cons, exists_eq_or_imp]
      refine or_congr_right (and_congr_right fun _ => (or_iff_right ?_).symm)
      exact fun e => hw ⟨e.1, e.2.1⟩

theorem interruptItem_of_not_holds {k : Nat} {it : Item} (h : it.holds k ≠ true) : interruptItem k it = it := if_neg h

/-- One visit more, with nothing that holds the permit. -/
theorem State.HandedOver.skip (h : s.HandedOver t k n freed)
    (hn : ∀ y, s.visit? (n + 1) = some y → ∀ it ∈ y.items, it.holds k ≠ true) : s.HandedOver t k (n + 1) freed := by
  refine ⟨h.retiring, h.kept, h.released, h.marked, fun v => ?_, fun i hi => ?_, fun id => ?_, h.frame⟩
  · rw [h.visits]
    by_cases hv : v = n + 1
    · subst hv
      rw [if_neg (by omega), if_pos le_rfl]
      cases hy : s.visit? (n + 1) with
      | none => rfl
      | some y =>
        have hmap : y.items.map (interruptItem k) = y.items :=
          (List.map_congr_left fun it hit => interruptItem_of_not_holds (hn y hy it hit)).trans (List.map_id _)
        rw [Option.map_some, hmap]
    · simp only [show (v ≤ n + 1) = (v ≤ n) by simp only [eq_iff_iff]; omega]
  · rw [h.interrupted i hi]
    refine or_congr_right ⟨fun ⟨hl, r⟩ => ⟨by omega, r⟩, fun ⟨hl, y, it, hy, hm, hk⟩ => ⟨?_, y, it, hy, hm, hk⟩⟩
    by_contra hne
    obtain rfl : i = n := by omega
    exact hn y hy it hm hk
  · rw [h.queue]
    refine or_congr_right (or_congr_right (exists_congr fun v => exists_congr fun y => exists_congr fun it =>
      ⟨fun ⟨hl, r⟩ => ⟨by omega, r⟩, fun ⟨hl, hy, hm, hk, e⟩ => ⟨?_, hy, hm, hk, e⟩⟩))
    by_contra hne
    obtain rfl : v = n + 1 := by omega
    exact hn y hy it hm hk

/-- One visit more, with an item that holds the permit. -/
theorem State.HandedOver.strike (h : s.HandedOver t k n freed) {x : Visit} (hx : s.visit? (n + 1) = some x) {a : Item}
    (ha : a ∈ x.items) (hk : a.holds k = true) : s.HandedOver
      (((t.setVisit (n + 1) (some { x with items := x.items.map (interruptItem k) })).attend (raiseItemInterrupted (n + 1))).checkpoint
        (visitImage (n + 1))) k (n + 1) freed := by
  have htx : t.visit? (n + 1) = some x := by rw [h.visits, if_neg (by omega), hx]
  refine ⟨h.retiring, h.kept, h.released, h.marked, fun v => ?_, fun i hi => ?_, fun id => ?_, ?_⟩
  · refine (tget_tset_of_some _ _ _ _ _ htx).trans ?_
    by_cases hv : v = n + 1
    · subst hv
      rw [if_pos rfl, if_pos le_rfl, hx]
      rfl
    · rw [if_neg hv]
      refine (h.visits v).trans ?_
      simp only [show (v ≤ n + 1) = (v ≤ n) by simp only [eq_iff_iff]; omega]
  · show (t.attention.visitItemInterrupted ||| markOf 4 (n + 1)).getLsbD i = true ↔ _
    simp only [BitVec.getLsbD_or, Bool.or_eq_true, markOf_getLsbD (n + 1) hi, decide_eq_true_eq, h.interrupted i hi, or_assoc]
    refine or_congr_right ⟨?_, fun ⟨hl, r⟩ => ?_⟩
    · rintro (⟨hl, r⟩ | e)
      · exact ⟨by omega, r⟩
      · obtain rfl : i = n := by omega
        exact ⟨by omega, x, a, hx, ha, hk⟩
    · by_cases hl' : i < n
      · exact .inl ⟨hl', r⟩
      · exact .inr (by omega)
  · refine (mem_enqueue _ _ _).trans ?_
    refine (or_congr_left (h.queue id)).trans ?_
    rw [or_assoc, or_assoc]
    refine or_congr_right (or_congr_right ⟨?_, fun ⟨v, y, it, hl, r⟩ => ?_⟩)
    · rintro (⟨v, y, it, hl, r⟩ | e)
      · exact ⟨v, y, it, by omega, r⟩
      · exact ⟨n + 1, x, a, le_rfl, hx, ha, hk, e⟩
    · by_cases hl' : v ≤ n
      · exact .inl ⟨v, y, it, hl', r⟩
      · obtain rfl : v = n + 1 := by omega
        exact .inr r.2.2.2
  · conv_lhs => rw [h.frame]
    rfl

/-- The records that the hand-over of permit slot `k` by the visits in the slots `1..n` brings back from Retiring. -/
def State.frees (s : State) (k n j : Nat) : Prop := s.retiringAt j ∧
  ∃ v y it, v ≤ n ∧ s.visit? v = some y ∧ it ∈ y.items ∧ it.holds k = true ∧ it.kind = .replaceString ∧ it.target = j

theorem State.frees_succ (s : State) (k n j : Nat) : s.frees k (n + 1) j ↔ s.frees k n j ∨ s.retiringAt j ∧
    ∃ y it, s.visit? (n + 1) = some y ∧ it ∈ y.items ∧ it.holds k = true ∧ it.kind = .replaceString ∧ it.target = j := by
  unfold State.frees
  rw [← and_or_left]
  refine and_congr_right fun _ => ⟨fun ⟨v, y, it, hl, r⟩ => ?_, ?_⟩
  · by_cases hl' : v ≤ n
    · exact .inl ⟨v, y, it, hl', r⟩
    · obtain rfl : v = n + 1 := by omega
      exact .inr ⟨y, it, r⟩
  · rintro (⟨v, y, it, hl, r⟩ | ⟨y, it, r⟩)
    · exact ⟨v, y, it, by omega, r⟩
    · exact ⟨n + 1, y, it, le_rfl, r⟩

theorem State.HandedOver.interruptVisit (h : s.HandedOver t k n (s.frees k n)) :
    s.HandedOver (State.interruptVisit k t (n + 1)) k (n + 1) (s.frees k (n + 1)) := by
  have hvis : t.visit? (n + 1) = s.visit? (n + 1) := by rw [h.visits, if_neg (by omega)]
  unfold State.interruptVisit
  rw [hvis]
  cases hx : s.visit? (n + 1) with
  | none =>
    refine cast (congrArg _ (funext fun j => propext ?_)) (h.skip fun y hy => by rw [hx] at hy; cases hy)
    rw [State.frees_succ, hx]
    exact (or_iff_left fun ⟨_, _, _, e, _⟩ => nomatch e).symm
  | some x =>
    by_cases hany : x.items.any (fun it => it.holds k) = true
    · obtain ⟨a, ha, hk⟩ := List.any_eq_true.mp hany
      dsimp only
      rw [if_pos hany]
      refine cast (congrArg _ (funext fun j => propext ?_)) ((h.releaseTargets x.items).strike hx ha hk)
      rw [State.frees_succ, hx]
      simp
    · dsimp only
      rw [if_neg hany]
      have hno : ∀ it ∈ x.items, it.holds k ≠ true := fun it hm hk => hany (List.any_eq_true.mpr ⟨it, hm, hk⟩)
      refine cast (congrArg _ (funext fun j => propext ?_)) (h.skip fun y hy => by rw [hx] at hy; cases hy; exact hno)
      rw [State.frees_succ, hx]
      refine (or_iff_left ?_).symm
      rintro ⟨-, y, it, hy, hm, hk, -⟩
      cases hy
      exact hno it hm hk

end

/-- The whole hand-over of permit slot `k`. -/
theorem State.interruptHolders_handedOver (s : State) (k : Nat) :
    s.HandedOver (s.interruptHolders k) k Config.visitCount (s.frees k Config.visitCount) := by
  refine foldl_numbers (P := fun n t => s.HandedOver t k n (s.frees k n)) _ ?_ fun n t _ h => h.interruptVisit
  refine cast (congrArg _ (funext fun j => propext ?_)) (s.handedOver_zero k)
  refine ⟨False.elim, fun ⟨_, v, y, it, hv, hy, _⟩ => ?_⟩
  have := tget_some _ _ _ hy
  omega

end Sys2Proof.Machine

namespace Sys2Proof.Machine

/-! ## A report moves the permit of its cabinet (R121, R124, R125) -/

/-- A bypass begins under the permit. -/
abbrev Permit.begins (p : Permit) (m : Mode) : Prop := (p.state = .granted ∨ p.state = .returning) ∧ m = .maintenanceBypass

/-- The permit leaves Active or Overdue. -/
abbrev Permit.leaves (p : Permit) (m : Mode) : Prop :=
  (p.state = .active ∨ p.state = .overdue) ∧ (m = .inverter ∨ m = .staticBypass ∨ m = .battery)

/-- The report raises PERMIT OVERDUE. -/
abbrev Permit.overruns (p : Permit) (m : Mode) : Prop := p.begins m ∧ p.remaining = 0

/-- The report raises PERMIT CHANGED. -/
abbrev Permit.changes (p : Permit) (m : Mode) : Prop :=
  (p.begins m ∧ p.remaining ≠ 0) ∨ p.leaves m ∨ (p.state = .returning ∧ m = .inverter)

/-- The permit after a report of mode `m`; none where it is closed. -/
def Permit.reported (p : Permit) (m : Mode) : Option Permit :=
  match p.state, m with
  | .granted, .maintenanceBypass => some { p with state := if p.remaining = 0 then .overdue else .active, timeout := none }
  | .active, .inverter => some { p with state := .returning }
  | .active, .staticBypass => some { p with state := .returning }
  | .active, .battery => some { p with state := .returning }
  | .overdue, .inverter => some { p with state := .returning }
  | .overdue, .staticBypass => some { p with state := .returning }
  | .overdue, .battery => some { p with state := .returning }
  | .returning, .inverter => none
  | .returning, .maintenanceBypass => some { p with state := if p.remaining = 0 then .overdue else .active, timeout := none }
  | _, _ => some p

/-- The notice slot after a report of mode `m`, with `serial` for a new posting. -/
def Permit.slotAfter (p : Permit) (m : Mode) (serial : Nat) (slot : Option Posting) : Option Posting :=
  if p.state = .granted ∧ m = .maintenanceBypass then retracted .grant slot
  else if p.state = .returning ∧ m = .inverter then some { notice := .withdraw, serial := serial }
  else if p.state = .returning ∧ m = .maintenanceBypass ∧ p.recallAsked = true then some { notice := .recall, serial := serial }
  else slot

/-- The state once the permit `p` in slot `k` has moved on a report of mode `m` from its cabinet, whose entry is `y`; `serial` is the
number of the next posting. -/
def State.moved (k : Nat) (p : Permit) (m : Mode) (y : Cabinet) (serial : Nat) (t : State) : State :=
  { t with
    permits := tset t.permits k (p.reported m)
    cabinets := tset t.cabinets p.cabinet (some { y with notice := p.slotAfter m t.link.nextSerial y.notice })
    link := { t.link with nextSerial := serial }
    attention := { t.attention with
      permitOverdue := if p.overruns m then t.attention.permitOverdue ||| markOf 8 k else t.attention.permitOverdue
      permitChanged := if p.changes m then t.attention.permitChanged ||| markOf 8 k else t.attention.permitChanged }
    store := { t.store with
      queue := if p.overruns m ∨ p.changes m then enqueue (permitImage k) t.store.queue else t.store.queue } }

section
variable {t : State} {k : Nat} {p : Permit} {y : Cabinet}

/-- A report that no row of the tables takes. -/
theorem State.moved_idle (hp : t.permit? k = some p) (hy : t.cabinet? p.cabinet = some y) {m : Mode} (hb : ¬p.begins m)
    (hl : ¬p.leaves m) (hc : ¬(p.state = .returning ∧ m = .inverter)) (hr : p.reported m = some p) :
    t.moved k p m y t.link.nextSerial = t := by
  have hs : p.slotAfter m t.link.nextSerial y.notice = y.notice := by
    unfold Permit.slotAfter
    rw [if_neg fun e => hb ⟨.inl e.1, e.2⟩, if_neg hc, if_neg fun e => hb ⟨.inr e.1, e.2.1⟩]
  have ho : ¬p.overruns m := fun e => hb e.1
  have hch : ¬p.changes m := by
    rintro (e | e | e)
    · exact hb e.1
    · exact hl e
    · exact hc e
  unfold State.moved
  rw [hr, hs, if_neg ho, if_neg hch, if_neg (not_or.mpr ⟨ho, hch⟩), tset_tget _ _ _ hp, tset_tget _ _ _ hy]

/-- A move that leaves the notice slot alone leaves the Cabinet Table alone. -/
theorem State.moved_of_slot (hy : t.cabinet? p.cabinet = some y) (serial : Nat) {m : Mode}
    (h : p.slotAfter m t.link.nextSerial y.notice = y.notice) :
    t.moved k p m y serial = { t.moved k p m y serial with cabinets := t.cabinets } := by
  unfold State.moved
  rw [h, tset_tget _ _ _ hy]

theorem State.enterBypass_eq (t : State) (k : Nat) (p : Permit) : t.enterBypass k p = { t with
    permits := tset t.permits k (some { p with state := if p.remaining = 0 then .overdue else .active, timeout := none })
    attention := { t.attention with
      permitOverdue := if p.remaining = 0 then t.attention.permitOverdue ||| markOf 8 k else t.attention.permitOverdue
      permitChanged := if p.remaining = 0 then t.attention.permitChanged else t.attention.permitChanged ||| markOf 8 k }
    store := { t.store with queue := enqueue (permitImage k) t.store.queue } } := by
  unfold State.enterBypass
  by_cases h0 : p.remaining = 0
  · simp only [if_pos h0]; rfl
  · simp only [if_neg h0]; rfl

/-- The state `u` is `t` once the report has moved the permit and the work under it, with some number for the next posting. -/
def State.MovedTo (t u : State) (k : Nat) (p : Permit) (m : Mode) (y : Cabinet) : Prop :=
  ∃ serial, u = if p.leaves m then (t.moved k p m y serial).interruptHolders k else t.moved k p m y serial

theorem State.movedTo_idle (hp : t.permit? k = some p) (hy : t.cabinet? p.cabinet = some y) {m : Mode} (hb : ¬p.begins m)
    (hl : ¬p.leaves m) (hc : ¬(p.state = .returning ∧ m = .inverter)) (hr : p.reported m = some p) : t.MovedTo t k p m y :=
  ⟨_, ((if_neg hl).trans (State.moved_idle hp hy hb hl hc hr)).symm⟩

theorem State.enterBypass_cabinet? (t : State) (k : Nat) (p : Permit) (c : Nat) : (t.enterBypass k p).cabinet? c = t.cabinet? c := by
  rw [State.enterBypass_eq]; rfl

theorem State.reportOnGranted_movedTo (hp : t.permit? k = some p) (hy : t.cabinet? p.cabinet = some y) (hs : p.state = .granted)
    (m : Mode) : t.MovedTo (t.reportOnGranted k p m) k p m y := by
  obtain ⟨c, v, st, left, timeout, asked, spare, auto⟩ := p
  cases hs
  cases m with
  | maintenanceBypass =>
    refine ⟨t.link.nextSerial, ?_⟩
    rw [State.reportOnGranted, State.retract_present _ _ _ y ((t.enterBypass_cabinet? _ _ _).trans hy), State.enterBypass_eq]
    cases left <;> rfl
  | _ => exact State.movedTo_idle hp hy (by simp) (by simp) (by simp) rfl

theorem State.reportOnActive_movedTo (hp : t.permit? k = some p) (hy : t.cabinet? p.cabinet = some y)
    (hs : p.state = .active ∨ p.state = .overdue) (m : Mode) : t.MovedTo (t.reportOnActive k p m) k p m y := by
  by_cases hm : m = .inverter ∨ m = .staticBypass ∨ m = .battery
  · have hl : p.leaves m := ⟨hs, hm⟩
    refine ⟨t.link.nextSerial, ?_⟩
    rw [State.reportOnActive, if_pos hm, if_pos hl]
    refine congrArg (State.interruptHolders k) (Eq.trans ?_ (State.moved_of_slot hy _ ?_).symm)
    · obtain ⟨c, v, st, left, timeout, asked, spare, auto⟩ := p
      rcases hs with rfl | rfl <;> rcases hm with rfl | rfl | rfl <;> rfl
    · unfold Permit.slotAfter
      rcases hs with e | e <;> simp [e]
  · rw [State.reportOnActive, if_neg hm]
    refine State.movedTo_idle hp hy ?_ (fun e => hm e.2) ?_ ?_
    · rcases hs with e | e <;> simp [e]
    · rcases hs with e | e <;> simp [e]
    · unfold Permit.reported
      rcases hs with e | e <;> rw [e] <;> cases m <;> simp at hm <;> rfl

theorem State.reportOnReturning_movedTo (hp : t.permit? k = some p) (hy : t.cabinet? p.cabinet = some y) (hs : p.state = .returning)
    (m : Mode) : t.MovedTo (t.reportOnReturning k p m) k p m y := by
  cases m with
  | inverter =>
    refine ⟨t.link.nextSerial + 1, ?_⟩
    rw [State.reportOnReturning, State.closeRaising, State.closePermit_standing k t p hp, if_pos (.inr hs),
      State.post_present _ _ _ y hy]
    obtain ⟨c, v, st, left, timeout, asked, spare, auto⟩ := p
    cases hs
    rfl
  | maintenanceBypass =>
    have hy' := (t.enterBypass_cabinet? k p _).trans hy
    obtain ⟨c, v, st, left, timeout, asked, spare, auto⟩ := p
    cases hs
    cases asked with
    | true =>
      refine ⟨t.link.nextSerial + 1, ?_⟩
      rw [State.reportOnReturning, if_pos rfl, State.post_present _ _ _ y hy', State.enterBypass_eq]
      cases left <;> rfl
    | false =>
      refine ⟨t.link.nextSerial, ?_⟩
      rw [State.reportOnReturning, if_neg Bool.false_ne_true, State.enterBypass_eq]
      refine Eq.trans ?_ (State.moved_of_slot hy _ rfl).symm
      cases left <;> rfl
  | _ =>
    refine State.movedTo_idle hp hy ?_ ?_ ?_ ?_
    · simp
    · simp [hs]
    · simp
    · unfold Permit.reported; rw [hs]

/-- The row of the tables that a report takes, and the interruption of the work where the permit leaves Active or Overdue. -/
theorem State.reportOnPermit_movedTo (hp : t.permit? k = some p) (hy : t.cabinet? p.cabinet = some y) (m : Mode) :
    t.MovedTo (t.reportOnPermit k p m) k p m y := by
  unfold State.reportOnPermit
  split
  · exact State.reportOnGranted_movedTo hp hy ‹_› m
  · exact State.reportOnActive_movedTo hp hy (.inl ‹_›) m
  · exact State.reportOnActive_movedTo hp hy (.inr ‹_›) m
  · exact State.reportOnReturning_movedTo hp hy ‹_› m

end

end Sys2Proof.Machine

namespace Sys2Proof.Machine

/-- The flag after a report of mode `m` from a cabinet that a permit names (R134, R135). -/
theorem State.judgeBypass_named {t : State} {c : Nat} {y : Cabinet} (h : t.cabinet? c = some y) (m : Mode) :
    t.judgeBypass c m true = { t with cabinets := tset t.cabinets c (some { y with
      unauthorised := if m = .maintenanceBypass ∨ m = .off then y.unauthorised else false }) } := by
  have hsame : tset t.cabinets c (some y) = t.cabinets := tset_tget _ _ _ h
  unfold State.judgeBypass
  rw [h]
  cases m with
  | maintenanceBypass => exact congrArg (fun l => { t with cabinets := l }) hsame.symm
  | off => exact congrArg (fun l => { t with cabinets := l }) hsame.symm
  | _ => rfl

/-- What the Permit and Visit blocks make of a report of mode `m` from the cabinet with entry `y` that the permit `p` names. -/
theorem State.permitReport_named {t : State} {c k : Nat} {p : Permit} {y : Cabinet} (hp : t.permitOf c = some (k, p))
    (hy : t.cabinet? c = some y) (m : Mode) : ∃ serial, ∃ b : State,
      (t.moved k p m y serial).HandedOver b k (if p.leaves m then Config.visitCount else 0)
        (t.frees k (if p.leaves m then Config.visitCount else 0)) ∧
      t.permitReport c m = { b with cabinets := tset b.cabinets c (some { y with
        notice := p.slotAfter m t.link.nextSerial y.notice
        unauthorised := if m = .maintenanceBypass ∨ m = .off then y.unauthorised else false }) } := by
  obtain ⟨hk, rfl⟩ := State.permitOf_some hp
  obtain ⟨serial, hmove⟩ := State.reportOnPermit_movedTo hk hy m
  refine ⟨serial, t.reportOnPermit k p m, ?_, ?_⟩
  · rw [hmove]
    split
    · exact State.interruptHolders_handedOver _ k
    · refine cast (congrArg _ (funext fun j => propext ?_)) (State.handedOver_zero (t.moved k p m y serial) k)
      refine ⟨False.elim, fun ⟨_, v, y, it, hv, hy, _⟩ => ?_⟩
      have := tget_some _ _ _ hy
      omega
  · have hc : (t.reportOnPermit k p m).cabinet? p.cabinet =
        some { y with notice := p.slotAfter m t.link.nextSerial y.notice } := by
      have hm : (t.moved k p m y serial).cabinet? p.cabinet =
          some { y with notice := p.slotAfter m t.link.nextSerial y.notice } := tget_tset_some _ _ _ _ hy
      rw [hmove]
      split
      · rw [(State.interruptHolders_handedOver _ k).frame]
        exact hm
      · exact hm
    unfold State.permitReport
    rw [hp]
    exact State.judgeBypass_named hc m

/-- The records that the end of an Active or Overdue permit brings back from Retiring: the targets of the REPLACE STRING items that
hold it (R54, R153). -/
def State.freedBy (s : State) (k : Nat) (p : Permit) (m : Mode) (j : Nat) : Prop := p.leaves m ∧ s.retiringAt j ∧
  ∃ v y it, s.visit? v = some y ∧ it ∈ y.items ∧ it.holds k = true ∧ it.kind = .replaceString ∧ it.target = j

/-- The state `u` with all of `i` that a report can touch in the Permit and Visit blocks. -/
def State.withReportedOf (u i : State) : State :=
  { u with
    cabinets := i.cabinets, groups := i.groups, permits := i.permits, strings := i.strings, visits := i.visits
    link := { u.link with nextSerial := i.link.nextSerial }
    attention := { u.attention with
      permitOverdue := i.attention.permitOverdue, permitChanged := i.attention.permitChanged
      stringStateChanged := i.attention.stringStateChanged, visitItemInterrupted := i.attention.visitItemInterrupted }
    store := { u.store with queue := i.store.queue } }

/-- `u` is the state `i` once a report of mode `m` has moved the permit `p` in slot `k`, which names the cabinet `c` with entry `y`. -/
structure State.PermitReported (i u : State) (c k : Nat) (p : Permit) (m : Mode) (y : Cabinet) : Prop where
  permits : ∀ j, u.permit? j = if j = k then p.reported m else i.permit? j
  cabinets : ∀ d, u.cabinet? d = if d = c then some { y with
    notice := p.slotAfter m i.link.nextSerial y.notice
    unauthorised := if m = .maintenanceBypass ∨ m = .off then y.unauthorised else false } else i.cabinet? d
  overdue : u.attention.permitOverdue =
    if p.overruns m then i.attention.permitOverdue ||| markOf 8 k else i.attention.permitOverdue
  changed : u.attention.permitChanged =
    if p.changes m then i.attention.permitChanged ||| markOf 8 k else i.attention.permitChanged
  kept : ∀ j, ¬i.freedBy k p m j → u.string? j = i.string? j
  released : ∀ j r, i.freedBy k p m j → i.string? j = some r → u.string? j = some (r.released (i.profile? r.profile))
  marked : ∀ n, n < 64 → (u.attention.stringStateChanged.getLsbD n = true ↔
    i.attention.stringStateChanged.getLsbD n = true ∨ i.freedBy k p m (n + 1))
  visits : ∀ v, (¬p.leaves m → u.visit? v = i.visit? v) ∧
    (p.leaves m → u.visit? v = (i.visit? v).map (fun y => { y with items := y.items.map (interruptItem k) }))
  interrupted : ∀ n, n < 4 → (u.attention.visitItemInterrupted.getLsbD n = true ↔
    i.attention.visitItemInterrupted.getLsbD n = true ∨
      p.leaves m ∧ ∃ y it, i.visit? (n + 1) = some y ∧ it ∈ y.items ∧ it.holds k = true)
  queue : ∀ id, id ∈ u.store.queue ↔ (id ∈ i.store.queue ∨
      (p.begins m ∨ p.leaves m ∨ p.state = .returning ∧ m = .inverter) ∧ id = permitImage k) ∨
    (∃ j, i.freedBy k p m j ∧ id = stringImage j) ∨
    p.leaves m ∧ ∃ v y it, i.visit? v = some y ∧ it ∈ y.items ∧ it.holds k = true ∧ id = visitImage v
  rest : u.withReportedOf i = i

theorem Permit.overruns_or_changes_iff (p : Permit) (m : Mode) : p.overruns m ∨ p.changes m ↔
    p.begins m ∨ p.leaves m ∨ (p.state = .returning ∧ m = .inverter) := by
  by_cases h : p.remaining = 0
  · simp only [Permit.overruns, Permit.changes, h, ne_eq, not_true, and_false, and_true, false_or]
  · simp only [Permit.overruns, Permit.changes, h, ne_eq, not_false_iff, and_false, and_true, false_or]

/-- On a full table no visit lies beyond the last slot. -/
theorem State.frees_iff_freedBy {i : State} (hz : i.visits.length = Config.visitCount) (k : Nat) (p : Permit) (m : Mode) (j : Nat) :
    i.frees k (if p.leaves m then Config.visitCount else 0) j ↔ i.freedBy k p m j := by
  unfold State.frees State.freedBy
  by_cases hl : p.leaves m
  · rw [if_pos hl]
    exact ⟨fun ⟨h1, v, y, it, _, r⟩ => ⟨hl, h1, v, y, it, r⟩,
      fun ⟨_, h1, v, y, it, hy, r⟩ => ⟨h1, v, y, it, hz ▸ (tget_some _ _ _ hy).2, hy, r⟩⟩
  · refine iff_of_false (fun ⟨_, v, y, it, hv0, hy, _⟩ => ?_) fun e => hl e.1
    rw [if_neg hl] at hv0
    have := tget_some _ _ _ hy
    omega

theorem State.HandedOver.visits_of_leaves {a b : State} {k : Nat} {q : Prop} [Decidable q] {freed : Nat → Prop}
    (h : a.HandedOver b k (if q then Config.visitCount else 0) freed) (hz : a.visits.length = Config.visitCount) (v : Nat) :
    (¬q → b.visit? v = a.visit? v) ∧
    (q → b.visit? v = (a.visit? v).map (fun y => { y with items := y.items.map (interruptItem k) })) := by
  refine ⟨fun hq => ?_, fun hq => ?_⟩
  · rw [h.visits, if_neg hq]
    split
    · obtain rfl : v = 0 := by omega
      rfl
    · rfl
  · rw [h.visits, if_pos hq]
    split
    · rfl
    · rename_i hv
      cases hy : a.visit? v with
      | none => rfl
      | some y => exact absurd (hz ▸ (tget_some _ _ _ hy).2) hv

theorem State.struck_iff {a : State} (hz : a.visits.length = Config.visitCount) (k : Nat) (q : Prop) [Decidable q] (id : ImageId) :
    (∃ v y it, v ≤ (if q then Config.visitCount else 0) ∧ a.visit? v = some y ∧ it ∈ y.items ∧ it.holds k = true ∧
      id = visitImage v) ↔ q ∧ ∃ v y it, a.visit? v = some y ∧ it ∈ y.items ∧ it.holds k = true ∧ id = visitImage v := by
  by_cases hq : q
  · rw [if_pos hq, and_iff_right hq]
    exact ⟨fun ⟨v, y, it, _, r⟩ => ⟨v, y, it, r⟩, fun ⟨v, y, it, hy, r⟩ => ⟨v, y, it, hz ▸ (tget_some _ _ _ hy).2, hy, r⟩⟩
  · rw [if_neg hq]
    refine iff_of_false (fun ⟨v, y, it, hv0, hy, _⟩ => ?_) fun e => hq e.1
    have := tget_some _ _ _ hy
    omega

theorem State.permitReport_reported {i : State} {c k : Nat} {p : Permit} {y : Cabinet} (hz : i.visits.length = Config.visitCount)
    (hp : i.permitOf c = some (k, p)) (hy : i.cabinet? c = some y) (m : Mode) :
    i.PermitReported (i.permitReport c m) c k p m y := by
  obtain ⟨hk, hc⟩ := State.permitOf_some hp
  obtain ⟨serial, b, hb, hu⟩ := State.permitReport_named hp hy m
  rw [show i.frees k (if p.leaves m then Config.visitCount else 0) = i.freedBy k p m from
    funext fun j => propext (State.frees_iff_freedBy hz k p m j)] at hb
  have hbc : ∀ d, b.cabinet? d =
      if d = c then some { y with notice := p.slotAfter m i.link.nextSerial y.notice } else i.cabinet? d := fun d => by
    rw [hb.frame, ← hc]
    exact tget_tset_of_some _ _ _ _ _ (hc ▸ hy)
  rw [hu]
  refine ⟨fun j => ?_, fun d => ?_, ?_, ?_, hb.kept, hb.released, hb.marked, hb.visits_of_leaves hz, fun n hn => ?_, fun id => ?_, ?_⟩
  · rw [hb.frame]
    exact tget_tset_of_some _ _ _ _ _ hk
  · refine (tget_tset_of_some _ _ _ _ _ ((hbc c).trans (if_pos rfl))).trans ?_
    split
    · rfl
    · rename_i hd
      exact (hbc d).trans (if_neg hd)
  · rw [hb.frame]; rfl
  · rw [hb.frame]; rfl
  · refine (hb.interrupted n hn).trans (or_congr_right (and_congr_left fun _ => ?_))
    by_cases hl : p.leaves m
    · rw [if_pos hl]
      exact iff_of_true hn hl
    · rw [if_neg hl]
      exact iff_of_false (Nat.not_lt_zero _) hl
  · refine (hb.queue id).trans (or_congr ?_ (or_congr_right (State.struck_iff (a := i) hz k _ id)))
    rw [← p.overruns_or_changes_iff]
    show id ∈ (if p.overruns m ∨ p.changes m then enqueue (permitImage k) i.store.queue else i.store.queue) ↔ _
    split
    · rename_i hmove
      rw [mem_enqueue, and_iff_right hmove]
    · rename_i hmove
      exact (or_iff_left fun e => hmove e.1).symm
  · rw [hb.frame]; rfl

/-- The decision point of a report from a live poll's cabinet. -/
theorem exec_replyEnd_taken {s : State} {chars : List RawChar} {fl : Flight} {x : Cabinet} {rep : Report}
    (hf : s.link.flight = some fl) (hl : fl.live = true) (hx : s.cabinet? fl.cabinet = some x)
    (hj : judgeReply fl.cabinet (chars.map receive) = .report rep) : exec (.replyEnd chars) s =
      .next (((((s.closeWindow.contacted fl.cabinet x fl rep).intake fl.cabinet x.mode rep.givenMode (x.isNew rep) rep).permitReport
        fl.cabinet rep.givenMode).recompute).askReport fl.cabinet rep.givenMode fl) := by
  have he : exec (.replyEnd chars) s = .next (s.takeReply (chars.map receive)) := rfl
  have ht : s.takeReply (chars.map receive) = s.closeWindow.takeReport fl.cabinet x fl rep := by
    simp only [State.takeReply, hf, hx, hl, if_true, hj]
  rw [he, ht]
  rfl

/-- What a state that differs from a report's in the waiting ask alone answers (R115, R116). -/
theorem State.askReport_cases {s w : State} (hask : w.ask = s.ask) (hport : w.port = s.port) (c : Nat) (m : Mode) (f : Flight) :
    (s.ask = none → w.askReport c m f = w) ∧
    (∀ a, s.ask = some a →
      (a.cabinet = c → m ≠ .inverter → m ≠ .staticBypass → w.askReport c m f = { w with
        ask := none
        port := { s.port with state := .replyReady, reply := some { code := 0x30, result := 0x03, body := [] } } }) ∧
      (a.cabinet ≠ c ∨ m = .inverter ∨ m = .staticBypass →
        (f.afterAsk = false → w.askReport c m f = w) ∧
        (f.afterAsk = true → w.askReport c m f =
          ({ w with ask := some { a with waitSet := a.waitSet.filter (fun n => n != c) } } : State).judgeIfSettled))) := by
  refine ⟨fun ha => State.askReport_none (hask.trans ha) _ _ _, fun a ha => ⟨fun hc h1 h2 => ?_, fun hc => ⟨fun hn => ?_, fun hy => ?_⟩⟩⟩
  · rw [← hc, State.askReport_ends (hask.trans ha) _ _ h1 h2, State.endAsk_eq, hask, ha, hport]
    rfl
  · rw [State.askReport_stays (hask.trans ha) f hc, hn, if_neg Bool.false_ne_true]
  · rw [State.askReport_stays (hask.trans ha) f hc, if_pos hy]

theorem or_regroup {a b c d e : Prop} : ((a ∨ b) ∨ c) ∨ d ∨ e ↔ a ∨ c ∨ e ∨ d ∨ b := by
  constructor
  · rintro (((h | h) | h) | h | h) <;> simp [h]
  · rintro (h | h | h | h | h) <;> simp [h]

/-- The intake neither makes a record Retiring nor releases one (R54, R62). -/
theorem State.reportWork_retiring (s : State) (c : Nat) (x : Cabinet) (rep : Report) (k : Nat) (r : StringRecord) :
    (s.reportWork c x rep k r).r.state = .retiring ↔ r.state = .retiring := by
  have hhold : (s.reportWork c x rep k r).r.hold = r.hold := by
    unfold State.reportWork
    split
    · exact intakeBlock_hold _ _ _ _ _ _
    · rfl
  by_cases h : r.state = .retiring
  · exact iff_of_true ((StringRecord.hold_some _ _).mp (hhold.trans ((StringRecord.hold_some r _).mpr ⟨h, rfl⟩))).1 h
  · refine iff_of_false (fun e => ?_) h
    have := (StringRecord.hold_some _ _).mpr ⟨e, rfl⟩
    rw [hhold, StringRecord.hold_none h] at this
    cases this

/-- `i` is the state `s` once an accepted report has been taken by the Cabinet and String blocks. -/
structure State.ReportIntake (s i : State) (fl : Flight) (x : Cabinet) (rep : Report) : Prop where
  strings : ∀ j, i.string? j = (s.string? j).map (fun r => (s.reportWork fl.cabinet x rep j r).r)
  changed : ∀ n, n < 64 → (i.attention.stringStateChanged.getLsbD n = true ↔ s.attention.stringStateChanged.getLsbD n = true ∨
    ∃ r, s.string? (n + 1) = some r ∧ (s.reportWork fl.cabinet x rep (n + 1) r).changed = true)
  queue : ∀ id, id ∈ i.store.queue ↔ id ∈ s.store.queue ∨
    ∃ j r, s.string? j = some r ∧ (s.reportWork fl.cabinet x rep j r).save = true ∧ id = stringImage j
  cabinets : ∀ d, i.cabinet? d = if d = fl.cabinet then
    some { x.reported rep rep.givenMode with notice := x.reportedNotice rep fl.posting } else s.cabinet? d
  frame : i = { s with
    cabinets := i.cabinets, strings := i.strings
    link := { s.link with flight := none, line := .quiet, failureRun := 0 }
    attention := { s.attention with
      cabinetBack := if x.link = .lost then s.attention.cabinetBack ||| markOf 24 fl.cabinet else s.attention.cabinetBack
      stringStateChanged := i.attention.stringStateChanged }
    store := { s.store with queue := i.store.queue } }

theorem State.reportIntake {s : State} {fl : Flight} {x : Cabinet} {rep : Report} (hx : s.cabinet? fl.cabinet = some x)
    (hb : ∀ p, (rep.block p).InRange) : s.ReportIntake
      ((s.closeWindow.contacted fl.cabinet x fl rep).intake fl.cabinet x.mode rep.givenMode (x.isNew rep) rep) fl x rep := by
  have hw := (s.closeWindow.contacted fl.cabinet x fl rep).intake_worked fl.cabinet x.mode (x.isNew rep) rep hb
  generalize (s.closeWindow.contacted fl.cabinet x fl rep).intake fl.cabinet x.mode rep.givenMode (x.isNew rep) rep = i at *
  rw [State.contacted_eq, Cabinet.afterReport_eq] at hw
  replace hw := hw.congr (out' := s.reportWork fl.cabinet x rep) fun k r _ => rfl
  refine ⟨hw.strings, fun n hn => ?_, hw.queue, fun d => ?_, ?_⟩
  · rw [hw.changed n hn, Bool.or_eq_true, Option.any_eq_true]
    rfl
  · rw [hw.cabinet?]
    exact tget_tset_of_some _ _ _ _ _ hx
  · have hc : i.cabinets = _ := hw.cabinets
    rw [hc]
    exact hw.frame

theorem State.ReportIntake.retiringAt {s i : State} {fl : Flight} {x : Cabinet} {rep : Report} (h : s.ReportIntake i fl x rep)
    (j : Nat) : i.retiringAt j ↔ ∃ r, s.string? j = some r ∧ r.state = .retiring := by
  unfold State.retiringAt
  rw [h.strings]
  refine ⟨fun ⟨q, hq, hs⟩ => ?_, fun ⟨r, hr, hs⟩ => ⟨_, by rw [hr]; rfl, (s.reportWork_retiring _ x rep j r).mpr hs⟩⟩
  obtain ⟨r, hr, rfl⟩ := Option.map_eq_some_iff.mp hq
  exact ⟨r, hr, (s.reportWork_retiring _ x rep j r).mp hs⟩

end Sys2Proof.Machine

section
open Sys2Proof Sys2Proof.Machine

/-- Settles O49: the entry is settled and the records take their blocks as without a permit; then the permit takes its row, and where it
leaves Active or Overdue the work under it is handed over. -/
theorem reportMovesThePermit : Obligations.ReportMovesThePermit := by
  intro chars s fl x rep m k p leaves begins freed hz hf hl hx hj hp hm hleaves hbegins hfreed
  obtain rfl : m = rep.givenMode := hm
  obtain rfl : leaves = p.leaves rep.givenMode := propext hleaves
  obtain rfl : begins = p.begins rep.givenMode := propext hbegins
  have hrun := exec_replyEnd_taken hf hl hx hj
  have hin : s.ReportIntake _ fl x rep := State.reportIntake hx (by
    obtain ⟨halted, rfl⟩ := judgeReply_report hj
    exact reportOf_block_inRange halted _)
  generalize (s.closeWindow.contacted fl.cabinet x fl rep).intake fl.cabinet x.mode rep.givenMode (x.isNew rep) rep = i at *
  have hip : i.permitOf fl.cabinet = some (k, p) := by rw [hin.frame]; exact hp
  have hu := State.permitReport_reported (by rw [hin.frame]; exact hz.visits) hip ((hin.cabinets _).trans (if_pos rfl)) rep.givenMode
  generalize i.permitReport fl.cabinet rep.givenMode = u at *
  have hvis : i.visit? = s.visit? := by rw [hin.frame]; rfl
  obtain rfl : freed = i.freedBy k p rep.givenMode := by
    funext j
    refine propext ((hfreed j).trans ?_)
    unfold State.freedBy
    rw [hin.retiringAt, hvis]
  have hrest := hu.rest
  have hask : u.recompute.ask = s.ask := (congrArg State.ask hrest :).trans (by rw [hin.frame])
  have hport : u.recompute.port = s.port := (congrArg State.port hrest :).trans (by rw [hin.frame])
  have hcab : ∀ d, u.cabinet? d = if d = fl.cabinet then some { x.reported rep rep.givenMode with
      notice := p.slotAfter rep.givenMode s.link.nextSerial (x.reportedNotice rep fl.posting)
      unauthorised := if rep.givenMode = .maintenanceBypass ∨ rep.givenMode = .off then x.unauthorised else false } else
        s.cabinet? d := fun d => by
    rw [hu.cabinets, hin.cabinets, show i.link.nextSerial = s.link.nextSerial by rw [hin.frame]]
    split <;> rfl
  have hover : u.attention.permitOverdue = if p.overruns rep.givenMode then s.attention.permitOverdue ||| markOf 8 k
      else s.attention.permitOverdue := hu.overdue.trans (by rw [hin.frame])
  have hchanged : u.attention.permitChanged = if p.changes rep.givenMode then s.attention.permitChanged ||| markOf 8 k
      else s.attention.permitChanged := hu.changed.trans (by rw [hin.frame])
  obtain ⟨hnone, hsome⟩ := State.askReport_cases hask hport fl.cabinet rep.givenMode fl
  refine ⟨u.recompute, fun ha => hrun.trans (congrArg Host.Outcome.next (hnone ha)), fun a ha => ?_,
    (hu.permits k).trans (if_pos rfl), fun j hj => (hu.permits j).trans ((if_neg hj).trans (by rw [hin.frame]; rfl)),
    _, s.link.nextSerial, rfl, (hcab _).trans (if_pos rfl), rfl, fun c hc => (hcab c).trans (if_neg hc),
    fun h => hover.trans (if_pos h), fun h => hover.trans (if_neg h), fun h => hchanged.trans (if_pos h),
    fun h => hchanged.trans (if_neg h), fun v => hvis ▸ hu.visits v, fun n hn => ?_, fun j r q hr hq => ⟨fun h => ?_, fun h => ?_⟩,
    fun j hj => ?_, fun n hn => ?_, fun id => ?_, ?_, ?_, ?_, ?_, ?_, hport, hask, ?_, ?_, State.recompute_current u⟩
  · obtain ⟨h1, h2⟩ := hsome a ha
    refine ⟨fun hc hm1 hm2 => hrun.trans (congrArg Host.Outcome.next (h1 hc hm1 hm2)), fun hc => ⟨fun hn => ?_, fun hy => ?_⟩⟩
    · exact hrun.trans (congrArg Host.Outcome.next ((h2 hc).1 hn))
    · exact hrun.trans (congrArg Host.Outcome.next ((h2 hc).2 hy))
  · have hmark : i.attention.visitItemInterrupted = s.attention.visitItemInterrupted := by rw [hin.frame]
    exact (hu.interrupted n hn).trans (by rw [hmark, hvis])
  · exact (hu.kept j h).trans ((hin.strings j).trans (by rw [hr, hq]; rfl))
  · have hprof : i.profile? = s.profile? := by rw [hin.frame]; rfl
    exact hprof ▸ hu.released j q h ((hin.strings j).trans (by rw [hr, hq]; rfl))
  · have hi : i.string? j = none := (hin.strings j).trans (by rw [hj]; rfl)
    refine (hu.kept j fun hfree => ?_).trans hi
    obtain ⟨r, hr, -⟩ := hfree.2.1
    rw [hi] at hr
    cases hr
  · exact (hu.marked n hn).trans ((or_congr_left (hin.changed n hn)).trans (or_assoc.trans (or_congr_right or_comm)))
  · refine (hu.queue id).trans ?_
    rw [hin.queue, hvis]
    exact or_regroup
  · exact (congrArg (fun t => t.attention.cabinetBack) hrest :).trans (by rw [hin.frame])
  · exact (congrArg (fun t => t.attention.unauthorisedBypass) hrest :).trans (by rw [hin.frame])
  · have hlink : { u.link with nextSerial := i.link.nextSerial } = i.link := (congrArg State.link hrest :)
    have hin' : i.link = _ := congrArg State.link hin.frame
    rw [hin'] at hlink
    exact hlink
  · exact (congrArg State.floor hrest :).trans (by rw [hin.frame])
  · exact (congrArg State.profiles hrest :).trans (by rw [hin.frame])
  · exact (congrArg (fun t => t.store.images) hrest :).trans (by rw [hin.frame])
  · exact (congrArg (fun t => t.store.writer) hrest :).trans (by rw [hin.frame])

end

namespace Sys2Proof.Machine

/-! ## Step 5 of a start: causes, images and notices (R137, R173) -/

/-- The duplicates among the permits in the slots `1..n` of `s` are closed: their causes and their images. -/
structure State.DuplicatesDropped (s t : State) (n : Nat) : Prop where
  changed : ∀ i, i < 8 → (t.attention.permitChanged.getLsbD i = true ↔ s.attention.permitChanged.getLsbD i = true ∨
    i < n ∧ ∃ p, s.permit? (i + 1) = some p ∧ s.permitOutdated (i + 1) p = true)
  queue : ∀ id, id ∈ t.store.queue ↔ id ∈ s.store.queue ∨
    ∃ k p, k ≤ n ∧ s.permit? k = some p ∧ s.permitOutdated k p = true ∧ id = permitImage k
  frame : t = { s with
    permits := t.permits
    attention := { s.attention with permitChanged := t.attention.permitChanged }
    store := { s.store with queue := t.store.queue } }

theorem State.duplicatesDropped_zero (s : State) : s.DuplicatesDropped s 0 where
  changed i _ := (or_iff_left fun h => absurd h.1 (Nat.not_lt_zero _)).symm
  queue id := (or_iff_left fun ⟨k, p, hk, hp, _⟩ => by have := tget_some _ _ _ hp; omega).symm
  frame := rfl

section
variable {s t : State} {n : Nat}

theorem State.DuplicatesDropped.skip (h : s.DuplicatesDropped t n)
    (hn : ∀ p, s.permit? (n + 1) = some p → s.permitOutdated (n + 1) p ≠ true) : s.DuplicatesDropped t (n + 1) := by
  refine ⟨fun i hi => (h.changed i hi).trans (or_congr_right ?_), fun id => (h.queue id).trans (or_congr_right ?_), h.frame⟩
  · refine ⟨fun ⟨hl, r⟩ => ⟨by omega, r⟩, fun ⟨hl, p, hp, ho⟩ => ⟨?_, p, hp, ho⟩⟩
    by_contra hne
    obtain rfl : i = n := by omega
    exact hn p hp ho
  · refine exists_congr fun k => exists_congr fun p => ⟨fun ⟨hl, r⟩ => ⟨by omega, r⟩, fun ⟨hl, hp, ho, e⟩ => ⟨?_, hp, ho, e⟩⟩
    by_contra hne
    obtain rfl : k = n + 1 := by omega
    exact hn p hp ho

theorem State.DuplicatesDropped.drop (h : s.DuplicatesDropped t n) {p : Permit} (hp : s.permit? (n + 1) = some p)
    (ho : s.permitOutdated (n + 1) p = true) : s.DuplicatesDropped (t.dropPermit (n + 1)) (n + 1) := by
  refine ⟨fun i hi => ?_, fun id => ?_, ?_⟩
  · show (t.attention.permitChanged ||| markOf 8 (n + 1)).getLsbD i = true ↔ _
    rw [BitVec.getLsbD_or, Bool.or_eq_true, markOf_getLsbD _ hi, decide_eq_true_eq, h.changed i hi, or_assoc]
    refine or_congr_right ⟨?_, fun ⟨hl, r⟩ => ?_⟩
    · rintro (⟨hl, r⟩ | e)
      · exact ⟨by omega, r⟩
      · obtain rfl : i = n := by omega
        exact ⟨by omega, p, hp, ho⟩
    · by_cases hl' : i < n
      · exact .inl ⟨hl', r⟩
      · exact .inr (by omega)
  · refine (mem_enqueue _ _ _).trans ((or_congr_left (h.queue id)).trans ?_)
    rw [or_assoc]
    refine or_congr_right ⟨?_, fun ⟨k, q, hl, hq, r⟩ => ?_⟩
    · rintro (⟨k, q, hl, r⟩ | e)
      · exact ⟨k, q, by omega, r⟩
      · exact ⟨n + 1, p, le_rfl, hp, ho, e⟩
    · by_cases hl' : k ≤ n
      · exact .inl ⟨k, q, hl', hq, r⟩
      · obtain rfl : k = n + 1 := by omega
        exact .inr r.2
  · conv_lhs => rw [h.frame]
    rfl

end

theorem State.dropDuplicates_dropped (s : State) :
    s.DuplicatesDropped ((numbers Config.permitCount).foldl (State.dropDuplicate s) s) Config.permitCount := by
  refine foldl_numbers (P := fun n t => s.DuplicatesDropped t n) _ s.duplicatesDropped_zero fun n t _ h => ?_
  unfold State.dropDuplicate
  cases hp : s.permit? (n + 1) with
  | none => exact h.skip fun p e => by rw [hp] at e; cases e
  | some p =>
    dsimp only
    split
    · rename_i ho
      exact h.drop hp ho
    · rename_i ho
      exact h.skip fun q e => by rw [hp] at e; cases e; exact ho

/-- What the second pass makes of a permit, its notice, cause and image included (R137). -/
def State.restoreWork (s : State) (p : Permit) : PermitWork :=
  { left := s.restoredPermit p
    note := if p.state ≠ .granted ∨ (s.cabinet? p.cabinet).isNone = true then none
      else if s.floor.utility = .present then some .grant else some .withdraw
    changed := (s.restoredPermit p).isNone
    overdue := false
    save := (s.restoredPermit p).isNone || s.visitMissing p.visit }

section
variable {s t : State} {k : Nat} {p : Permit}

theorem State.restoredPermit_absent (h : (s.cabinet? p.cabinet).isNone = true) : s.restoredPermit p = none := if_pos h

theorem State.restoredPermit_withdrawn (hg : p.state = .granted) (hu : s.floor.utility ≠ .present) : s.restoredPermit p = none := by
  unfold State.restoredPermit
  split
  · rfl
  · exact if_pos ⟨hg, hu⟩

theorem State.restoredPermit_kept (hc : (s.cabinet? p.cabinet).isNone ≠ true) (hg : p.state = .granted → s.floor.utility = .present) :
    s.restoredPermit p = some { p with
      timeout := if p.state = .granted then some s.floor.config.grantTimeout else p.timeout
      visit := if s.visitMissing p.visit = true then none else p.visit } := by
  unfold State.restoredPermit
  rw [if_neg hc, if_neg fun e => e.2 (hg e.1)]

/-- A permit closed with no notice. -/
theorem State.permitWorked_drop (h : s.permit? k = some p) : s.PermitWorked (s.dropPermit k) k p
    { left := none, note := none, changed := true, overdue := false, save := true } := by
  refine ⟨fun j => State.setPermit_permit? h none j, fun c => ?_, le_rfl, fun i hi => ?_, fun i _ => ?_, fun id => ?_, rfl⟩
  · show s.cabinet? c = _
    cases s.cabinet? c <;> simp
  · simp [State.dropPermit, State.freePermit, raisePermitChanged, markOf_getLsbD k hi]
  · simp [State.dropPermit, State.freePermit, raisePermitChanged]
  · simp [State.dropPermit, State.freePermit]

/-- A permit rewritten with a notice to its cabinet. -/
theorem State.permitWorked_post (h : s.permit? k = some p) (q : Permit) (m : Notice) :
    s.PermitWorked ((s.setPermit k (some q)).post p.cabinet m) k p
      { left := some q, note := some m, changed := false, overdue := false, save := false } := by
  obtain ⟨ha, hs, hn, hr⟩ := (s.setPermit k (some q)).post_rest p.cabinet m
  refine ⟨fun j => ?_, fun c => ?_, hn, fun i hi => ?_, fun i _ => ?_, fun id => ?_, ?_⟩
  · rw [State.permit?, State.post_permits]
    exact State.setPermit_permit? h _ j
  · exact ((s.setPermit k (some q)).post_cabinet? p.cabinet m c).trans (by simp; rfl)
  · simp [ha]
  · simp [ha]
  · simp [hs]
  · exact (congrArg (fun u : State => { u with
      permits := s.permits, groups := s.groups, attention := { u.attention with
        permitChanged := s.attention.permitChanged, permitOverdue := s.attention.permitOverdue
        marginShort := s.attention.marginShort }, store := { u.store with queue := s.store.queue } }) hr :)

/-- The loss of a visit that is not open, after other work on the permit. -/
theorem State.PermitWorked.loseVisit {w : PermitWork} (h : s.PermitWorked t k p w) {q : Permit} (hq : w.left = some q) :
    s.PermitWorked (t.loseVisit k) k p { w with
      left := some { q with visit := if t.visitMissing q.visit = true then none else q.visit }
      save := w.save || t.visitMissing q.visit } := by
  have htq : t.permit? k = some q := (h.permits k).trans ((if_pos rfl).trans hq)
  have hperm : ∀ j, (t.loseVisit k).permit? j =
      if j = k then some { q with visit := if t.visitMissing q.visit = true then none else q.visit } else s.permit? j := fun j => by
    rw [State.loseVisit_permit? htq, h.permits]
    split <;> rfl
  have hlose : t.loseVisit k = if t.visitMissing q.visit = true then
      (t.setPermit k (some { q with visit := none })).checkpoint (permitImage k) else t := by
    rw [State.loseVisit, htq]
  cases hm : t.visitMissing q.visit with
  | true =>
    rw [hm] at hperm hlose
    rw [if_pos rfl] at hlose
    rw [hlose] at hperm ⊢
    refine ⟨hperm, h.cabinets, h.serial, h.changed, h.overdue, fun id => ?_, h.rest⟩
    refine (mem_enqueue _ _ _).trans ((or_congr_left (h.queue id)).trans ?_)
    simp only [Bool.or_true, true_and, or_assoc]
    exact or_congr_right (or_iff_right_of_imp And.right)
  | false =>
    rw [hm] at hperm hlose
    rw [if_neg Bool.false_ne_true] at hlose
    rw [hlose] at hperm ⊢
    exact ⟨hperm, h.cabinets, h.serial, h.changed, h.overdue, fun id => by rw [h.queue, Bool.or_false], h.rest⟩

/-- What the second pass makes of the permit in slot `k`. -/
theorem State.permitWorked_restore (h : s.permit? k = some p) : s.PermitWorked (s.restorePermit k) k p (s.restoreWork p) := by
  unfold State.restorePermit State.restoreWork
  rw [h]
  dsimp only
  by_cases hc : (s.cabinet? p.cabinet).isNone = true
  · rw [if_pos hc, State.restoredPermit_absent hc, if_pos (.inr hc)]
    exact State.permitWorked_drop h
  · rw [if_neg hc]
    by_cases hg : p.state = .granted
    · rw [if_pos hg, if_neg (not_or.mpr ⟨not_not.mpr hg, hc⟩)]
      by_cases hu : s.floor.utility = .present
      · rw [if_pos hu, if_pos hu, State.restoredPermit_kept hc fun _ => hu, if_pos hg]
        have hw := (State.permitWorked_post h { p with timeout := some s.floor.config.grantTimeout } .grant).loseVisit rfl
        have hv : ((s.setPermit k (some { p with timeout := some s.floor.config.grantTimeout })).post p.cabinet .grant).visitMissing =
            s.visitMissing := by
          unfold State.visitMissing State.visit?
          rw [(((State.PermitFrame.refl s).setPermit _ _).post _ _).visits]
        rw [hv] at hw
        exact hw
      · rw [if_neg hu, if_neg hu, State.restoredPermit_withdrawn hg hu]
        exact State.permitWorked_close h hg
    · rw [if_neg hg, if_pos (.inl hg), State.restoredPermit_kept hc fun e => absurd e hg, if_neg hg]
      exact (State.permitWorked_keep h).loseVisit rfl

theorem State.restoreWork_frame (h : s.PermitFrame t) : t.restoreWork = s.restoreWork := by
  funext q
  have hv : t.visitMissing = s.visitMissing := by unfold State.visitMissing State.visit?; rw [h.visits]
  have hc : (t.cabinet? q.cabinet).isNone = (s.cabinet? q.cabinet).isNone := by
    rw [← Option.not_isSome, ← Option.not_isSome, h.present]
  simp only [State.restoreWork, State.restoredPermit_frame h, hv, hc, h.floor]

end

/-- The second pass of step 5. -/
theorem State.restorePermits_passed (s : State) :
    s.PermitsPassed ((numbers Config.permitCount).foldl State.restorePermit s) Config.permitCount s.restoreWork := by
  refine (foldl_numbers (f := State.restorePermit) (s := s) (P := fun n t => s.PermitFrame t ∧ s.PermitsPassed t n s.restoreWork) _
    ⟨.refl s, s.permitsPassed_zero _⟩ fun n t _ ⟨hf, h⟩ => ⟨hf.trans (t.restorePermit_spec _).1, ?_⟩).2
  have hn : t.permit? (n + 1) = s.permit? (n + 1) := by rw [h.permits, if_neg (by omega)]
  cases hp : s.permit? (n + 1) with
  | none =>
    have hidle : t.restorePermit (n + 1) = t := by rw [State.restorePermit, hn, hp]
    rw [hidle]
    exact h.skip hp
  | some p => exact h.next hp (State.restoreWork_frame hf ▸ State.permitWorked_restore (hn.trans hp))

end Sys2Proof.Machine

namespace Sys2Proof.Machine

/-! ## Step 6 of a start: the visits (R160, R173) -/

/-- The record held Retiring for visit `v` (R54). -/
def StringRecord.heldFor (v : Nat) (r : StringRecord) : StringRecord := { r with state := .retiring, owner := some v }

theorem holdTarget_r (v : Nat) (r : StringRecord) : (holdTarget v (startWork r)).r = r.heldFor v := by
  unfold holdTarget
  split
  · rename_i h
    obtain ⟨hs, ho⟩ := h
    show r = { r with state := .retiring, owner := some v }
    rw [← hs, ← ho]
    rfl
  · exact takeState_r _ _

theorem State.holdTargetOf_string? (s : State) (v : Nat) (it : Item) (j : Nat) : (s.holdTargetOf v it).string? j =
    if it.replaces = true ∧ it.target = j then (s.string? j).map (StringRecord.heldFor v) else s.string? j := by
  unfold State.holdTargetOf
  simp only [← it.replaces_iff]
  by_cases hr : it.replaces = true
  · rw [if_pos hr]
    cases ht : s.string? it.target with
    | none =>
      rw [State.workOn_free _ _ _ ht]
      split
      · rename_i h
        rw [← h.2, ht]; rfl
      · rfl
    | some r =>
      rw [State.workOn_record _ _ _ _ ht, State.string?, State.commit_strings, tget_tset_of_some _ _ _ _ _ ht, holdTarget_r]
      by_cases hj : j = it.target
      · subst hj
        rw [if_pos rfl, if_pos ⟨hr, rfl⟩, ht]; rfl
      · rw [if_neg hj, if_neg fun e => hj e.2.symm]; rfl
  · rw [if_neg hr, if_neg fun e => hr e.1]

/-- The targets of the kept REPLACE STRING items. -/
theorem State.holdTargets_string? (s : State) (v : Nat) (items : List Item) (j : Nat) :
    (items.foldl (State.holdTargetOf v) s).string? j =
      if ∃ it ∈ items, it.replaces = true ∧ it.target = j then (s.string? j).map (StringRecord.heldFor v) else s.string? j := by
  induction items generalizing s with
  | nil => simp
  | cons it items ih =>
    rw [List.foldl_cons, ih, State.holdTargetOf_string?]
    have hidem : (fun r => StringRecord.heldFor v (StringRecord.heldFor v r)) = StringRecord.heldFor v := rfl
    by_cases hit : it.replaces = true ∧ it.target = j
    · simp only [List.mem_cons, exists_eq_or_imp, hit, and_self, true_or, if_true, Option.map_map, Function.comp_def, hidem, ite_self]
    · simp only [List.mem_cons, exists_eq_or_imp, hit, false_or, if_false]

/-- Work on a record keeps what waits in the dirty queue, the visits and the causes of the visits. -/
theorem State.workOn_keeps (s : State) (k : Nat) (f : Option Profile → Work → Work) :
    (s.workOn k f).visits = s.visits ∧ (s.workOn k f).attention.visitItemInterrupted = s.attention.visitItemInterrupted ∧
      ∀ id ∈ s.store.queue, id ∈ (s.workOn k f).store.queue := by
  cases hr : s.string? k with
  | none => rw [State.workOn_free _ _ _ hr]; exact ⟨rfl, rfl, fun _ h => h⟩
  | some r =>
    rw [State.workOn_record _ _ _ _ hr, State.commit_eq]
    refine ⟨rfl, ?_, fun id h => ?_⟩
    · dsimp only
      split <;> rfl
    · dsimp only
      split
      · exact (mem_enqueue _ _ _).mpr (.inl h)
      · exact h

theorem State.holdTargets_keeps (s : State) (v : Nat) (items : List Item) :
    (items.foldl (State.holdTargetOf v) s).visits = s.visits ∧
      (items.foldl (State.holdTargetOf v) s).attention.visitItemInterrupted = s.attention.visitItemInterrupted ∧
      ∀ id ∈ s.store.queue, id ∈ (items.foldl (State.holdTargetOf v) s).store.queue := by
  induction items generalizing s with
  | nil => exact ⟨rfl, rfl, fun _ h => h⟩
  | cons it items ih =>
    have hone : (s.holdTargetOf v it).visits = s.visits ∧
        (s.holdTargetOf v it).attention.visitItemInterrupted = s.attention.visitItemInterrupted ∧
        ∀ id ∈ s.store.queue, id ∈ (s.holdTargetOf v it).store.queue := by
      unfold State.holdTargetOf
      split
      · exact s.workOn_keeps _ _
      · exact ⟨rfl, rfl, fun _ h => h⟩
    obtain ⟨h1, h2, h3⟩ := hone
    obtain ⟨g1, g2, g3⟩ := ih (s.holdTargetOf v it)
    exact ⟨g1.trans h1, g2.trans h2, fun id h => g3 id (h3 id h)⟩

/-- The item's fate does not depend on what a start changes of the records. -/
theorem State.restoredItem_congr {s t : State} (hs : ∀ j, (t.string? j).map StringRecord.cabinet = (s.string? j).map StringRecord.cabinet)
    (hp : t.permits = s.permits) : t.restoredItem = s.restoredItem := by
  have hnone : ∀ j, (t.string? j).isNone = (s.string? j).isNone := fun j => by
    have := congrArg Option.isNone (hs j)
    rwa [Option.isNone_map, Option.isNone_map] at this
  have hcab : t.itemCabinet = s.itemCabinet := funext fun it => by
    unfold State.itemCabinet
    split
    · rfl
    · have hbind : ∀ o : Option StringRecord, o.bind StringRecord.cabinet = (o.map StringRecord.cabinet).bind id :=
        fun o => by cases o <;> rfl
      rw [hbind, hbind, hs]
  have hpermit : t.permit? = s.permit? := funext fun k => congrArg (fun l => tget l k) hp
  funext v it
  unfold State.restoredItem State.permitStands
  rw [hnone, hcab, hpermit]

theorem State.restoredItem_fields (s : State) (v : Nat) (it : Item) :
    (s.restoredItem v it).kind = it.kind ∧ (s.restoredItem v it).target = it.target := by
  unfold State.restoredItem
  repeat' split
  all_goals exact ⟨rfl, rfl⟩

/-- The visit in one of the slots `1..n` whose kept REPLACE STRING item names record `j`. -/
def State.keepsHeld (s : State) (n j v : Nat) : Prop :=
  v ≤ n ∧ ∃ x it, s.visit? v = some x ∧ it ∈ x.items ∧ (s.restoredItem v it).replaces = true ∧ it.target = j

/-- The visits in the slots `1..n` of `s` are restored. -/
structure State.VisitsRestored (s t : State) (n : Nat) : Prop where
  visits : ∀ v, t.visit? v =
    if v ≤ n then (s.visit? v).map (fun x => { x with items := x.items.map (s.restoredItem v) }) else s.visit? v
  kept : ∀ j, (∀ v, ¬s.keepsHeld n j v) → t.string? j = s.string? j
  held : ∀ j, (∃ v, s.keepsHeld n j v) → ∃ v, s.keepsHeld n j v ∧ t.string? j = (s.string? j).map (StringRecord.heldFor v)
  queue : ∀ id ∈ s.store.queue, id ∈ t.store.queue
  saved : ∀ v x, v ≤ n → s.visit? v = some x → x.items.map (s.restoredItem v) ≠ x.items → visitImage v ∈ t.store.queue
  raised : ∀ v x it, v ≤ n → s.visit? v = some x → it ∈ x.items → newlyInterrupted it (s.restoredItem v it) = true → v ≤ 4 →
    t.attention.visitItemInterrupted.getLsbD (v - 1) = true
  frame : s.RecordFrame t

section
variable {s t : State} {n : Nat}

theorem State.visitsRestored_zero (s : State) : s.VisitsRestored s 0 := by
  have hno : ∀ v x, v ≤ 0 → s.visit? v = some x → False := fun v x hv hx => by have := tget_some _ _ _ hx; omega
  refine ⟨fun v => ?_, fun _ _ => rfl, fun j ⟨v, hv, x, it, hx, _⟩ => (hno v x hv hx).elim, fun _ h => h,
    fun v x hv hx => (hno v x hv hx).elim, fun v x _ hv hx => (hno v x hv hx).elim, .refl s⟩
  split
  · obtain rfl : v = 0 := by omega
    rfl
  · rfl

theorem State.VisitsRestored.record (h : s.VisitsRestored t n) (j : Nat) :
    t.string? j = s.string? j ∨ ∃ v, t.string? j = (s.string? j).map (StringRecord.heldFor v) := by
  by_cases hv : ∃ v, s.keepsHeld n j v
  · obtain ⟨v, -, h⟩ := h.held j hv
    exact .inr ⟨v, h⟩
  · exact .inl (h.kept j fun v e => hv ⟨v, e⟩)

theorem State.VisitsRestored.restoredItem (h : s.VisitsRestored t n) : t.restoredItem = s.restoredItem := by
  refine State.restoredItem_congr (fun j => ?_) h.frame.permits
  rcases h.record j with e | ⟨v, e⟩
  · rw [e]
  · rw [e, Option.map_map]
    rfl

theorem State.keepsHeld_succ (s : State) (n j v : Nat) : s.keepsHeld (n + 1) j v ↔ s.keepsHeld n j v ∨ v = n + 1 ∧
    ∃ x it, s.visit? (n + 1) = some x ∧ it ∈ x.items ∧ (s.restoredItem (n + 1) it).replaces = true ∧ it.target = j := by
  unfold State.keepsHeld
  constructor
  · rintro ⟨hl, r⟩
    by_cases hl' : v ≤ n
    · exact .inl ⟨hl', r⟩
    · obtain rfl : v = n + 1 := by omega
      exact .inr ⟨rfl, r⟩
  · rintro (⟨hl, r⟩ | ⟨rfl, r⟩)
    · exact ⟨by omega, r⟩
    · exact ⟨le_rfl, r⟩

/-- One visit more, when the slot is free. -/
theorem State.VisitsRestored.skip (h : s.VisitsRestored t n) (hn : s.visit? (n + 1) = none) : s.VisitsRestored t (n + 1) := by
  have hk : ∀ j v, s.keepsHeld (n + 1) j v ↔ s.keepsHeld n j v := fun j v => by
    rw [State.keepsHeld_succ, hn]
    exact or_iff_left fun ⟨_, x, it, e, _⟩ => nomatch e
  have hle : ∀ v x, v ≤ n + 1 → s.visit? v = some x → v ≤ n := fun v x hv hx => by
    by_contra hne
    rw [show v = n + 1 by omega, hn] at hx
    cases hx
  refine ⟨fun v => ?_, fun j hj => h.kept j fun v e => hj v ((hk j v).mpr e), fun j hj => ?_, h.queue,
    fun v x hv hx => h.saved v x (hle v x hv hx) hx, fun v x it hv hx => h.raised v x it (hle v x hv hx) hx, h.frame⟩
  · rw [h.visits]
    by_cases hv : v = n + 1
    · subst hv
      rw [hn, if_neg (by omega), if_pos le_rfl]
      rfl
    · simp only [show (v ≤ n + 1) = (v ≤ n) by simp only [eq_iff_iff]; omega]
  · simp only [hk] at hj ⊢
    exact h.held j hj

/-- The state with the visit's restored items stored, if they differ, and the cause raised, if `hit` asks for it. -/
def State.storeRestored (v : Nat) (x : Visit) (items : List Item) (hit : Bool) (t : State) : State :=
  let u := if items = x.items then t else (t.setVisit v (some { x with items := items })).checkpoint (visitImage v)
  if hit = true then u.attend (raiseItemInterrupted v) else u

theorem State.restoreVisit_eq {v : Nat} {x : Visit} (hx : t.visit? v = some x) : t.restoreVisit v =
    (x.items.map (t.restoredItem v)).foldl (State.holdTargetOf v) (t.storeRestored v x (x.items.map (t.restoredItem v))
      (x.items.any (fun it => newlyInterrupted it (t.restoredItem v it)))) := by
  rw [State.restoreVisit, hx]
  rfl

theorem State.storeRestored_spec {v : Nat} {x : Visit} (hx : t.visit? v = some x) (items : List Item) (hit : Bool) :
    (∀ w, (t.storeRestored v x items hit).visit? w = if w = v then some { x with items := items } else t.visit? w) ∧
    (t.storeRestored v x items hit).string? = t.string? ∧
    (∀ id ∈ t.store.queue, id ∈ (t.storeRestored v x items hit).store.queue) ∧
    (items ≠ x.items → visitImage v ∈ (t.storeRestored v x items hit).store.queue) ∧
    (t.storeRestored v x items hit).attention.visitItemInterrupted =
      if hit = true then t.attention.visitItemInterrupted ||| markOf 4 v else t.attention.visitItemInterrupted := by
  unfold State.storeRestored
  by_cases he : items = x.items
  · subst he
    have hsame : ∀ w, t.visit? w = if w = v then some x else t.visit? w := fun w => by
      split
      · subst_vars; exact hx
      · rfl
    simp only [if_true]
    cases hit <;> exact ⟨hsame, rfl, fun _ h => h, fun h => absurd rfl h, rfl⟩
  · simp only [if_neg he]
    have hset : ∀ w, tget (tset t.visits v (some { x with items := items })) w =
        if w = v then some { x with items := items } else t.visit? w := fun w => tget_tset_of_some _ _ _ _ _ hx
    cases hit <;> exact ⟨hset, rfl, fun _ h => (mem_enqueue _ _ _).mpr (.inl h), fun _ => (mem_enqueue _ _ _).mpr (.inr rfl), rfl⟩

/-- One visit more. -/
theorem State.VisitsRestored.next (h : s.VisitsRestored t n) {x : Visit} (hx : s.visit? (n + 1) = some x) :
    s.VisitsRestored (t.restoreVisit (n + 1)) (n + 1) := by
  have htx : t.visit? (n + 1) = some x := by rw [h.visits, if_neg (by omega), hx]
  have hframe := h.frame.trans (t.recordFrame_restoreVisit (n + 1))
  rw [State.restoreVisit_eq htx, h.restoredItem] at hframe ⊢
  obtain ⟨hvis, hstr, hqueue, hsave, hmark⟩ := State.storeRestored_spec htx (x.items.map (s.restoredItem (n + 1)))
    (x.items.any (fun it => newlyInterrupted it (s.restoredItem (n + 1) it)))
  generalize t.storeRestored (n + 1) x (x.items.map (s.restoredItem (n + 1)))
    (x.items.any (fun it => newlyInterrupted it (s.restoredItem (n + 1) it))) = a at *
  obtain ⟨gvis, gmark, gqueue⟩ := a.holdTargets_keeps (n + 1) (x.items.map (s.restoredItem (n + 1)))
  have gstr := a.holdTargets_string? (n + 1) (x.items.map (s.restoredItem (n + 1)))
  generalize (x.items.map (s.restoredItem (n + 1))).foldl (State.holdTargetOf (n + 1)) a = b at *
  have hheld : ∀ j, (∃ it ∈ x.items.map (s.restoredItem (n + 1)), it.replaces = true ∧ it.target = j) ↔
      s.keepsHeld (n + 1) j (n + 1) := fun j => by
    rw [State.keepsHeld_succ, or_iff_right fun e => by have := e.1; omega, and_iff_right rfl, hx]
    simp only [List.mem_map, Option.some.injEq]
    constructor
    · rintro ⟨_, ⟨it, hit, rfl⟩, hr, rfl⟩
      exact ⟨x, it, rfl, hit, hr, (s.restoredItem_fields _ it).2.symm⟩
    · rintro ⟨_, it, rfl, hit, hr, rfl⟩
      exact ⟨_, ⟨it, hit, rfl⟩, hr, (s.restoredItem_fields _ it).2⟩
  rw [hstr] at gstr
  have gheld : ∀ j, s.keepsHeld (n + 1) j (n + 1) → b.string? j = (t.string? j).map (StringRecord.heldFor (n + 1)) :=
    fun j hj => (gstr j).trans (if_pos ((hheld j).mpr hj))
  have gkept : ∀ j, ¬s.keepsHeld (n + 1) j (n + 1) → b.string? j = t.string? j :=
    fun j hj => (gstr j).trans (if_neg fun e => hj ((hheld j).mp e))
  refine ⟨fun v => ?_, fun j hj => ?_, fun j hj => ?_, fun id hid => gqueue id (hqueue id (h.queue id hid)),
    fun v y hv hy hne => ?_, fun v y it hv hy hit hnew h4 => ?_, hframe⟩
  · rw [State.visit?, gvis]
    refine (hvis v).trans ?_
    by_cases hv : v = n + 1
    · subst hv
      rw [if_pos rfl, if_pos le_rfl, hx]
      rfl
    · rw [if_neg hv, h.visits]
      simp only [show (v ≤ n + 1) = (v ≤ n) by simp only [eq_iff_iff]; omega]
  · rw [gkept j (hj _)]
    exact h.kept j fun v e => hj v ((s.keepsHeld_succ n j v).mpr (.inl e))
  · by_cases hk : s.keepsHeld (n + 1) j (n + 1)
    · refine ⟨n + 1, hk, ?_⟩
      rw [gheld j hk]
      rcases h.record j with e | ⟨v, e⟩
      · rw [e]
      · rw [e, Option.map_map]
        rfl
    · rw [gkept j hk]
      have hj' : ∃ v, s.keepsHeld n j v := by
        obtain ⟨v, hv⟩ := hj
        rcases (s.keepsHeld_succ n j v).mp hv with hv' | ⟨rfl, -⟩
        · exact ⟨v, hv'⟩
        · exact absurd hv hk
      obtain ⟨v, hv, e⟩ := h.held j hj'
      exact ⟨v, (s.keepsHeld_succ n j v).mpr (.inl hv), e⟩
  · by_cases hvn : v = n + 1
    · subst hvn
      cases hx.symm.trans hy
      exact gqueue _ (hsave hne)
    · exact gqueue _ (hqueue _ (h.saved v y (by omega) hy hne))
  · rw [gmark, hmark]
    by_cases hvn : v = n + 1
    · subst hvn
      cases hx.symm.trans hy
      rw [if_pos (List.any_eq_true.mpr ⟨it, hit, hnew⟩), BitVec.getLsbD_or, markOf_getLsbD _ (by omega), decide_eq_true (by omega),
        Bool.or_true]
    · have hold := h.raised v y it (by omega) hy hit hnew h4
      split
      · rw [BitVec.getLsbD_or, hold, Bool.true_or]
      · exact hold

end

/-- Step 6, the visits. -/
theorem State.restoreVisits_restored (s : State) :
    s.VisitsRestored ((numbers Config.visitCount).foldl State.restoreVisit s) Config.visitCount := by
  refine foldl_numbers (P := fun n t => s.VisitsRestored t n) _ s.visitsRestored_zero fun n t _ h => ?_
  cases hx : s.visit? (n + 1) with
  | none =>
    have hidle : t.restoreVisit (n + 1) = t := by rw [State.restoreVisit, h.visits, if_neg (by omega), hx]
    rw [hidle]
    exact h.skip hx
  | some x => exact h.next hx

end Sys2Proof.Machine

namespace Sys2Proof.Machine

/-! ## Step 6 of a start: the records that no item holds (R160, R173) -/

theorem State.restoredItem_live {s : State} {v : Nat} {it : Item} (h : (s.restoredItem v it).live = true) : it.live = true := by
  unfold State.restoredItem at h
  split at h
  · exact h
  · rename_i hl
    simpa using hl

/-- A REPLACE STRING that a start keeps in progress was in progress, and its target stands. -/
theorem State.restoredItem_replaces {s : State} {v : Nat} {it : Item} (h : (s.restoredItem v it).replaces = true) :
    it.replaces = true ∧ ∃ r, s.string? it.target = some r := by
  have stands : it.replaces = true → ¬(it.kind ≠ .inspectCabinet ∧ (s.string? it.target).isNone = true) →
      it.replaces = true ∧ ∃ r, s.string? it.target = some r := fun hr hn => by
    refine ⟨hr, Option.ne_none_iff_exists'.mp ?_⟩
    simpa [(it.replaces_iff.mp hr).2] using hn
  unfold State.restoredItem at h
  split at h
  · rename_i hl
    rw [Item.live_of_inProgress (it.replaces_iff.mp h).1] at hl
    cases hl
  · split at h
    · simp [Item.replaces, Item.abandon] at h
    · rename_i hn
      split at h
      · exact stands h hn
      · split at h
        · simp [Item.replaces] at h
        · split at h
          · simp [Item.replaces] at h
          · exact stands h hn

theorem State.replacing_iff (s : State) (k : Nat) : s.replacing k = true ↔
    ∃ v x it, s.visit? v = some x ∧ it ∈ x.items ∧ it.replaces = true ∧ it.target = k := by
  unfold State.replacing
  rw [List.any_eq_true]
  constructor
  · rintro ⟨⟨v, x⟩, hx, h⟩
    obtain ⟨it, hit, h⟩ := List.any_eq_true.mp h
    refine ⟨v, x, it, (mem_entries _ _ _).mp hx, hit, ?_⟩
    simpa [Item.replaces] using h
  · rintro ⟨v, x, it, hx, hit, h⟩
    refine ⟨(v, x), (mem_entries _ _ _).mpr hx, List.any_eq_true.mpr ⟨it, hit, ?_⟩⟩
    simpa [Item.replaces] using h

/-- What the end of step 6 makes of the record in slot `k`. -/
def State.settleWork (s : State) (k : Nat) (r : StringRecord) : Work :=
  if r.state = .retiring ∧ s.replacing k = false then fromRetiring (s.profile? r.profile) (startWork r)
  else if r.state = .retired ∧ r.owner.isSome = true ∧ (r.owner.bind s.visit?).isNone = true then loseOwner (startWork r)
  else startWork r

theorem State.settleStrings_worked {s : State} (hs : s.strings.length = Config.stringCount) :
    s.Worked ((numbers Config.stringCount).foldl State.settleString s) s.settleWork := by
  refine State.Worked.pass hs (fun t _ k _ hf => by rw [State.settleString, hf]) fun t _ k r h _ hr => ?_
  have hvis : t.visits = s.visits := h.visits
  have hrep : t.replacing k = s.replacing k := by unfold State.replacing; rw [hvis]
  have hopen : t.visit? = s.visit? := funext fun v => congrArg (fun l => tget l v) hvis
  rw [State.settleString, hr]
  dsimp only
  rw [hrep, hopen]
  unfold State.settleWork
  split
  · rw [State.workOn_record _ _ _ _ hr, h.profile?]
  · split
    · exact State.workOn_record _ _ _ _ hr
    · exact (State.commit_startWork hr).symm

section
variable {s : State} {k : Nat} {r : StringRecord}

theorem State.settleWork_retiring (h : r.state = .retiring) (hn : s.replacing k = false) : s.settleWork k r =
    { r := r.released (s.profile? r.profile), changed := true, save := true } :=
  (if_pos ⟨h, hn⟩).trans (fromRetiring_eq _ h)

theorem State.settleWork_retired (h : r.state = .retired) :
    (s.settleWork k r).r = { r with owner := if (r.owner.bind s.visit?).isSome = true then r.owner else none } := by
  unfold State.settleWork
  rw [if_neg (by rw [h]; exact fun e => nomatch e.1)]
  split
  · rename_i hg
    rw [if_neg (by rw [Option.isNone_iff_eq_none.mp hg.2.2]; exact Bool.false_ne_true)]
    rfl
  · rename_i hg
    split
    · rfl
    · rename_i hs
      have ho : r.owner = none := by
        by_contra hne
        exact hg ⟨h, Option.isSome_iff_ne_none.mpr hne, by simpa using hs⟩
      show r = { r with owner := none }
      rw [← ho]

theorem State.settleWork_other (h : ¬(r.state = .retiring ∧ s.replacing k = false)) (hd : r.state ≠ .retired) :
    s.settleWork k r = startWork r :=
  (if_neg h).trans (if_neg fun e => hd e.1)

/-- The end of step 6 changes the state and the owner of a record alone. -/
theorem State.settleWork_fields (s : State) (k : Nat) (r : StringRecord) :
    (s.settleWork k r).r = { r with state := (s.settleWork k r).r.state, owner := (s.settleWork k r).r.owner } := by
  by_cases h : r.state = .retiring ∧ s.replacing k = false
  · rw [State.settleWork_retiring h.1 h.2]; rfl
  · by_cases hd : r.state = .retired
    · rw [State.settleWork_retired hd]
    · rw [State.settleWork_other h hd]; rfl

/-- A record that is Retiring at the end of step 6 was so, and an item names it. -/
theorem State.settleWork_stays_retiring (h : (s.settleWork k r).r.state = .retiring) :
    s.replacing k = true ∧ (s.settleWork k r).r = r := by
  by_cases hc : r.state = .retiring ∧ s.replacing k = false
  · rw [State.settleWork_retiring hc.1 hc.2] at h
    exact absurd h (r.released_state_ne _)
  · by_cases hd : r.state = .retired
    · rw [State.settleWork_retired hd] at h
      cases hd.symm.trans h
    · rw [State.settleWork_other hc hd] at h ⊢
      refine ⟨?_, rfl⟩
      by_contra hn
      exact hc ⟨h, by simpa using hn⟩

end

/-! ## Steps 6 and 7 together -/

/-- The record of an event that is closed is checkpointed (R68). -/
theorem closeEvent_save {p : Option Profile} {r : StringRecord} (h : r.event.isSome = true) :
    (closeEvent p (startWork r)).save = true := by
  obtain ⟨e, he⟩ := Option.isSome_iff_exists.mp h
  cases p with
  | none => rw [closeEvent, startWork_r, he]; rfl
  | some q => rw [closeEvent_some (w := startWork r) he]; rfl

/-- The records and visits after steps 6 and 7, from the state `p` that step 5 leaves; `v` stands between the visits and the records. -/
structure State.WorkRestored (p v e : State) : Prop where
  visits : p.VisitsRestored v Config.visitCount
  strings : ∀ k, e.string? k = (v.string? k).map (fun r =>
    (closeEvent (p.profile? r.profile) (startWork (v.settleWork k r).r)).r)
  queue : ∀ id, id ∈ v.store.queue → id ∈ e.store.queue
  settled : ∀ k r, v.string? k = some r → (v.settleWork k r).save = true → stringImage k ∈ e.store.queue
  closed : ∀ k r, v.string? k = some r → r.event.isSome = true → stringImage k ∈ e.store.queue
  marked : ∀ k r, 1 ≤ k → k ≤ 64 → v.string? k = some r → (v.settleWork k r).changed = true →
    e.attention.stringStateChanged &&& markOf 64 k = markOf 64 k
  interrupted : e.attention.visitItemInterrupted = v.attention.visitItemInterrupted
  open_ : e.visits = v.visits
  frame : p.RecordFrame e

theorem State.restoreWork_restored {p : State} (hz : p.Sized) : ∃ v, p.WorkRestored v p.restoreVisits.closeStoredEvents := by
  have hv := p.restoreVisits_restored
  have hvz : ((numbers Config.visitCount).foldl State.restoreVisit p).Sized :=
    (Moves.foldl _ (fun v hv _ => Moves.refl.restoreVisit v ((mem_numbers _ _).mp hv)) p).keep (fun _ _ m => m.sized) hz
  have hframe := p.recordFrame_restoreVisits.trans p.restoreVisits.recordFrame_closeStoredEvents
  unfold State.restoreVisits State.closeStoredEvents at hframe ⊢
  generalize (numbers Config.visitCount).foldl State.restoreVisit p = v at *
  have hs := State.settleStrings_worked hvz.strings
  generalize (numbers Config.stringCount).foldl State.settleString v = r at *
  have hrz : r.strings.length = Config.stringCount := hs.size.trans hvz.strings
  have hc := r.worked_pass (fun _ => closeEvent) Config.stringCount
  change r.Worked ((numbers Config.stringCount).foldl State.closeStored r) _ at hc
  generalize (numbers Config.stringCount).foldl State.closeStored r = e at *
  replace hc := hc.congr (out' := fun _ q => closeEvent (r.profile? q.profile) (startWork q)) fun k q hq => by
    have := tget_some _ _ _ hq
    exact if_pos (by omega)
  have hprof : r.profile? = p.profile? := hs.profile?.trans (funext fun n => congrArg (fun l => tget l n) hv.frame.profiles)
  refine ⟨v, hv, fun k => ?_, fun id h => ?_, fun k q hq hsave => ?_, fun k q hq he => ?_, fun k q h1 h64 hq hch => ?_, ?_, ?_, hframe⟩
  · rw [hc.strings, hs.strings, Option.map_map, hprof]
    refine Option.map_congr fun q _ => ?_
    show (closeEvent (p.profile? (v.settleWork k q).r.profile) _).r = _
    rw [(congrArg StringRecord.profile (v.settleWork_fields k q) :)]
  · exact (hc.queue id).mpr (.inl ((hs.queue id).mpr (.inl h)))
  · exact (hc.queue _).mpr (.inl ((hs.queue _).mpr (.inr ⟨k, q, hq, hsave, rfl⟩)))
  · refine (hc.queue _).mpr (.inr ⟨k, (v.settleWork k q).r, by rw [hs.strings, hq]; rfl, closeEvent_save ?_, rfl⟩)
    rw [(congrArg StringRecord.event (v.settleWork_fields k q) :)]
    exact he
  · rw [and_markOf_iff _ h1 h64, hc.changed _ (by omega), hs.changed _ (by omega), show k - 1 + 1 = k by omega, hq, Option.any_some, hch,
      Bool.or_true, Bool.true_or]
  · rw [hc.attention, hs.attention]
  · exact hc.visits.trans hs.visits

end Sys2Proof.Machine

namespace Sys2Proof.Machine

/-! ## What steps 6 and 7 leave of the items and the records (R160, R173, R174) -/

section
variable {p v e : State}

theorem State.WorkRestored.visit? (h : p.WorkRestored v e) (hz : p.Sized) (w : Nat) :
    e.visit? w = (p.visit? w).map (fun x => { x with items := x.items.map (p.restoredItem w) }) := by
  have he : e.visit? w = v.visit? w := congrArg (fun l => tget l w) h.open_
  rw [he, h.visits.visits]
  split
  · rfl
  · rename_i hw
    cases hx : p.visit? w with
    | none => rfl
    | some x => exact absurd (hz.visits ▸ (tget_some _ _ _ hx).2) hw

theorem State.WorkRestored.replacing_iff (h : p.WorkRestored v e) (hz : p.Sized) (k : Nat) :
    e.replacing k = true ↔ ∃ w, p.keepsHeld Config.visitCount k w := by
  rw [State.replacing_iff]
  constructor
  · rintro ⟨w, y, b, hy, hb, hr, rfl⟩
    rw [h.visit? hz] at hy
    obtain ⟨x, hx, rfl⟩ := Option.map_eq_some_iff.mp hy
    obtain ⟨a, ha, rfl⟩ := List.mem_map.mp hb
    exact ⟨w, hz.visits ▸ (tget_some _ _ _ hx).2, x, a, hx, ha, hr, (p.restoredItem_fields w a).2.symm⟩
  · rintro ⟨w, -, x, a, hx, ha, hr, rfl⟩
    exact ⟨w, _, _, (h.visit? hz w).trans (by rw [hx]; rfl), List.mem_map_of_mem ha, hr, (p.restoredItem_fields w a).2⟩

theorem State.WorkRestored.replacing_eq (h : p.WorkRestored v e) (k : Nat) : v.replacing k = e.replacing k := by
  unfold State.replacing
  rw [h.open_]

/-- A record that no kept item names goes into the end of step 6 as it stands. -/
theorem State.WorkRestored.record_idle (h : p.WorkRestored v e) (hz : p.Sized) {k : Nat} (hn : e.replacing k = false) :
    v.string? k = p.string? k :=
  h.visits.kept k fun w hw => by
    rw [(h.replacing_iff hz k).mpr ⟨w, hw⟩] at hn
    cases hn

/-- From distinct items a record is Retiring exactly while a kept item names it (R54, R160). -/
theorem State.WorkRestored.retiringHeld (h : p.WorkRestored v e) (hz : p.Sized) (hd : p.ItemsDistinct) : e.RetiringHeld := by
  refine ⟨fun v w x y i j a b hx hy ha hb la lb hk ht => ?_, fun w y b hy hb hs hk => ?_, fun k q hq hs => ?_⟩
  · rw [h.visit? hz] at hx hy
    obtain ⟨x', hx', rfl⟩ := Option.map_eq_some_iff.mp hx
    obtain ⟨y', hy', rfl⟩ := Option.map_eq_some_iff.mp hy
    rw [itemAt_map] at ha hb
    obtain ⟨a', ha', rfl⟩ := Option.map_eq_some_iff.mp ha
    obtain ⟨b', hb', rfl⟩ := Option.map_eq_some_iff.mp hb
    obtain ⟨ka, ta⟩ := p.restoredItem_fields v a'
    obtain ⟨kb, tb⟩ := p.restoredItem_fields w b'
    exact hd v w x' y' i j a' b' hx' hy' ha' hb' (State.restoredItem_live la) (State.restoredItem_live lb)
      (ka.symm.trans (hk.trans kb)) (ta.symm.trans (ht.trans tb))
  · rw [h.visit? hz] at hy
    obtain ⟨x, hx, rfl⟩ := Option.map_eq_some_iff.mp hy
    obtain ⟨a, ha, rfl⟩ := List.mem_map.mp hb
    obtain ⟨hka, hta⟩ := p.restoredItem_fields w a
    rw [hta]
    have hrep := (Item.replaces_iff _).mpr ⟨hs, hk⟩
    have hw4 : w ≤ Config.visitCount := hz.visits ▸ (tget_some _ _ _ hx).2
    obtain ⟨hra, r, hr⟩ := State.restoredItem_replaces hrep
    obtain ⟨u, hu, hstr⟩ := h.visits.held a.target ⟨w, hw4, x, a, hx, ha, hrep, rfl⟩
    obtain ⟨-, y, b, hy, hb, hrb, htb⟩ := hu
    obtain ⟨i, hi⟩ := mem_iff_itemAt.mp ha
    obtain ⟨j, hj⟩ := mem_iff_itemAt.mp hb
    have live : ∀ {c : Item}, c.replaces = true → c.live = true := fun hc => Item.live_of_inProgress ((Item.replaces_iff _).mp hc).1
    have hrb' := (State.restoredItem_replaces hrb).1
    obtain ⟨rfl, -⟩ := hd w u x y i j a b hx hy hi hj (live hra) (live hrb')
      (((a.replaces_iff.mp hra).2).trans ((b.replaces_iff.mp hrb').2).symm) htb.symm
    have hkeep : e.replacing a.target = true := (h.replacing_iff hz _).mpr ⟨w, hw4, x, a, hx, ha, hrep, rfl⟩
    rw [hr, Option.map_some] at hstr
    have hset : v.settleWork a.target (r.heldFor w) = startWork (r.heldFor w) :=
      State.settleWork_other (fun e => by rw [h.replacing_eq, hkeep] at e; cases e.2) nofun
    refine ⟨_, (h.strings a.target).trans (by rw [hstr, Option.map_some, hset]), ?_⟩
    exact (StringRecord.hold_some _ _).mp (closeEvent_hold _ _)
  · rw [h.strings] at hq
    obtain ⟨r, hr, rfl⟩ := Option.map_eq_some_iff.mp hq
    have hset : (v.settleWork k r).r.state = .retiring := by
      have hhold := closeEvent_hold (p.profile? r.profile) (startWork (v.settleWork k r).r)
      rw [(StringRecord.hold_some _ _).mpr ⟨hs, rfl⟩] at hhold
      exact ((StringRecord.hold_some _ _).mp hhold.symm).1
    have hrep := (State.settleWork_stays_retiring hset).1
    obtain ⟨w, x, it, hx, hit, hri, ht⟩ := (State.replacing_iff _ _).mp (h.replacing_eq k ▸ hrep)
    obtain ⟨h1, h2⟩ := it.replaces_iff.mp hri
    exact ⟨w, x, it, hx, hit, h1, h2, ht⟩

end
end Sys2Proof.Machine

namespace Sys2Proof.Machine

/-- The record that a start has closed the event of has the state its new SoH gives, if it had the state its SoH gave (R88). -/
theorem closeEvent_derived {p : Option Profile} {r : StringRecord} (h : r.state = derivedState p r.suspect r.soh) :
    (closeEvent p (startWork r)).r.state = derivedState p r.suspect (closeEvent p (startWork r)).r.soh := by
  cases he : r.event with
  | none => rw [closeEvent_kept (.inl he)]; exact h
  | some e =>
    cases p with
    | none => rw [closeEvent_kept (.inr rfl)]; exact h
    | some q =>
      obtain ⟨h1, h2⟩ := derivedState_ne (some q) r.suspect r.soh
      rw [closeEvent_some (w := startWork r) he, mustSave_r, stage5_r]
      refine if_neg (not_or.mpr ⟨fun e => h1 ?_, fun e => h2 ?_⟩)
      · exact h.symm.trans e
      · exact h.symm.trans e

section
variable {p v e : State}

theorem State.WorkRestored.open_iff (h : p.WorkRestored v e) (w : Nat) : (v.visit? w).isSome = (p.visit? w).isSome := by
  rw [h.visits.visits]
  split
  · rw [Option.isSome_map]
  · rfl

/-- The record on its way through steps 6 and 7: only its state and its owner change before its event is closed. -/
theorem State.WorkRestored.record (h : p.WorkRestored v e) {k : Nat} {r q : StringRecord} (hr : p.string? k = some r)
    (hq : e.string? k = some q) : ∃ a b : StringRecord, v.string? k = some a ∧ b = (v.settleWork k a).r ∧
      a = { r with state := a.state, owner := a.owner } ∧ b = { r with state := b.state, owner := b.owner } ∧
      q = (closeEvent (p.profile? r.profile) (startWork b)).r := by
  have ha : ∃ a, v.string? k = some a ∧ a = { r with state := a.state, owner := a.owner } := by
    rcases h.visits.record k with e | ⟨w, e⟩
    · exact ⟨r, e.trans hr, rfl⟩
    · exact ⟨r.heldFor w, e.trans (by rw [hr]; rfl), rfl⟩
  obtain ⟨a, ha, hra⟩ := ha
  refine ⟨a, _, ha, rfl, hra, ?_, ?_⟩
  · exact (v.settleWork_fields k a).trans (congrArg (fun c : StringRecord =>
      { c with state := (v.settleWork k a).r.state, owner := (v.settleWork k a).r.owner }) hra)
  · rw [h.strings, ha, Option.map_some, (congrArg StringRecord.profile hra :)] at hq
    exact (Option.some.inj hq).symm

theorem State.WorkRestored.records (h : p.WorkRestored v e) (hz : p.Sized) {k : Nat} {r q : StringRecord} (hr : p.string? k = some r)
    (hq : e.string? k = some q) :
    (q.event = none ∧ q.suspect = r.suspect ∧ q.cabinet = r.cabinet ∧ q.position = r.position ∧ q.bucket = r.bucket ∧
      q.m = r.m ∧ q.s = r.s ∧ q.resistanceIndicator = r.resistanceIndicator) ∧
    (r.state = .retired → e.replacing k = false → q.state = .retired ∧
      q.owner = if (r.owner.bind p.visit?).isSome = true then r.owner else none) ∧
    (r.state = .retiring → e.replacing k = false → q.owner = none ∧ q.state = derivedState (p.profile? r.profile) r.suspect q.soh ∧
      stringImage k ∈ e.store.queue ∧ e.attention.stringStateChanged &&& markOf 64 k = markOf 64 k) ∧
    (r.event = none ∨ p.profile? r.profile = none → q.life = r.life ∧ q.soh = r.soh) ∧
    (∀ ev pr d, r.event = some ev → p.profile? r.profile = some pr → d = min (ev.charge * 100 / pr.capacity) 1000 →
      q.life = min (r.life + 1000000000 / pr.cycles * d *
        (if d ≤ 200 then pr.w1 else if d ≤ 500 then pr.w2 else if d ≤ 800 then pr.w3 else pr.w4) / 256000) 1500000000 ∧
      q.soh = min (1000 - q.life / 1000000) r.resistanceIndicator ∧ stringImage k ∈ e.store.queue) ∧
    (r.event = none → r.state ≠ .retiring → r.state ≠ .retired → e.replacing k = false → q = r) := by
  obtain ⟨a, b, ha, hb, hra, hrb, hqb⟩ := h.record hr hq
  have hidle : e.replacing k = false → a = r := fun hn => by
    rw [h.record_idle hz hn, hr] at ha
    exact (Option.some.inj ha).symm
  have hfields := closeEvent_fields (p.profile? r.profile) b
  rw [← hqb] at hfields
  have hev : b.event = r.event := (congrArg StringRecord.event hrb :)
  refine ⟨⟨(congrArg StringRecord.event hfields :), ?_, ?_, ?_, ?_, ?_, ?_, ?_⟩, fun hs hn => ?_, fun hs hn => ?_, fun hno => ?_,
    fun ev pr d he hp hd => ?_, fun he h1 h2 hn => ?_⟩
  · exact (congrArg StringRecord.suspect hfields :).trans (congrArg StringRecord.suspect hrb :)
  · exact (congrArg StringRecord.cabinet hfields :).trans (congrArg StringRecord.cabinet hrb :)
  · exact (congrArg StringRecord.position hfields :).trans (congrArg StringRecord.position hrb :)
  · exact (congrArg StringRecord.bucket hfields :).trans (congrArg StringRecord.bucket hrb :)
  · exact (congrArg StringRecord.m hfields :).trans (congrArg StringRecord.m hrb :)
  · exact (congrArg StringRecord.s hfields :).trans (congrArg StringRecord.s hrb :)
  · exact (congrArg StringRecord.resistanceIndicator hfields :).trans (congrArg StringRecord.resistanceIndicator hrb :)
  · obtain rfl := hidle hn
    rw [State.settleWork_retired hs] at hb
    refine ⟨?_, ?_⟩
    · rw [hqb]
      exact (closeEvent_sound _ (startWork b)).steady.retired.mpr (by rw [hb]; exact hs)
    · refine ((congrArg StringRecord.owner hfields :).trans (congrArg StringRecord.owner hb :)).trans ?_
      refine if_congr (Eq.congr_left ?_) rfl rfl
      cases a.owner with
      | none => rfl
      | some w => exact h.open_iff w
  · obtain rfl := hidle hn
    have hprof : v.profile? = p.profile? := funext fun n => congrArg (fun l => tget l n) h.visits.frame.profiles
    have hwork := State.settleWork_retiring hs ((h.replacing_eq k).trans hn)
    rw [hprof] at hwork
    rw [hwork] at hb
    have hk := tget_some _ _ _ hr
    refine ⟨(congrArg StringRecord.owner hfields :).trans (congrArg StringRecord.owner hb :), ?_,
      h.settled k a ha (by rw [hwork]), h.marked k a hk.1 (hk.2.trans hz.strings.le) ha (by rw [hwork])⟩
    have hder := closeEvent_derived (p := p.profile? a.profile) (r := b) (by rw [hb]; rfl)
    rw [← hqb, show b.suspect = a.suspect from (congrArg StringRecord.suspect hrb :)] at hder
    exact hder
  · have hkept := closeEvent_kept (p := p.profile? r.profile) (r := b) (hev ▸ hno)
    rw [← hqb] at hkept
    exact ⟨(congrArg StringRecord.life hkept :).trans (congrArg StringRecord.life hrb :),
      (congrArg StringRecord.soh hkept :).trans (congrArg StringRecord.soh hrb :)⟩
  · subst hd
    rw [hp] at hqb
    obtain ⟨hlife, hind, hsoh⟩ := closeEvent_step (q := pr) (r := b) (hev.trans he)
    rw [← hqb] at hlife hind hsoh
    refine ⟨hlife.trans ?_, hsoh.trans ?_, h.closed k a ha ?_⟩
    · rw [show b.life = r.life from (congrArg StringRecord.life hrb :)]
      rfl
    · rw [show b.resistanceIndicator = r.resistanceIndicator from (congrArg StringRecord.resistanceIndicator hrb :), hind]
      rfl
    · rw [show a.event = r.event from (congrArg StringRecord.event hra :), he]
      rfl
  · obtain rfl := hidle hn
    rw [State.settleWork_other (fun e => h1 e.1) h2] at hb
    obtain rfl : b = a := hb
    rw [closeEvent_none (w := startWork b) he] at hqb
    exact hqb

end
end Sys2Proof.Machine

namespace Sys2Proof.Machine

/-! ## What step 5 leaves of the permits (R137, R173) -/

/-- A permit that a start closes without a notice: its cabinet is Absent, or a permit with a later image names it. -/
def State.dropped (s : State) (k : Nat) (p : Permit) : Prop := (s.cabinet? p.cabinet).isNone = true ∨ s.permitOutdated k p = true

theorem State.permitOutdated_iff (s : State) (k : Nat) (p : Permit) : s.permitOutdated k p = true ↔
    ∃ j q, j ≠ k ∧ s.permit? j = some q ∧ q.cabinet = p.cabinet ∧
      (s.permitNumber k < s.permitNumber j ∨ s.permitNumber k = s.permitNumber j ∧ j < k) := by
  unfold State.permitOutdated
  rw [List.any_eq_true]
  simp only [writtenLater, Bool.and_eq_true, bne_iff_ne, beq_iff_eq, decide_eq_true_eq]
  constructor
  · rintro ⟨⟨j, q⟩, hq, ⟨hj, hc⟩, hl⟩
    exact ⟨j, q, hj, (mem_entries _ _ _).mp hq, hc, hl⟩
  · rintro ⟨j, q, hj, hq, hc, hl⟩
    exact ⟨(j, q), (mem_entries _ _ _).mpr hq, ⟨hj, hc⟩, hl⟩

/-- `p` is what step 5 leaves of `s`. -/
structure State.PermitsRestored (s p : State) : Prop where
  closed : ∀ k a, s.permit? k = some a → s.dropped k a ∨ (a.state = .granted ∧ s.floor.utility ≠ .present) →
    p.permit? k = none ∧ permitImage k ∈ p.store.queue
  kept : ∀ k a, s.permit? k = some a → ¬s.dropped k a → (a.state = .granted → s.floor.utility = .present) →
    p.permit? k = some { a with
      visit := if s.visitMissing a.visit = true then none else a.visit
      timeout := if a.state = .granted then some s.floor.config.grantTimeout else a.timeout } ∧
    (s.visitMissing a.visit = true → permitImage k ∈ p.store.queue)
  posted : ∀ k a x, s.permit? k = some a → ¬s.dropped k a → a.state = .granted → s.cabinet? a.cabinet = some x →
    ∃ serial, s.link.nextSerial ≤ serial ∧ p.cabinet? a.cabinet = some { x with
      notice := some { notice := if s.floor.utility = .present then .grant else .withdraw, serial := serial } }
  free : ∀ k, s.permit? k = none → p.permit? k = none
  unposted : ∀ c, (∀ k a, s.permit? k = some a → a.cabinet = c → a.state = .granted → s.dropped k a) → p.cabinet? c = s.cabinet? c
  changed : ∀ i, i < 8 → (p.attention.permitChanged.getLsbD i = true ↔ s.attention.permitChanged.getLsbD i = true ∨
    ∃ a, s.permit? (i + 1) = some a ∧ p.permit? (i + 1) = none)
  frame : s.PermitFrame p

section
variable {s : State} {k : Nat} {a : Permit}

theorem State.undoubled_some (h : s.permitOutdated k a = false) : s.undoubled k a = some a := by
  rw [State.undoubled, h]; rfl

theorem State.undoubled_none (h : s.permitOutdated k a = true) : s.undoubled k a = none := if_pos h

end

theorem State.dropDuplicates_sized {s : State} (hz : s.Sized) :
    ((numbers Config.permitCount).foldl (State.dropDuplicate s) s).Sized := by
  refine (Moves.foldl (f := State.dropDuplicate s) _ (fun k _ u => ?_) s).keep (fun _ _ m => m.sized) hz
  unfold State.dropDuplicate
  split
  · exact .refl
  · split
    · exact Moves.refl.dropPermit k
    · exact .refl

theorem State.restorePermits_restored {s : State} (hz : s.Sized) : s.PermitsRestored s.restorePermits := by
  obtain ⟨hframe, hperm⟩ := State.restorePermits_spec hz
  obtain ⟨hdf, hdp⟩ := s.dropDuplicate_pass hz
  have hd := s.dropDuplicates_dropped
  have hdz := State.dropDuplicates_sized hz
  have hp := ((numbers Config.permitCount).foldl (State.dropDuplicate s) s).restorePermits_passed
  rw [State.restoreWork_frame hdf] at hp
  change State.PermitsPassed _ s.restorePermits _ _ at hp
  generalize (numbers Config.permitCount).foldl (State.dropDuplicate s) s = d at *
  generalize s.restorePermits = p at *
  have hdc : d.cabinets = s.cabinets := (congrArg State.cabinets hd.frame :)
  have hdl : d.link = s.link := (congrArg State.link hd.frame :)
  have hle : ∀ {k a}, s.permit? k = some a → k ≤ Config.permitCount := fun h => hz.permits ▸ (tget_some _ _ _ h).2
  have hin : ∀ {k a}, s.permit? k = some a → s.permitOutdated k a = false → d.permit? k = some a := fun h ho => by
    rw [hdp, h, Option.bind_some, State.undoubled_some ho]
  have hout : ∀ {k a}, d.permit? k = some a → s.permit? k = some a ∧ s.permitOutdated k a = false := fun h => by
    rw [hdp] at h
    obtain ⟨b, hb, hu⟩ := Option.bind_eq_some_iff.mp h
    unfold State.undoubled at hu
    split at hu
    · cases hu
    · rename_i ho
      cases hu
      exact ⟨hb, by simpa using ho⟩
  refine ⟨fun k a ha hdrop => ?_, fun k a ha hdrop hg => ?_, fun k a x ha hdrop hg hx => ?_, fun k hk => ?_, fun c hc => ?_,
    fun i hi => ?_, hframe⟩
  · by_cases ho : s.permitOutdated k a = true
    · refine ⟨by rw [hperm, ha, Option.bind_some, State.undoubled_none ho]; rfl, ?_⟩
      exact (hp.queue _).mpr (.inl ((hd.queue _).mpr (.inr ⟨k, a, hle ha, ha, ho, rfl⟩)))
    · have ho' : s.permitOutdated k a = false := by simpa using ho
      have hnone : s.restoredPermit a = none := by
        rcases hdrop with (hc | h) | ⟨hg, hu⟩
        · exact State.restoredPermit_absent hc
        · exact absurd h ho
        · exact State.restoredPermit_withdrawn hg hu
      refine ⟨by rw [hperm, ha, Option.bind_some, State.undoubled_some ho', Option.bind_some, hnone], ?_⟩
      refine (hp.queue _).mpr (.inr ⟨k, a, hle ha, hin ha ho', ?_, rfl⟩)
      simp [State.restoreWork, hnone]
  · have ho : s.permitOutdated k a = false := by
      by_contra h
      exact hdrop (.inr (by simpa using h))
    have hc : (s.cabinet? a.cabinet).isNone ≠ true := fun h => hdrop (.inl h)
    refine ⟨?_, fun hm => ?_⟩
    · rw [hperm, ha, Option.bind_some, State.undoubled_some ho, Option.bind_some, State.restoredPermit_kept hc hg]
    · refine (hp.queue _).mpr (.inr ⟨k, a, hle ha, hin ha ho, ?_, rfl⟩)
      simp [State.restoreWork, hm]
  · have ho : s.permitOutdated k a = false := by
      by_contra h
      exact hdrop (.inr (by simpa using h))
    have hnote : ∀ {b : Permit} {m : Notice}, (s.restoreWork b).note = some m →
        m = if s.floor.utility = .present then .grant else .withdraw := fun h => by
      unfold State.restoreWork at h
      dsimp only at h
      split at h
      · cases h
      · split at h <;> cases h
        · rw [if_pos ‹_›]
        · rw [if_neg ‹_›]
    obtain ⟨serial, hs, hcab⟩ := hp.cabinet_of_posted hdz rfl (show d.cabinet? a.cabinet = some x by rw [State.cabinet?, hdc]; exact hx)
      (fun _ _ _ _ _ h => hnote h) (hin ha ho) rfl (m := if s.floor.utility = .present then .grant else .withdraw) (by
        unfold State.restoreWork
        dsimp only
        rw [if_neg (not_or.mpr ⟨not_not.mpr hg, by rw [hx]; exact Bool.false_ne_true⟩)]
        split <;> rfl)
    exact ⟨serial, hdl ▸ hs, hcab⟩
  · rw [hperm, hk]; rfl
  · refine (hp.cabinet_of_none fun k a ha hac => ?_).trans (congrArg (fun l => tget l c) hdc)
    obtain ⟨hsa, ho⟩ := hout ha
    unfold State.restoreWork
    refine if_pos ?_
    by_cases hg : a.state = .granted
    · refine .inr ((hc k a hsa hac hg).resolve_right fun h => ?_)
      rw [ho] at h
      cases h
    · exact .inl hg
  · rw [hp.changed i hi, Bool.or_eq_true, hd.changed i hi, or_assoc]
    refine or_congr_right ⟨?_, fun ⟨a, ha, hn⟩ => ?_⟩
    · rintro (⟨_, a, ha, ho⟩ | h)
      · exact ⟨a, ha, by rw [hperm, ha, Option.bind_some, State.undoubled_none ho]; rfl⟩
      · obtain ⟨a, ha, hn⟩ := Option.any_eq_true _ _ |>.mp (Bool.and_eq_true_iff.mp h).2
        obtain ⟨hsa, ho⟩ := hout ha
        refine ⟨a, hsa, ?_⟩
        rw [hperm, hsa, Option.bind_some, State.undoubled_some ho, Option.bind_some]
        exact Option.isNone_iff_eq_none.mp hn
    · by_cases ho : s.permitOutdated (i + 1) a = true
      · exact .inl ⟨hi, a, ha, ho⟩
      · have ho' : s.permitOutdated (i + 1) a = false := by simpa using ho
        rw [hperm, ha, Option.bind_some, State.undoubled_some ho', Option.bind_some] at hn
        refine .inr ?_
        rw [hin ha ho', Option.any_some, decide_eq_true (by exact hi), Bool.true_and]
        simp [State.restoreWork, hn]

end Sys2Proof.Machine

namespace Sys2Proof.Machine

/-! ## R160's table -/

theorem State.permitStands_eq (s : State) (v : Nat) (it : Item) : s.permitStands v it =
    (it.permit.bind s.permit?).any (fun p => p.visit == some v && some p.cabinet == s.itemCabinet it &&
      (p.state == .active || p.state == .overdue)) := by
  unfold State.permitStands
  cases it.permit.bind s.permit? <;> rfl

theorem State.itemCabinet_none_iff (s : State) (it : Item) :
    s.itemCabinet it = none ↔ it.kind ≠ .inspectCabinet ∧ (s.itemCabinet it).isNone = true := by
  rw [Option.isNone_iff_eq_none]
  refine ⟨fun h => ⟨fun hk => ?_, h⟩, And.right⟩
  rw [State.itemCabinet, if_pos hk] at h
  cases h

/-- The rows of R160's table. -/
theorem State.restoredItem_eq (s : State) (v : Nat) (it : Item) : s.restoredItem v it =
    if it.state = .done ∨ it.state = .abandoned then it
    else if it.kind ≠ .inspectCabinet ∧ s.string? it.target = none then
      { it with state := .abandoned, permit := none, result := none }
    else if it.state = .inProgress ∧ ((it.kind ≠ .baseline ∧ ¬s.permitStands v it = true) ∨ s.itemCabinet it = none) then
      { it with state := .interrupted, permit := none }
    else it := by
  unfold State.restoredItem
  by_cases hd : it.state = .done ∨ it.state = .abandoned
  · rw [if_pos hd, if_pos (by simpa [Item.live, or_iff_not_imp_left] using hd)]
  · rw [if_neg hd, if_neg (by simpa [Item.live] using hd)]
    simp only [Option.isNone_iff_eq_none]
    by_cases hs : it.kind ≠ .inspectCabinet ∧ s.string? it.target = none
    · rw [if_pos hs, if_pos hs]; rfl
    · rw [if_neg hs, if_neg hs]
      by_cases hp : it.state = .inProgress
      · rw [if_neg (not_not.mpr hp)]
        have hn : (needsPermit it.kind = true ∧ s.permitStands v it = false) ↔
            (it.kind ≠ .baseline ∧ ¬s.permitStands v it = true) := by rw [needsPermit_iff, Bool.not_eq_true]
        have hc := s.itemCabinet_none_iff it
        rw [Option.isNone_iff_eq_none] at hc
        simp only [hn, ← hc, hp, true_and]
        by_cases h1 : it.kind ≠ .baseline ∧ ¬s.permitStands v it = true
        · rw [if_pos h1, if_pos (.inl h1)]
        · rw [if_neg h1]
          exact if_congr (or_iff_right h1).symm rfl rfl
      · rw [if_pos hp, if_neg fun e => hp e.1]

theorem State.visitMissing_iff (s : State) (v : Option Nat) : s.visitMissing v = true ↔ v.isSome = true ∧ v.bind s.visit? = none := by
  unfold State.visitMissing
  cases v <;> simp

/-- The visit that a kept permit still names (R137). -/
theorem State.openVisit_eq (s : State) (v : Option Nat) :
    (if s.visitMissing v = true then none else v) = if (v.bind s.visit?).isSome = true then v else none := by
  cases v with
  | none => rfl
  | some n =>
    rw [State.visitMissing, Option.bind_some]
    cases s.visit? n <;> simp

/-! ## The end of a start, step by step -/

/-- The state that step 7 leaves, on its way to the end of a start. -/
theorem State.finishStartUp_steps {s : State} (hz : s.Sized) (hh : s.floor.tickHeld = false) (hu : s.port.urgent = none) :
    ∃ p v e : State, s.judgeFirst.PermitsRestored p ∧ p.WorkRestored v e ∧ p.Sized ∧
      s.finishStartUp = e.firstBreak.recompute.veiled s.endStartUp := by
  have hjz : s.judgeFirst.Sized := Moves.refl.judgeFirst.keep (fun _ _ m => m.sized) hz
  have hpz : s.judgeFirst.restorePermits.Sized := Moves.refl.restorePermits.keep (fun _ _ m => m.sized) hjz
  obtain ⟨v, hv⟩ := State.restoreWork_restored hpz
  exact ⟨_, v, _, State.restorePermits_restored hjz, hv, hpz, State.finishStartUp_plain hh hu⟩

end Sys2Proof.Machine

section
open Sys2Proof Sys2Proof.Machine

/-- Settles O60: step 5 closes, keeps or re-posts each permit, step 6 restores the visits' items and then the records, step 7 closes the
events; each step's account is read off in turn. -/
theorem startUpRestores : Obligations.StartUpRestores := by
  intro s t u dropped hz hagree hrun hstart hh hurgent hu hdropped hexec
  obtain ⟨p, v, e, hp, hw, hpz, hfin⟩ := State.finishStartUp_steps hz hh hurgent
  rw [exec_firstUtilityJudgement hrun hstart, hfin] at hexec
  obtain rfl := Host.Outcome.next.inj hexec
  have hj := s.judgeFirst_eq
  obtain rfl : u = s.floor.firstJudgement := hu
  generalize s.judgeFirst = j at *
  have hju : j.floor.utility = s.floor.firstJudgement := by rw [hj]
  have hjc : j.floor.config = s.floor.config := by rw [hj]
  have hjl : j.link = s.link := by rw [hj]
  have hjp : j.permit? = s.permit? := by rw [hj]; rfl
  have hjb : j.cabinet? = s.cabinet? := by rw [hj]; rfl
  have hjv : j.visit? = s.visit? := by rw [hj]; rfl
  have hjt : j.string? = s.string? := by rw [hj]; rfl
  have hjo : j.profile? = s.profile? := by rw [hj]; rfl
  have hja : j.attention.permitChanged = s.attention.permitChanged := by
    rw [hj]
    dsimp only
    split <;> rfl
  obtain rfl : dropped = j.dropped := by
    funext k a
    refine propext ((hdropped k a).trans ?_)
    have hnumber : s.permitNumber = j.permitNumber := by rw [hj]; rfl
    rw [State.dropped, State.permitOutdated_iff, Option.isNone_iff_eq_none, hjb, hjp, hnumber]
  have hpv : p.visit? = s.visit? := (funext fun v => congrArg (fun l => tget l v) hp.frame.visits).trans hjv
  have hpt : p.string? = s.string? := (funext fun k => congrArg (fun l => tget l k) hp.frame.strings).trans hjt
  have hpo : p.profile? = s.profile? := (funext fun n => congrArg (fun l => tget l n) hp.frame.profiles).trans hjo
  have hep : e.permit? = p.permit? := funext fun k => congrArg (fun l => tget l k) hw.frame.permits
  have heb : e.cabinet? = p.cabinet? := funext fun c => congrArg (fun l => tget l c) hw.frame.cabinets
  have hec : e.attention.permitChanged = p.attention.permitChanged := (congrArg (fun t => t.attention.permitChanged) hw.frame :)
  have hqueue : ∀ id ∈ p.store.queue, id ∈ e.store.queue := fun id h => hw.queue id (hw.visits.queue id h)
  have hopen : ∀ {w x}, s.visit? w = some x → w ≤ 4 := fun h => (tget_some _ _ _ h).2.trans hz.visits.le
  refine ⟨fun k a ha => ⟨fun h => ?_, fun h1 h2 => ?_, fun x h1 h2 h3 => ?_⟩, fun k hk => ?_, fun c hc => ?_, fun i hi => ?_,
    fun v hv => ?_, fun v x hx => ?_, fun h => ?_, fun k hk => ?_, fun k r q hr hq => ?_⟩
  · rw [← hju] at h
    obtain ⟨hnone, himage⟩ := hp.closed k a (hjp ▸ ha) h
    have hk := tget_some _ _ _ ha
    have hk8 : k ≤ 8 := hk.2.trans hz.permits.le
    refine ⟨(congrFun hep k).trans hnone, hqueue _ himage, (and_markOf_iff _ hk.1 hk8).mpr ?_⟩
    show e.attention.permitChanged.getLsbD (k - 1) = true
    rw [hec, hp.changed _ (by omega), show k - 1 + 1 = k by omega]
    exact .inr ⟨a, hjp ▸ ha, hnone⟩
  · rw [← hju] at h2
    obtain ⟨hkept, himage⟩ := hp.kept k a (hjp ▸ ha) h1 h2
    rw [State.openVisit_eq, hjv, hjc] at hkept
    rw [State.visitMissing_iff, hjv] at himage
    exact ⟨(congrFun hep k).trans hkept, fun h => hqueue _ (himage h)⟩
  · obtain ⟨serial, hs, hcab⟩ := hp.posted k a x (hjp ▸ ha) h1 h2 (hjb ▸ h3)
    rw [hju] at hcab
    exact ⟨serial, hjl ▸ hs, (congrFun heb _).trans hcab⟩
  · exact (congrFun hep k).trans (hp.free k (hjp ▸ hk))
  · exact (congrFun heb c).trans ((hp.unposted c fun k a ha => hc k a (hjp ▸ ha)).trans (congrFun hjb c))
  · have hbit := hp.changed i hi
    rw [← hec, hja, hjp, ← hep] at hbit
    exact hbit
  · exact (hw.visit? hpz v).trans (by rw [hpv, hv]; rfl)
  · have hv4 := hopen hx
    have hv1 := (tget_some _ _ _ hx).1
    refine ⟨{ x with items := x.items.map (p.restoredItem v) }, (hw.visit? hpz v).trans (by rw [hpv, hx]; rfl), rfl, List.length_map _,
      fun n it cab hit hcab => ?_, fun hne => ?_, fun ⟨n, a, b, ha, hb, hs, hi⟩ => ?_⟩
    · have hcabinet : p.itemCabinet it = cab := by rw [hcab, ← hpt]; rfl
      refine (itemAt_map _ _ _).trans ?_
      rw [hit, Option.map_some, State.restoredItem_eq, State.permitStands_eq, hpt, hcabinet, ← hep]
      rfl
    · refine hw.queue _ (hw.visits.saved v x hv4 (hpv ▸ hx) fun e => hne ?_)
      rw [e]
    · refine (and_markOf_iff _ hv1 hv4).mpr ?_
      show e.attention.visitItemInterrupted.getLsbD (v - 1) = true
      rw [hw.interrupted]
      rw [itemAt_map, ha] at hb
      obtain rfl := Option.some.inj hb
      refine hw.visits.raised v x a hv4 (hpv ▸ hx) (mem_iff_itemAt.mpr ⟨n, ha⟩) ?_ hv4
      rw [newlyInterrupted, hs, hi]
      rfl
  · obtain ⟨h1, h2, h3⟩ := hw.retiringHeld hpz (by unfold State.ItemsDistinct; rw [hpv]; exact h)
    exact ⟨h1, h2, h3⟩
  · have hfree : v.string? k = none := by
      rcases hw.visits.record k with h | ⟨w, h⟩
      · rw [h, hpt, hk]
      · rw [h, hpt, hk]; rfl
    exact (hw.strings k).trans (by rw [hfree]; rfl)
  · have hrec := hw.records hpz (hpt ▸ hr) hq
    rw [hpv, hpo] at hrec
    exact hrec
end

namespace Sys2Proof.Machine

/-! ## What the figures of a group read of a cabinet and of a free slot (R94, R95, R101) -/

/-- The entry with what the figures read of it alone: group, rated power, load, and whether it is available. -/
def Cabinet.shown (x : Cabinet) : Cabinet :=
  { newCabinet x.group x.rated with
    load := x.load, mode := .inverter, link := if x.available = true then .online else .lost }

theorem Cabinet.shown_available (x : Cabinet) : x.shown.available = x.available := by
  unfold Cabinet.shown
  cases h : x.available <;> rfl

/-- The state with its cabinets as the figures read them. -/
def State.shown (s : State) : State := { s with cabinets := s.cabinets.map (Option.map Cabinet.shown) }

theorem State.shown_members (s : State) (g : Nat) : s.shown.members g = (s.members g).map (fun e => (e.1, e.2.shown)) := by
  unfold State.members State.shown
  dsimp only
  rw [entries_map, List.filter_map]
  rfl

theorem State.shown_counted (s : State) (out : Option Nat) (c : Nat) (x : Cabinet) :
    s.shown.counted out c x.shown = s.counted out c x := by
  unfold State.counted
  rw [x.shown_available]
  rfl

theorem State.shown_energyTerm (s : State) (out : Option Nat) (g : Nat) (r : StringRecord) :
    s.shown.energyTerm out g r = s.energyTerm out g r := by
  have hx : ∀ c, s.shown.cabinet? c = (s.cabinet? c).map Cabinet.shown := fun c => tget_map _ _ _
  unfold State.energyTerm
  cases r.cabinet with
  | none => rfl
  | some c =>
    dsimp only
    rw [hx]
    cases s.cabinet? c with
    | none => rfl
    | some x =>
      dsimp only [Option.map_some]
      rw [State.shown_counted]
      rfl

theorem State.shown_figures (s : State) (out : Option Nat) (g : Nat) : s.shown.figures out g = s.figures out g := by
  have hl : s.shown.groupLoad g = s.groupLoad g := by
    unfold State.groupLoad
    rw [State.shown_members, List.map_map]
    rfl
  have hr : s.shown.countedRated out g = s.countedRated out g := by
    unfold State.countedRated
    rw [State.shown_members, List.filter_map, List.map_map]
    exact congrArg (List.map fun e : Nat × Cabinet => e.2.rated) (List.filter_congr fun e _ => s.shown_counted out e.1 e.2)
  have hu : s.shown.usableEnergy out g = s.usableEnergy out g :=
    congrArg List.sum (List.map_congr_left fun e _ => s.shown_energyTerm out g e.2)
  have hm : (s.shown.members g).isEmpty = (s.members g).isEmpty := by rw [State.shown_members, List.isEmpty_map]
  unfold State.figures
  rw [hl, hr, hu, hm]
  rfl

theorem sum_entriesFrom {α : Type} (f : α → Nat) (t : List (Option α)) (k : Nat) :
    ((entriesFrom k t).map (fun e => f e.2)).sum = (t.map (fun o => (o.map f).getD 0)).sum := by
  induction t generalizing k with
  | nil => rfl
  | cons o t ih =>
    cases o with
    | none => exact (ih (k + 1)).trans (Nat.zero_add _).symm
    | some a => exact congrArg (f a + ·) (ih (k + 1))

/-- An entry that counts for nothing may be freed without a change of the sum over the table. -/
theorem sum_entries_free {α : Type} {f : α → Nat} {t : List (Option α)} {k : Nat} {a : α} (h : tget t k = some a) (ha : f a = 0) :
    ((entries (tset t k none)).map (fun e => f e.2)).sum = ((entries t).map (fun e => f e.2)).sum := by
  refine (sum_entriesFrom f _ 1).trans (Eq.trans (congrArg List.sum ?_) (sum_entriesFrom f _ 1).symm)
  cases k with
  | zero => rfl
  | succ k =>
    have hk : t[k]? = some (some a) := Option.join_eq_some_iff.mp h
    refine List.ext_getElem? fun i => ?_
    rw [tset, List.map_set, List.getElem?_set]
    split
    · rename_i hi
      subst hi
      rw [List.length_map, if_pos (List.getElem?_eq_some_iff.mp hk).1, List.getElem?_map, hk]
      exact congrArg some ha.symm
    · rfl

/-! ## Groups that stay current (R96) -/

/-- The Group Table and the tables and fields that it is formed from. -/
def State.marginInputs (s : State) :
    List Group × FloorConfig × List (Option Profile) × List (Option Cabinet) × List (Option StringRecord) × List (Option Permit) :=
  (s.groups, s.floor.config, s.profiles, s.cabinets, s.strings, s.permits)

section
variable {s t : State}

/-- Groups that are current stay so while neither they nor their inputs are touched. -/
theorem State.Formed.of_inputs (h : s.Formed) (hi : t.marginInputs = s.marginInputs) : t.Formed := by
  simp only [State.marginInputs, Prod.mk.injEq] at hi
  obtain ⟨h1, h2, h3, h4, h5, h6⟩ := hi
  refine State.Alike.formed ⟨h1, h2, h3, ?_, ?_, ?_⟩ h
  · exact congrArg (List.map (Option.map Cabinet.plain)) h4
  · exact congrArg (List.map (Option.map StringRecord.plain)) h5
  · exact congrArg (List.map (Option.map Permit.plain)) h6

theorem State.Formed.of_figures (h : s.Formed) (hg : t.groups = s.groups) (hf : ∀ g, t.figures none g = s.figures none g) :
    t.Formed := by
  unfold State.Formed
  rw [hg, funext hf]
  exact h

theorem State.Formed.setCabinet (h : s.Formed) {c : Nat} {x y : Cabinet} (hx : s.cabinet? c = some x) (hg : y.group = x.group)
    (hr : y.rated = x.rated) (hl : y.load = x.load) (ha : y.available = x.available) : (s.setCabinet c (some y)).Formed := by
  have hy : y.shown = x.shown := by unfold Cabinet.shown; rw [hg, hr, hl, ha]
  refine h.of_figures rfl fun g => ?_
  rw [← s.shown_figures, ← (s.setCabinet c (some y)).shown_figures]
  exact State.figures_congr _ _ _ _ rfl (map_tset_same hx hy) rfl rfl rfl

theorem State.Formed.setPermit (h : s.Formed) {k : Nat} {p q : Permit} (hp : s.permit? k = some p) (hc : q.cabinet = p.cabinet) :
    (s.setPermit k (some q)).Formed :=
  (State.alike_setPermit hp (by unfold Permit.plain; rw [hc])).formed h

theorem State.Formed.setString (h : s.Formed) {k : Nat} {r q : StringRecord} (hr : s.string? k = some r) (hv : q.plain = r.plain) :
    (s.setString k (some q)).Formed := by
  have ha : s.Alike (s.setString k (some q)) := ⟨rfl, rfl, rfl, rfl, map_tset_same hr hv, rfl⟩
  exact ha.formed h

/-- A record that names no cabinet counts for no group (R101), so its slot may be freed. -/
theorem State.Formed.freeString (h : s.Formed) {k : Nat} {r : StringRecord} (hr : s.string? k = some r) (hc : r.cabinet = none) :
    (s.freeString k).Formed := by
  refine State.Formed.of_inputs (s := s.setString k none) (h.of_figures rfl fun g => ?_) rfl
  have hz : s.energyTerm none g r = 0 := by unfold State.energyTerm; rw [hc]
  have hu : (s.setString k none).usableEnergy none g = s.usableEnergy none g := sum_entries_free hr hz
  unfold State.figures
  rw [hu]
  rfl

theorem State.Formed.post (h : s.Formed) (c : Nat) (n : Notice) : (s.post c n).Formed := by
  unfold State.post
  split
  · exact h
  · rename_i x hx
    refine State.Formed.of_inputs (s := s.setCabinet c (some { x with notice := some { notice := n, serial := s.link.nextSerial } }))
      (h.setCabinet hx ?_ ?_ ?_ ?_) rfl <;> rfl

theorem State.Formed.setPulse (h : s.Formed) (c pos : Nat) : (s.setPulse c pos).Formed := by
  unfold State.setPulse
  split
  · exact h
  · rename_i x hx
    refine h.setCabinet hx ?_ ?_ ?_ ?_ <;> rfl

theorem State.Formed.storeItem (h : s.Formed) (v n : Nat) (it : Item) : (s.storeItem v n it).Formed := by
  unfold State.storeItem
  split
  · exact h
  · exact h.of_inputs rfl

/-! ### The ask, the utility and the urgent orders -/

theorem State.Formed.endAsk (h : s.Formed) (res : ResultCode) : (s.endAsk res).Formed := by
  unfold State.endAsk
  split
  · exact h
  · exact h.of_inputs rfl

/-- A judged ask changes the groups' inputs by the grant alone, which forms the groups anew (R118, R119). -/
theorem State.Formed.judgeAsk (h : s.Formed) (a : Ask) : (s.judgeAsk a).Formed := by
  have hreply : ∀ code res body, (({ s with ask := none } : State).reply code res body).Formed := fun _ _ _ => h.of_inputs rfl
  unfold State.judgeAsk
  dsimp only
  split
  · exact hreply _ _ _
  · split
    · exact hreply _ _ _
    · split
      · exact hreply _ _ _
      · split
        · exact hreply _ _ _
        · split
          · exact hreply _ _ _
          · unfold State.grantAsk
            dsimp only
            exact (State.recompute_formed _).of_inputs rfl

theorem State.Formed.judgeIfSettled (h : s.Formed) : s.judgeIfSettled.Formed := by
  unfold State.judgeIfSettled
  split
  · exact h
  · split
    · exact h.judgeAsk _
    · exact h

theorem State.Formed.settleWait (h : s.Formed) (c : Nat) : (s.settleWait c).Formed := by
  unfold State.settleWait
  split
  · exact h
  · exact State.Formed.judgeIfSettled (h.of_inputs rfl)

theorem State.Formed.releaseWait (h : s.Formed) (c : Nat) (f : Flight) : (s.releaseWait c f).Formed := by
  unfold State.releaseWait
  split
  · exact h.settleWait c
  · exact h

theorem State.Formed.askReport (h : s.Formed) (c : Nat) (m : Mode) (f : Flight) : (s.askReport c m f).Formed := by
  unfold State.askReport
  split
  · exact h.endAsk _
  · exact h.releaseWait c f

theorem State.Formed.acceptUtility (h : s.Formed) (u : UtilityState) : (s.acceptUtility u).Formed := by
  unfold State.acceptUtility
  dsimp only
  split
  · exact (State.recompute_formed _).endAsk _
  · exact h.of_inputs rfl

theorem State.Formed.judgeFilter (h : s.Formed) : s.judgeFilter.Formed := by
  unfold State.judgeFilter
  split
  · exact h.acceptUtility _
  · exact h

theorem State.Formed.passTime (h : s.Formed) (ms : Nat) : (s.passTime ms).Formed := by
  unfold State.passTime
  split
  · exact State.Formed.judgeFilter (h.of_inputs rfl)
  · exact h
  · exact h

theorem State.Formed.runOrder (h : s.Formed) (o : Order) : (s.runOrder o).Formed := by
  cases o with
  | hold =>
    have hheld : (s.setHold true).Formed := h.of_inputs rfl
    exact hheld.endAsk _
  | release => exact h.of_inputs rfl
  | recallAll => exact State.recompute_formed _

theorem State.Formed.takeUrgent (h : s.Formed) : s.takeUrgent.Formed := by
  unfold State.takeUrgent
  split
  · exact h
  · refine State.Formed.runOrder ?_ _
    exact h.of_inputs rfl

theorem State.Formed.recallPermit (h : s.Formed) {k : Nat} {p : Permit} (hp : s.permit? k = some p) : (s.recallPermit k p).Formed := by
  unfold State.recallPermit
  refine State.Formed.of_inputs (State.Formed.setPermit (h.post p.cabinet .recall) (k := k) (p := p)
    (q := { p with recallAsked := true }) ?_ rfl) rfl
  rw [State.permit?, State.post_permits]
  exact hp

/-! ### The link -/

theorem Cabinet.polled_shown (x : Cabinet) : x.polled.group = x.group ∧ x.polled.rated = x.rated ∧ x.polled.load = x.load ∧
    x.polled.available = x.available := by
  unfold Cabinet.polled
  split <;> exact ⟨rfl, rfl, rfl, rfl⟩

/-- A failed poll that does not move a link into Lost leaves it among Online and Silent, or out of them (R33). -/
theorem linkAfterFailure_answers (l : LinkState) (n : Nat) (h : (l != .lost && (linkAfterFailure l n).1 == .lost) = false) :
    ((linkAfterFailure l n).1 == .online || (linkAfterFailure l n).1 == .silent) = (l == .online || l == .silent) := by
  cases l with
  | silent =>
    unfold linkAfterFailure at *
    dsimp only at *
    split
    · rw [if_pos ‹_›] at h
      cases h
    · rfl
  | unsynced => rfl
  | online => rfl
  | lost => rfl

/-- A failed poll makes a cabinet unavailable only by moving it into Lost (R15, R33). -/
theorem Cabinet.afterFailure_available {x : Cabinet} (h : x.goesLost = false) : x.afterFailure.available = x.available :=
  congrArg (· && (x.mode == .inverter || x.mode == .battery)) (linkAfterFailure_answers x.link x.failures h)

/-- A BUSY reply moves a cabinet from Silent to Online at most, which are both available (R15, R35). -/
theorem Cabinet.afterBusy_shown (x : Cabinet) : x.afterBusy.group = x.group ∧ x.afterBusy.rated = x.rated ∧
    x.afterBusy.load = x.load ∧ x.afterBusy.available = x.available := by
  unfold Cabinet.afterBusy Cabinet.available
  cases x.link <;> simp

theorem State.Formed.formPoll (h : s.Formed) : s.formPoll.Formed := by
  unfold State.formPoll
  split
  · exact h
  · split
    · exact h.of_inputs rfl
    · rename_i x hx
      obtain ⟨hg, hr, hl, ha⟩ := x.polled_shown
      exact (h.setCabinet hx hg hr hl ha).of_inputs rfl

/-- A failed poll that makes a cabinet unavailable forms the groups anew (R33, R96). -/
theorem State.Formed.failPoll (h : s.Formed) {c : Nat} {x : Cabinet} (hx : s.cabinet? c = some x) : (s.failPoll c x).Formed := by
  unfold State.failPoll
  dsimp only
  split
  · exact (State.recompute_formed _).settleWait c
  · rename_i hl
    exact (h.setCabinet hx (y := x.afterFailure) rfl rfl rfl
      (Cabinet.afterFailure_available (Bool.eq_false_iff.mpr hl))).of_inputs rfl

theorem State.Formed.pollFails (h : s.Formed) : s.pollFails.Formed := by
  have hclosed : s.closeWindow.Formed := h.of_inputs rfl
  unfold State.pollFails
  split
  · exact h
  · split
    · exact hclosed
    · rename_i hx
      split
      · exact hclosed.failPoll hx
      · exact hclosed

theorem State.Formed.takeBusy (h : s.Formed) {c : Nat} {x : Cabinet} (hx : s.cabinet? c = some x) (f : Flight) :
    (s.takeBusy c x f).Formed := by
  obtain ⟨hg, hr, hl, ha⟩ := x.afterBusy_shown
  unfold State.takeBusy
  refine State.Formed.releaseWait ?_ c f
  exact (h.setCabinet hx hg hr hl ha).of_inputs rfl

/-- An accepted report forms the groups after all that it does to their inputs (R36, R45). -/
theorem State.takeReport_formed (s : State) (c : Nat) (x : Cabinet) (f : Flight) (rep : Report) : (s.takeReport c x f rep).Formed := by
  unfold State.takeReport
  dsimp only
  exact (State.recompute_formed _).askReport c _ f

theorem State.Formed.takeReply (h : s.Formed) (cs : List RxChar) : (s.takeReply cs).Formed := by
  have hclosed : s.closeWindow.Formed := h.of_inputs rfl
  unfold State.takeReply
  split
  · exact h
  · split
    · exact hclosed
    · rename_i hx
      split
      · split
        · exact hclosed.failPoll hx
        · exact hclosed.takeBusy hx _
        · exact State.takeReport_formed _ _ _ _ _
      · exact hclosed

/-! ### The requests -/

variable (b : List Byte)

theorem State.floorConfigWrite_formed (s : State) : (floorConfigWrite b s).1.Formed := by
  show (State.writeConfig _ s).Formed
  unfold State.writeConfig State.filterAfterWrite
  split
  · exact (State.recompute_formed _).acceptUtility _
  · exact State.recompute_formed _

theorem State.Formed.cabinetSet (h : s.Formed) : (cabinetSet b s).1.Formed := by
  unfold Machine.cabinetSet
  dsimp only
  split
  · exact State.recompute_formed _
  · exact h

theorem State.Formed.cabinetDrop (h : s.Formed) : (cabinetDrop b s).1.Formed := by
  unfold Machine.cabinetDrop
  dsimp only
  split
  · exact h
  · split
    · exact h
    · split
      · exact h
      · exact State.recompute_formed _

theorem State.Formed.cabinetRead (h : s.Formed) : (cabinetRead b s).1.Formed := by
  unfold Machine.cabinetRead
  dsimp only
  split
  · exact h
  · rename_i x hx
    show (if _ then s else _).Formed
    split
    · exact h
    · refine h.setCabinet hx ?_ ?_ ?_ ?_ <;> rfl

theorem State.Formed.profileWrite (h : s.Formed) : (profileWrite b s).1.Formed := by
  unfold Machine.profileWrite
  dsimp only
  split
  · exact State.recompute_formed _
  · exact h

theorem State.Formed.profileRead (h : s.Formed) : (profileRead b s).1.Formed := by
  unfold Machine.profileRead
  dsimp only
  split <;> exact h

theorem State.Formed.stringCommission (h : s.Formed) : (stringCommission b s).1.Formed := by
  unfold Machine.stringCommission
  dsimp only
  split
  · exact h
  · split
    · split
      · exact h
      · split
        · exact h
        · split
          · exact h
          · exact State.recompute_formed _
    · exact h

theorem State.Formed.stringRead (h : s.Formed) : (stringRead b s).1.Formed := by
  unfold Machine.stringRead
  split <;> exact h

theorem State.Formed.stringPulse (h : s.Formed) : (stringPulse b s).1.Formed := by
  unfold Machine.stringPulse
  split
  · exact h
  · split
    · exact h
    · exact h.setPulse _ _

/-- STRING DROP forms no groups, and need not: the record it frees is attached to no cabinet (R61). -/
theorem State.Formed.stringDrop (h : s.Formed) : (stringDrop b s).1.Formed := by
  unfold Machine.stringDrop
  dsimp only
  split
  · exact h
  · rename_i r hr
    split
    · exact h
    · rename_i hatt
      split
      · exact h
      · split
        · exact h
        · exact h.freeString hr (Option.isNone_iff_eq_none.mp (by simpa [StringRecord.attached] using hatt))

theorem State.Formed.permitAsk (h : s.Formed) : (permitAsk b s).1.Formed := by
  unfold Machine.permitAsk
  dsimp only
  split
  · exact h
  · split
    · exact h
    · exact h.of_inputs rfl

theorem State.Formed.permitRead (h : s.Formed) : (permitRead b s).1.Formed := by
  unfold Machine.permitRead
  dsimp only
  split <;> exact h

theorem State.Formed.permitRecall (h : s.Formed) : (permitRecall b s).1.Formed := by
  unfold Machine.permitRecall
  dsimp only
  split
  · exact h
  · rename_i hp
    split
    · exact h.recallPermit hp
    · exact h

theorem State.Formed.permitCancel (h : s.Formed) : (permitCancel b s).1.Formed := by
  unfold Machine.permitCancel
  dsimp only
  split
  · exact h
  · split
    · exact State.recompute_formed _
    · exact h

theorem State.Formed.visitOpen (h : s.Formed) : (visitOpen b s).1.Formed := by
  unfold Machine.visitOpen
  split
  · exact h
  · exact h.of_inputs rfl

theorem State.Formed.visitAdd (h : s.Formed) : (visitAdd b s).1.Formed := by
  unfold Machine.visitAdd
  dsimp only
  split
  · exact h
  · split
    · exact h
    · split
      · exact h
      · split
        · exact h
        · split
          · exact h
          · exact h.of_inputs rfl

theorem State.Formed.visitStart (h : s.Formed) : (visitStart b s).1.Formed := by
  unfold Machine.visitStart
  dsimp only
  split
  · exact h
  · split
    · exact h
    · refine State.Formed.storeItem ?_ _ _ _
      split
      · exact State.recompute_formed _
      · exact h

theorem State.Formed.finishReplace (h : s.Formed) (v n profileNo value : Nat) (x : Visit) (it : Item) :
    (finishReplace v n profileNo value x it s).1.Formed := by
  unfold Machine.finishReplace
  split
  · exact h
  · split
    · exact h
    · split
      · exact h
      · split
        · exact h
        · split
          · exact h
          · exact State.recompute_formed _

theorem State.Formed.handResult (h : s.Formed) (it : Item) (value : Nat) : (s.handResult it value).Formed := by
  unfold State.handResult
  split
  · exact h
  · exact h
  · exact State.recompute_formed _
  · exact State.recompute_formed _

theorem State.Formed.visitFinish (h : s.Formed) : (visitFinish b s).1.Formed := by
  unfold Machine.visitFinish
  dsimp only
  split
  · exact h
  · split
    · exact h
    · split
      · exact h.finishReplace _ _ _ _ _ _
      · exact (h.handResult _ _).storeItem _ _ _

theorem State.Formed.visitAbandon (h : s.Formed) : (visitAbandon b s).1.Formed := by
  unfold Machine.visitAbandon
  dsimp only
  split
  · exact h
  · split
    · exact (State.recompute_formed _).storeItem _ _ _
    · exact h

theorem State.Formed.visitClose (h : s.Formed) : (visitClose b s).1.Formed := by
  unfold Machine.visitClose
  dsimp only
  split
  · exact h
  · split
    · exact h
    · exact State.recompute_formed _

theorem State.Formed.visitRead (h : s.Formed) : (visitRead b s).1.Formed := by
  unfold Machine.visitRead
  dsimp only
  split <;> exact h

/-! ### Every command -/

/-- A frame keeps the groups current when what its type does keeps them so. -/
theorem State.Formed.frameEvent (h : s.Formed) {n : Nat} {tail : State → List Byte} {act : State → State}
    (ha : ∀ u, State.Formed u → (act u).Formed) : (s.frameEvent n tail act).Formed := by
  unfold State.frameEvent
  split
  · rw [State.openFrame_eq]
    have hopen : (s.withPort s.openedPort).Formed := h.of_inputs rfl
    exact (ha _ hopen).of_inputs rfl
  · exact h.of_inputs rfl
  · exact h.of_inputs rfl

theorem State.clearOverrun_inputs (u : State) : u.clearOverrun.marginInputs = u.marginInputs := by
  unfold State.clearOverrun
  split <;> rfl

theorem State.Formed.takeRequest (h : s.Formed) {code : Byte} {need : Nat} {f : RequestFrame}
    {handle : List Byte → State → State × Answer} (hh : ∀ b u, State.Formed u → (handle b u).1.Formed) :
    (s.takeRequest code need f handle).Formed := by
  refine h.frameEvent fun u hu => ?_
  unfold State.judgeRequest
  split
  · have hcleared := hu.of_inputs u.clearOverrun_inputs
    dsimp only
    split
    · unfold State.answer
      split
      · exact (hh _ _ hcleared).of_inputs rfl
      · exact (hh _ _ hcleared).of_inputs rfl
    · exact hcleared.of_inputs rfl
  · exact hu.of_inputs rfl
  · exact hu.of_inputs rfl
  · exact hu.of_inputs rfl

theorem State.endResetWrite_inputs (o : WriteOutcome) (s : State) : (s.endResetWrite o).marginInputs = s.marginInputs := by
  unfold State.endResetWrite
  split <;> rfl

theorem State.endRunningWrite_inputs (o : WriteOutcome) (s : State) : (s.endRunningWrite o).marginInputs = s.marginInputs := by
  unfold State.endRunningWrite
  split
  · rfl
  · split <;> rfl

theorem State.Formed.endStartUp (h : s.Formed) : s.endStartUp.Formed := h.of_inputs rfl

theorem State.Formed.deliverHeldTick (h : s.Formed) : s.deliverHeldTick.Formed := by
  unfold State.deliverHeldTick
  split
  · exact State.tick_formed (h.of_inputs rfl)
  · exact h

/-- The end of a start forms the groups from what the start restored (R108, R175). -/
theorem State.finishStartUp_formed (s : State) : s.finishStartUp.Formed := by
  have hformed : s.nearlyStarted.Formed := State.recompute_formed _
  exact hformed.endStartUp.deliverHeldTick.takeUrgent

/-- A command that meets current groups leaves them current, or leaves the part not operating. -/
theorem exec_formed (i : Instr) (h : s.Formed) : ∃ t, exec i s = .next t ∧ (t.operating = true → t.Formed) := by
  have req : ∀ {code : Byte} {need : Nat} {f : RequestFrame} {handle : List Byte → State → State × Answer},
      (∀ b u, State.Formed u → (handle b u).1.Formed) → (s.takeRequest code need f handle).operating = true →
      (s.takeRequest code need f handle).Formed := fun hh _ => h.takeRequest hh
  have frame : ∀ {n : Nat} {tail : State → List Byte} {act : State → State}, (∀ u, (act u).marginInputs = u.marginInputs) →
      (s.frameEvent n tail act).operating = true → (s.frameEvent n tail act).Formed :=
    fun ha _ => h.frameEvent fun u hu => hu.of_inputs (ha u)
  have started : ∀ (u : State) (cause : StartCause), (u.start cause).operating = true → (u.start cause).Formed :=
    fun u cause ho => absurd ho (Bool.eq_false_iff.mp (State.start_not_operating cause u))
  cases i with
  | floorRead f => exact ⟨_, rfl, req fun _ _ hu => hu⟩
  | floorConfigWrite f => exact ⟨_, rfl, req fun b u _ => u.floorConfigWrite_formed b⟩
  | clockSet f => exact ⟨_, rfl, req fun _ _ hu => hu.of_inputs rfl⟩
  | attentionRead f => exact ⟨_, rfl, req fun _ _ hu => hu.of_inputs rfl⟩
  | cabinetSet f => exact ⟨_, rfl, req fun b _ hu => hu.cabinetSet b⟩
  | cabinetDrop f => exact ⟨_, rfl, req fun b _ hu => hu.cabinetDrop b⟩
  | cabinetRead f => exact ⟨_, rfl, req fun b _ hu => hu.cabinetRead b⟩
  | profileWrite f => exact ⟨_, rfl, req fun b _ hu => hu.profileWrite b⟩
  | profileRead f => exact ⟨_, rfl, req fun b _ hu => hu.profileRead b⟩
  | stringCommission f => exact ⟨_, rfl, req fun b _ hu => hu.stringCommission b⟩
  | stringRead f => exact ⟨_, rfl, req fun b _ hu => hu.stringRead b⟩
  | stringPulse f => exact ⟨_, rfl, req fun b _ hu => hu.stringPulse b⟩
  | stringDrop f => exact ⟨_, rfl, req fun b _ hu => hu.stringDrop b⟩
  | permitAsk f => exact ⟨_, rfl, req fun b _ hu => hu.permitAsk b⟩
  | permitRead f => exact ⟨_, rfl, req fun b _ hu => hu.permitRead b⟩
  | permitRecall f => exact ⟨_, rfl, req fun b _ hu => hu.permitRecall b⟩
  | permitCancel f => exact ⟨_, rfl, req fun b _ hu => hu.permitCancel b⟩
  | visitOpen f => exact ⟨_, rfl, req fun b _ hu => hu.visitOpen b⟩
  | visitAdd f => exact ⟨_, rfl, req fun b _ hu => hu.visitAdd b⟩
  | visitStart f => exact ⟨_, rfl, req fun b _ hu => hu.visitStart b⟩
  | visitFinish f => exact ⟨_, rfl, req fun b _ hu => hu.visitFinish b⟩
  | visitAbandon f => exact ⟨_, rfl, req fun b _ hu => hu.visitAbandon b⟩
  | visitClose f => exact ⟨_, rfl, req fun b _ hu => hu.visitClose b⟩
  | visitRead f => exact ⟨_, rfl, req fun b _ hu => hu.visitRead b⟩
  | unknownRequest code f =>
    refine ⟨_, rfl, frame fun u => ?_⟩
    unfold State.judgeUnknown
    split
    · exact u.clearOverrun_inputs
    · rfl
    · rfl
    · rfl
  | statusPeek b => exact ⟨_, rfl, frame fun _ => rfl⟩
  | disregardedFrame b rest => exact ⟨_, rfl, frame fun _ => rfl⟩
  | fetch rest =>
    refine ⟨_, rfl, frame fun u => ?_⟩
    unfold State.judgeFetch
    split
    · split <;> rfl
    · rfl
  | urgent order rest =>
    refine ⟨_, rfl, frame fun u => ?_⟩
    unfold State.placeOrder
    split <;> rfl
  | urgentCancel rest =>
    refine ⟨_, rfl, frame fun u => ?_⟩
    unfold State.cancelOrder
    split <;> rfl
  | portReset rest => exact ⟨_, rfl, frame fun _ => rfl⟩
  | pollSlot orderFirst =>
    refine ⟨_, rfl, fun _ => ?_⟩
    split
    · split
      · exact h.takeUrgent.formPoll
      · exact h.formPoll.takeUrgent
    · exact h
  | breakSlot =>
    refine ⟨_, rfl, fun _ => ?_⟩
    split
    · exact State.Formed.takeUrgent (h.of_inputs rfl)
    · exact h
  | idleSlot =>
    refine ⟨_, rfl, fun _ => ?_⟩
    split
    · exact State.Formed.takeUrgent (h.of_inputs rfl)
    · exact h
  | noReply => exact ⟨_, rfl, fun _ => h.pollFails⟩
  | noReplyInTime => exact ⟨_, rfl, fun _ => h.pollFails⟩
  | replyEnd chars => exact ⟨_, rfl, fun _ => h.takeReply _⟩
  | askWaitEnd => exact ⟨_, rfl, fun _ => h.judgeIfSettled⟩
  | askEarlyEnd =>
    refine ⟨_, rfl, fun _ => ?_⟩
    split
    · exact h
    · split
      · exact h
      · exact h.endAsk _
  | minuteTick =>
    refine ⟨_, rfl, fun _ => ?_⟩
    split
    · split
      · exact State.tick_formed h
      · exact h.of_inputs rfl
    · exact h
    · exact h
  | calendarStep slot =>
    refine ⟨_, rfl, fun _ => ?_⟩
    split
    · exact h
    · split
      · exact State.recompute_formed _
      · exact h
  | automaticPulse slot =>
    refine ⟨_, rfl, fun _ => ?_⟩
    split
    · exact h
    · rename_i r hr
      split
      · exact h
      · rename_i p _
        split
        · refine State.Formed.setPulse ?_ _ _
          exact h.setString hr rfl
        · exact h
  | grantTimeout slot =>
    refine ⟨_, rfl, fun _ => ?_⟩
    split
    · exact h
    · split
      · exact State.recompute_formed _
      · exact h
  | permitOverdue slot =>
    refine ⟨_, rfl, fun _ => ?_⟩
    split
    · exact h
    · rename_i p hp
      split
      · exact (h.setPermit hp (q := { p with state := .overdue, remaining := 0 }) rfl).of_inputs rfl
      · exact h
  | visitOvertime slot =>
    refine ⟨_, rfl, fun _ => h.of_inputs ?_⟩
    split
    · rfl
    · split <;> rfl
  | utilitySenseEdge high =>
    refine ⟨_, rfl, fun _ => h.of_inputs ?_⟩
    split <;> rfl
  | utilityChange => exact ⟨_, rfl, fun _ => h.passTime _⟩
  | storeWriteBegin =>
    refine ⟨_, rfl, fun _ => h.of_inputs ?_⟩
    split <;> rfl
  | storeWriteEnd o =>
    refine ⟨_, rfl, fun _ => h.of_inputs ?_⟩
    split
    · exact s.endRunningWrite_inputs o
    · exact s.endResetWrite_inputs o
    · rfl
  | powerOn =>
    refine ⟨_, rfl, ?_⟩
    split <;> exact started _ _
  | powerLoss =>
    refine ⟨_, rfl, ?_⟩
    split
    · exact fun _ => h
    · exact nofun
    · exact nofun
  | resetAssert o =>
    refine ⟨_, rfl, ?_⟩
    split
    · exact nofun
    · exact fun _ => h
    · exact fun _ => h
  | resetLine =>
    refine ⟨_, rfl, ?_⟩
    split
    · exact fun _ => h
    · exact started _ _
    · exact started _ _
  | firstUtilityJudgement =>
    refine ⟨_, rfl, fun _ => ?_⟩
    split
    · exact s.finishStartUp_formed
    · exact h
  | floorClockSecond =>
    refine ⟨_, rfl, fun _ => h.of_inputs ?_⟩
    split <;> rfl
  | chipSelectAssertion =>
    refine ⟨_, rfl, fun _ => h.of_inputs ?_⟩
    split <;> rfl

/-- Changes of a part that does not operate do not make it operate. -/
theorem Moves.operating_of (h : Moves s t) (hw : s.AskWorks) (ht : t.operating = true) : s.operating = true :=
  (h.keep (P := fun u => u.AskWorks ∧ (u.operating = true → s.operating = true))
    (fun _ _ m hu => ⟨(m.operating_of hu.1).1, fun hv => hu.2 ((m.operating_of hu.1).2 hv)⟩) ⟨hw, id⟩).2 ht

/-- A command that makes a part operate ends its start, which forms the groups (R108, R175). -/
theorem Effect.groupsCurrent_of_start (h : Effect s t) (hw : s.AskWorks) (hn : s.operating = false) : t.GroupsCurrent := by
  intro ht
  cases h with
  | moves h => rw [h.operating_of hw ht] at hn; cases hn
  | blanked h => exact absurd ((State.operating_eq t).mp ht).1 h.phase
  | started u cause => rw [State.start_not_operating] at ht; cases ht
  | finished => exact s.finishStartUp_formed

/-- Every command of a part whose groups are current leaves them current. -/
theorem exec_groupsCurrent (i : Instr) (hw : s.AskWorks) (h : s.GroupsCurrent) (he : exec i s = .next t) : t.GroupsCurrent := by
  cases ho : s.operating with
  | true =>
    obtain ⟨u, hu, hf⟩ := exec_formed i (h ho)
    cases hu.symm.trans he
    exact hf
  | false =>
    obtain ⟨u, hu, hf⟩ := exec_effect i s
    cases hu.symm.trans he
    exact hf.groupsCurrent_of_start hw ho

end

end Sys2Proof.Machine

section
open Sys2Proof Sys2Proof.Machine

/-- Settles O10: a command forms the groups anew after all that it does to their inputs, or does nothing to them that a figure reads;
a part comes to operate by the end of its start alone, which forms them. -/
theorem stepKeepsGroupsCurrent : Obligations.StepKeepsGroupsCurrent := by
  intro s t _ hp h hstep
  have hw : s.AskWorks := hp.working.mpr
  unfold step at hstep
  split at hstep
  · cases hstep
    exact fun ht => State.Formed.passTime (h ((Moves.refl.passTime 1).operating_of hw ht)) 1
  · rename_i c rest _
    exact exec_groupsCurrent (s := { s with pending := rest }) c hw h hstep

end

namespace Sys2Proof.Machine

/-! ## The spare count (R100) -/

theorem insertDesc_eq_orderedInsert (x : Nat) (l : List Nat) : insertDesc x l = l.orderedInsert (· ≥ ·) x := by
  induction l with
  | nil => rfl
  | cons y t ih => rw [insertDesc, ih, List.orderedInsert_cons]

theorem sortDesc_eq_insertionSort (l : List Nat) : sortDesc l = l.insertionSort (· ≥ ·) := by
  induction l with
  | nil => rfl
  | cons x t ih => rw [sortDesc, ih, insertDesc_eq_orderedInsert]; rfl

/-- A descending order of a list of numbers is the one that the model forms: equal numbers cannot be told apart. -/
theorem eq_sortDesc {sorted rated : List Nat} (hp : sorted.Perm rated) (hs : sorted.Pairwise (fun a b => b ≤ a)) :
    sorted = sortDesc rated := by
  rw [sortDesc_eq_insertionSort]
  exact List.Perm.eq_of_pairwise (fun _ _ _ _ h1 h2 => le_antisymm h2 h1) hs (List.pairwise_insertionSort (· ≥ ·) rated)
    (hp.trans (List.perm_insertionSort (· ≥ ·) rated).symm)

/-- The model's count is the largest number of entries that can be taken from the front of a list with the rest at or above
`creq`. -/
theorem losable_spec {creq : Nat} {l : List Nat} (h : creq ≤ l.sum) :
    losable creq l ≤ l.length ∧ creq ≤ l.sum - (l.take (losable creq l)).sum ∧
      ∀ j ≤ l.length, creq ≤ l.sum - (l.take j).sum → j ≤ losable creq l := by
  induction l with
  | nil => exact ⟨le_rfl, h, fun _ hj _ => hj⟩
  | cons x t ih =>
    have hrest : ∀ j, (x :: t).sum - ((x :: t).take (j + 1)).sum = t.sum - (t.take j).sum := fun j => by
      rw [List.take_succ_cons, List.sum_cons, List.sum_cons, Nat.add_sub_add_left]
    by_cases ht : creq ≤ t.sum
    · obtain ⟨hlen, hleft, hmax⟩ := ih ht
      rw [losable, if_pos ht, hrest]
      refine ⟨Nat.succ_le_succ hlen, hleft, fun j hj hcap => ?_⟩
      cases j with
      | zero => exact Nat.zero_le _
      | succ j =>
        rw [hrest] at hcap
        exact Nat.succ_le_succ (hmax j (Nat.le_of_succ_le_succ hj) hcap)
    · rw [losable, if_neg ht]
      refine ⟨Nat.zero_le _, h, fun j _ hcap => ?_⟩
      cases j with
      | zero => exact le_rfl
      | succ j =>
        rw [hrest] at hcap
        omega

end Sys2Proof.Machine

section
open Sys2Proof Sys2Proof.Machine

/-- Settles O54: the descending order is unique, and the count takes from its front while the rest suffices. -/
theorem spareCountIsTheLargest : Obligations.SpareCountIsTheLargest := by
  intro creq rated sorted hp hs
  have hsum : rated.sum = sorted.sum := hp.sum_eq.symm
  unfold spareCount
  rw [← eq_sortDesc hp hs, hsum, ← hp.length_eq]
  by_cases hc : creq ≤ sorted.sum
  · rw [if_pos hc]
    obtain ⟨hlen, hleft, hmax⟩ := losable_spec hc
    refine ⟨fun h => absurd hc (by omega), fun _ => ⟨_, hlen, hleft, hmax, rfl⟩, ?_, ?_⟩
    · omega
    · exact Int.ofNat_le.mpr (Nat.min_le_right _ 23)
  · rw [if_neg hc]
    exact ⟨fun _ => rfl, fun h => absurd h hc, le_rfl, by omega⟩

end

namespace Sys2Proof.Machine

/-! ## The figures of a group (R94 to R106) -/

/-- The required capacity is the load with its headroom, rounded up (R99). -/
theorem requiredCapacity_bounds (load headroom : Nat) :
    load * (1000 + headroom) ≤ requiredCapacity load headroom * 1000 ∧
      requiredCapacity load headroom * 1000 < load * (1000 + headroom) + 1000 := by
  unfold requiredCapacity
  generalize load * (1000 + headroom) = n
  omega

/-- The record is attached to a counted cabinet of the group exactly where the list of these names its cabinet (R95, R101). -/
theorem State.counted_any_iff (s : State) (out : Option Nat) (g : Nat) (c : Option Nat) :
    ((s.members g).filter (fun e => s.counted out e.1 e.2)).any (fun q => c == some q.1) = true ↔
      ∃ n x, c = some n ∧ s.cabinet? n = some x ∧ x.group = g ∧ s.counted out n x = true := by
  simp only [List.any_filter, State.members, List.any_eq_true, Bool.and_eq_true, beq_iff_eq, Prod.exists, mem_entries]
  exact exists_congr fun n => exists_congr fun x =>
    ⟨fun ⟨hx, hg, hc, e⟩ => ⟨e, hx, hg, hc⟩, fun ⟨e, hx, hg, hc⟩ => ⟨hx, hg, hc, e⟩⟩

theorem State.energyTerm_eq (s : State) (out : Option Nat) (g : Nat) (r : StringRecord) :
    s.energyTerm out g r =
      if r.state ≠ .retiring ∧ r.state ≠ .retired ∧
          ((s.members g).filter (fun e => s.counted out e.1 e.2)).any (fun q => r.cabinet == some q.1) = true then
        recordEnergy (s.profile? r.profile) r else 0 := by
  have hany := s.counted_any_iff out g r.cabinet
  unfold State.energyTerm
  cases hr : r.cabinet with
  | none =>
    refine (if_neg fun ⟨_, _, h⟩ => ?_).symm
    obtain ⟨n, x, e, -⟩ := hany.mp (hr ▸ h)
    rw [hr] at e
    cases e
  | some c =>
    rw [hr] at hany
    dsimp only
    cases hx : s.cabinet? c with
    | none =>
      refine (if_neg fun ⟨_, _, h⟩ => ?_).symm
      obtain ⟨n, x, e, hn, -⟩ := hany.mp h
      cases e
      rw [hx] at hn
      cases hn
    | some x =>
      refine if_congr ⟨fun ⟨hg, hc, h1, h2⟩ => ⟨h1, h2, hany.mpr ⟨c, x, rfl, hx, hg, hc⟩⟩, fun ⟨h1, h2, h⟩ => ?_⟩ rfl rfl
      obtain ⟨n, y, e, hy, hg, hc⟩ := hany.mp h
      cases e
      rw [hx] at hy
      cases hy
      exact ⟨hg, hc, h1, h2⟩

theorem recordEnergy_filled (p : Profile) (r : StringRecord) : recordEnergy (some p) r =
    p.capacity * p.voltage * r.soh / 1000 - (r.event.map (fun d => d.charge * p.voltage / 10)).getD 0 := by
  unfold recordEnergy
  cases r.event <;> rfl

theorem State.figures_status (s : State) (out : Option Nat) (g : Nat) : (s.figures out g).status =
    if (s.members g).isEmpty = true then .met
    else if (s.figures out g).spare < ((s.figures out g).required : Int) ∨
      (s.figures out g).autonomy < s.floor.config.autonomyFloor then .short
    else .met := rfl

/-- A bit of the map stands exactly for a group that was Met and is Short (R105). -/
theorem enteredShort_getLsbD {i : Nat} (hi : i < 4) (n : Nat) (old new : List Group) :
    (enteredShort n old new).getLsbD i = true ↔
      ∃ j o m, old[j]? = some o ∧ new[j]? = some m ∧ o.status = .met ∧ m.status = .short ∧ i + 1 = n + j := by
  induction old generalizing n new with
  | nil => simp [enteredShort]
  | cons o os ih =>
    cases new with
    | nil => simp [enteredShort]
    | cons m ms =>
      have hbit : (if o.status = .met ∧ m.status = .short then markOf 4 n else 0).getLsbD i = true ↔
          o.status = .met ∧ m.status = .short ∧ i + 1 = n := by
        split
        · rename_i h
          simp [markOf_getLsbD n hi, h]
        · rename_i h
          simpa using fun h1 h2 => absurd ⟨h1, h2⟩ h
      rw [enteredShort, BitVec.getLsbD_or, Bool.or_eq_true, hbit, ih]
      constructor
      · rintro (⟨h1, h2, h3⟩ | ⟨j, o', m', ho, hm, h1, h2, h3⟩)
        · exact ⟨0, o, m, rfl, rfl, h1, h2, h3⟩
        · exact ⟨j + 1, o', m', ho, hm, h1, h2, by omega⟩
      · rintro ⟨j, o', m', ho, hm, h1, h2, h3⟩
        cases j with
        | zero =>
          cases ho
          cases hm
          exact .inl ⟨h1, h2, h3⟩
        | succ j => exact .inr ⟨j, o', m', ho, hm, h1, h2, by omega⟩

end Sys2Proof.Machine

section
open Sys2Proof Sys2Proof.Machine

/-- Settles O55: the figures are those of the definition, the energy read cabinet by cabinet, and MARGIN SHORT takes the map of the
groups that went from Met to Short. -/
theorem figuresOfAGroup : Obligations.FiguresOfAGroup := by
  refine ⟨?_, fun s _ => ⟨rfl, fun i hi => ?_, rfl⟩⟩
  · intro s out g members counted G hm hc hG
    have hmembers : members = s.members g := hm
    have hcounted : counted = (s.members g).filter (fun e => s.counted out e.1 e.2) := by rw [hc, hmembers]; rfl
    clear hm hc
    subst hG hmembers
    obtain ⟨hlow, hhigh⟩ := requiredCapacity_bounds (s.groupLoad g) s.floor.config.headroom
    refine ⟨rfl, rfl, hlow, hhigh, by rw [hcounted]; rfl, by rw [hcounted]; rfl, ?_, rfl, fun he => ?_, fun hne => ?_⟩
    · refine congrArg List.sum (List.map_congr_left fun e _ => ?_)
      rw [State.energyTerm_eq, ← hcounted]
      cases s.profile? e.2.profile with
      | none => exact ite_self _
      | some p => rw [recordEnergy_filled]
    · rw [State.figures_status, he]
      rfl
    · rw [State.figures_status, if_neg (fun h => hne (List.isEmpty_iff.mp h))]
      split
      · exact ⟨fun _ => ‹_›, fun _ => rfl⟩
      · exact ⟨nofun, fun h => absurd h ‹_›⟩
  · show (s.attention.marginShort ||| enteredShort 1 s.groups _).getLsbD i = true ↔ _
    have hnew : ((numbers Config.groupCount).map (s.figures none))[i]? = some (s.figures none (i + 1)) := by
      rw [List.getElem?_map, numbers, List.getElem?_range' (show i < Config.groupCount from hi), Option.map_some, Nat.one_mul, Nat.add_comm]
    rw [BitVec.getLsbD_or, Bool.or_eq_true, enteredShort_getLsbD hi]
    refine or_congr_right ⟨?_, fun ⟨hshort, G, hG, hmet⟩ => ⟨i, G, _, hG, hnew, hmet, hshort, by omega⟩⟩
    rintro ⟨j, o, m, ho, hm, hmet, hshort, hij⟩
    obtain rfl : j = i := by omega
    rw [hnew] at hm
    cases hm
    exact ⟨hshort, o, ho, hmet⟩

end

namespace Sys2Proof.Machine

/-! ## The end of an ask (R116, R118, R119) -/

section
variable {s : State} {a : Ask} {x : Cabinet}

/-- An ask that waits for no cabinet is judged (R115, R118). -/
theorem exec_askWaitEnd_settled (ha : s.ask = some a) (hw : a.waitSet = []) : exec .askWaitEnd s = .next (s.judgeAsk a) := by
  have he : exec .askWaitEnd s = .next s.judgeIfSettled := rfl
  rw [he, State.judgeIfSettled, ha]
  exact congrArg Host.Outcome.next (if_pos hw)

theorem State.judgeAsk_lost (hx : s.cabinet? a.cabinet = some x) (hl : x.link = .lost) :
    s.judgeAsk a = ({ s with ask := none } : State).reply askCode .wrongState [] := by
  unfold State.judgeAsk
  rw [hx]
  exact if_pos hl

/-- An ask for a cabinet that is not Lost is judged on the figures of its group without the cabinet (R106, R118). -/
theorem State.judgeAsk_figures (hx : s.cabinet? a.cabinet = some x) (hl : x.link ≠ .lost) {g : Group}
    (hg : g = s.figures (some a.cabinet) x.group) : s.judgeAsk a =
      let s1 : State := { s with ask := none }
      let figs := figuresBody s.floor.config.autonomyFloor g
      if g.spare < (g.required : Int) then s1.reply askCode .marginShort figs
      else if g.autonomy < s.floor.config.autonomyFloor then s1.reply askCode .autonomyShort figs
      else
        match lowestFree s.permits with
        | none => s1.reply askCode .noRoom []
        | some k => s1.grantAsk a k g := by
  unfold State.judgeAsk
  rw [hx]
  subst hg
  exact if_neg hl

/-- A grant: the permit stands in its slot, GRANT is posted, the image is queued, the groups are formed and the port holds the reply
(R119). -/
theorem State.grantAsk_eq (hx : s.cabinet? a.cabinet = some x) (k : Nat) (g : Group) : s.grantAsk a k g =
    { ({ s with
          permits := tset s.permits k (some (grantedPermit a s.floor.config.grantTimeout g))
          cabinets := tset s.cabinets a.cabinet
            (some { x with notice := some { notice := .grant, serial := s.link.nextSerial } })
          link := { s.link with nextSerial := s.link.nextSerial + 1 }
          store := { s.store with queue := enqueue (permitImage k) s.store.queue } } : State).recompute with
      port := { s.port with
        state := .replyReady
        reply := some
          { code := askCode, result := resultCode .done
            body := permitBody k (grantedPermit a s.floor.config.grantTimeout g) ++
              figuresBody s.floor.config.autonomyFloor g } } } := by
  unfold State.grantAsk
  dsimp only
  rw [State.post_present _ _ (s.setPermit k _) x hx]
  rfl

/-- A waiting ask that one of R116's conditions stops ends with its refusal. -/
theorem exec_askEarlyEnd_stopped (ha : s.ask = some a) {res : ResultCode} (he : s.earlyEnd a = some res) :
    exec .askEarlyEnd s = .next { s with
      ask := none
      port := { s.port with state := .replyReady, reply := some { code := askCode, result := resultCode res, body := [] } } } := by
  have hexec : exec .askEarlyEnd s = execAskEarlyEnd s := rfl
  rw [hexec, execAskEarlyEnd, ha]
  dsimp only
  rw [he]
  exact congrArg Host.Outcome.next (State.endAsk_some res s a ha)

theorem exec_askEarlyEnd_waits (ha : s.ask = some a) (he : s.earlyEnd a = none) : exec .askEarlyEnd s = .next s := by
  have hexec : exec .askEarlyEnd s = execAskEarlyEnd s := rfl
  rw [hexec, execAskEarlyEnd, ha]
  dsimp only
  rw [he]

/-- Of a part that holds and has lost no utility, the mode of the asked cabinet alone can stop the ask (R116). -/
theorem State.earlyEnd_by_mode (hx : s.cabinet? a.cabinet = some x) (hu : s.floor.utility ≠ .lost) (hh : s.floor.hold = false) :
    s.earlyEnd a = if x.mode ≠ .inverter ∧ x.mode ≠ .staticBypass then some .wrongState else none := by
  unfold State.earlyEnd
  rw [if_neg hu, hh, if_neg Bool.false_ne_true, hx]

end

end Sys2Proof.Machine

section
open Sys2Proof Sys2Proof.Machine

/-- Settles O50: an ask whose wait set is empty is judged, branch by branch of R118; the three conditions of R116 are read in their
order. -/
theorem theAskEnds : Obligations.TheAskEnds := by
  refine ⟨fun s a x g ha hw hx hg => ⟨fun hl => ?_, fun hl hs => ?_, fun hl hs hf => ?_, fun k p hl hs hf hk hp => ?_⟩,
    fun s h => ?_, fun s ha => ?_, fun s a x e ha hx he => ⟨fun hu => ?_, fun hu hh => ?_, fun hu hh hi hb => ?_, fun hu hh hm => ?_⟩⟩
  · rw [exec_askWaitEnd_settled ha hw, State.judgeAsk_lost hx hl]
    rfl
  · rw [exec_askWaitEnd_settled ha hw, State.judgeAsk_figures hx hl hg]
    exact congrArg Host.Outcome.next (if_pos hs)
  · rw [exec_askWaitEnd_settled ha hw, State.judgeAsk_figures hx hl hg]
    exact congrArg Host.Outcome.next ((if_neg (not_lt.mpr hs)).trans (if_pos hf))
  · rw [exec_askWaitEnd_settled ha hw, State.judgeAsk_figures hx hl hg]
    dsimp only
    rw [if_neg (not_lt.mpr hs), if_neg (not_lt.mpr hf), hk, hp]
    exact congrArg Host.Outcome.next (State.grantAsk_eq (s := { s with ask := none }) hx k g)
  · have hj : exec .askWaitEnd s = .next s.judgeIfSettled := rfl
    rw [hj, State.judgeIfSettled]
    cases ha : s.ask with
    | none => rfl
    | some a => exact congrArg Host.Outcome.next (if_neg (h a ha))
  · have hj : exec .askEarlyEnd s = execAskEarlyEnd s := rfl
    rw [hj, execAskEarlyEnd, ha]
  · rw [exec_askEarlyEnd_stopped ha (if_pos hu), he]
    rfl
  · rw [exec_askEarlyEnd_stopped ha ((if_neg hu).trans (if_pos hh)), he]
    rfl
  · rw [exec_askEarlyEnd_stopped ha ((State.earlyEnd_by_mode hx hu hh).trans (if_pos ⟨hi, hb⟩)), he]
    rfl
  · exact exec_askEarlyEnd_waits ha ((State.earlyEnd_by_mode hx hu hh).trans (if_neg fun h => hm.elim h.1 h.2))

end

namespace Sys2Proof.Machine

/-! ## What asks and grants turn on (R114, R131, R178) -/

/-- Power, the accepted utility, the state of the port, whether it holds a reply, and whether an ask waits. -/
def State.grounds (s : State) : Phase × UtilityState × PortState × Bool × Bool :=
  (s.phase, s.floor.utility, s.port.state, s.port.reply.isSome, s.ask.isSome)

/-- `t` stands on the grounds of `s`, and no permit has come to be Granted. -/
structure State.Still (s t : State) : Prop where
  grounds : t.grounds = s.grounds
  granted : ∀ k, t.isGranted k = true → s.isGranted k = true

section
variable {s t u : State}

theorem State.isGranted_congr (h : t.permits = s.permits) : t.isGranted = s.isGranted := by
  funext k
  rw [State.isGranted, State.isGranted, State.permit?, State.permit?, h]

theorem State.Still.refl (s : State) : s.Still s := ⟨rfl, fun _ h => h⟩

theorem State.Still.trans (h : s.Still t) (g : t.Still u) : s.Still u :=
  ⟨g.grounds.trans h.grounds, fun k hk => h.granted k (g.granted k hk)⟩

/-- What touches neither the grounds nor the permits. -/
theorem State.Still.same (h : s.Still t) (hg : u.grounds = t.grounds) (hp : u.permits = t.permits) : s.Still u :=
  h.trans ⟨hg, fun k hk => by rwa [State.isGranted_congr hp] at hk⟩

theorem State.Still.foldl {α : Type} {f : State → α → State} (hf : ∀ v a, State.Still v (f v a)) (l : List α) (s : State) :
    s.Still (l.foldl f s) := by
  induction l generalizing s with
  | nil => exact .refl s
  | cons a l ih => exact (hf s a).trans (ih _)

theorem State.RecordFrame.still (h : s.RecordFrame t) : s.Still t :=
  (State.Still.refl s).same (by unfold State.grounds; rw [h.phase, h.floor, h.port, h.ask]) h.permits

theorem State.PermitFrame.grounds (h : s.PermitFrame t) : t.grounds = s.grounds := by
  unfold State.grounds
  rw [h.phase, h.floor, h.port, h.ask]

theorem State.PermitsPassed.grounds {n : Nat} {out : Permit → PermitWork} (h : s.PermitsPassed t n out) :
    t.grounds = s.grounds := by
  unfold State.grounds
  rw [h.phase, h.floor, h.port, h.ask]

/-- A pass over the permits whose work grants none. -/
theorem State.PermitsPassed.still {n : Nat} {out : Permit → PermitWork} (h : s.PermitsPassed t n out)
    (ho : ∀ p q, (out p).left = some q → q.state = .granted → p.state = .granted) : s.Still t := by
  refine ⟨h.grounds, fun k hk => ?_⟩
  obtain ⟨q, hq, hg⟩ := (t.isGranted_iff k).mp hk
  rw [h.permits] at hq
  split at hq
  · obtain ⟨p, hp, hw⟩ := Option.bind_eq_some_iff.mp hq
    exact (s.isGranted_iff k).mpr ⟨p, hp, ho p q hw hg⟩
  · exact (s.isGranted_iff k).mpr ⟨q, hq, hg⟩

/-! ### Records, notices and permits -/

theorem State.Still.workOn (h : s.Still t) (k : Nat) (f : Option Profile → Work → Work) : s.Still (t.workOn k f) :=
  h.trans (t.recordFrame_workOn k f).still

theorem State.Still.commit (h : s.Still t) (k : Nat) (w : Work) : s.Still (t.commit k w) := by
  rw [State.commit_eq]
  exact h.same rfl rfl

theorem State.Still.recompute (h : s.Still t) : s.Still t.recompute := h.same rfl rfl

theorem State.Still.post (h : s.Still t) (c : Nat) (n : Notice) : s.Still (t.post c n) :=
  h.same (t.permitFrame_post c n).grounds (State.post_permits c n t)

theorem State.Still.retract (h : s.Still t) (c : Nat) (n : Notice) : s.Still (t.retract c n) := by
  unfold State.retract
  split
  · exact h
  · exact h.same rfl rfl

theorem State.Still.setPulse (h : s.Still t) (c pos : Nat) : s.Still (t.setPulse c pos) := by
  unfold State.setPulse
  split
  · exact h
  · exact h.same rfl rfl

/-- A rewritten slot of the Permit Table: what it holds then is Granted only if the slot held a Granted permit. -/
theorem State.Still.setPermit (h : s.Still t) (k : Nat) {q : Option Permit}
    (hq : ∀ p, q = some p → p.state = .granted → t.isGranted k = true) : s.Still (t.setPermit k q) := by
  refine h.trans ⟨rfl, fun j hj => ?_⟩
  obtain ⟨p, hp, hg⟩ := ((t.setPermit k q).isGranted_iff j).mp hj
  rcases tget_tset_cases t.permits k j q with e | ⟨rfl, e⟩
  · exact (t.isGranted_iff j).mpr ⟨p, e.symm.trans hp, hg⟩
  · exact hq p (e.symm.trans hp) hg

theorem State.Still.freePermit (h : s.Still t) (k : Nat) : s.Still (t.freePermit k) :=
  (h.setPermit k fun _ e => (by cases e)).same rfl rfl

theorem State.Still.closePermit (h : s.Still t) (k : Nat) : s.Still (t.closePermit k) := by
  unfold State.closePermit
  split
  · exact h
  · split
    · exact (h.post _ _).freePermit k
    · exact h.freePermit k

theorem State.Still.closeRaising (h : s.Still t) (k : Nat) : s.Still (t.closeRaising k) := (h.closePermit k).same rfl rfl

theorem State.Still.recallPermit (h : s.Still t) {k : Nat} {p : Permit} (hp : t.permit? k = some p) :
    s.Still (t.recallPermit k p) := by
  refine State.Still.same ((h.post p.cabinet .recall).setPermit k (q := some { p with recallAsked := true }) fun q e hg => ?_) rfl rfl
  cases e
  rw [State.isGranted_congr (State.post_permits _ _ t)]
  exact (t.isGranted_iff k).mpr ⟨p, hp, hg⟩

/-! ### The report of a cabinet (R121 to R125, R153) -/

theorem State.recordFrame_intake (s : State) (c : Nat) (old new : Mode) (isNew : Bool) (rep : Report) :
    s.RecordFrame (s.intake c old new isNew rep) := by
  refine State.RecordFrame.foldl (fun v pos => ?_) _ s
  unfold State.intakeAt
  split
  · exact .refl v
  · exact v.recordFrame_workOn _ _

theorem State.recordFrame_releaseTarget (s : State) (it : Item) : s.RecordFrame (s.releaseTarget it) := by
  unfold State.releaseTarget
  split
  · exact s.recordFrame_workOn _ _
  · exact .refl s

theorem State.recordFrame_interruptVisit (s : State) (k v : Nat) : s.RecordFrame (State.interruptVisit k s v) := by
  unfold State.interruptVisit
  split
  · exact .refl s
  · split
    · refine State.RecordFrame.trans (State.RecordFrame.foldl (fun w it => ?_) _ s) rfl
      split
      · exact w.recordFrame_releaseTarget it
      · exact .refl w
    · exact .refl s

theorem State.Still.enterBypass (h : s.Still t) (k : Nat) (p : Permit) : s.Still (t.enterBypass k p) := by
  unfold State.enterBypass
  split
  · exact (h.setPermit k fun _ e hg => by cases e; cases hg).same rfl rfl
  · exact (h.setPermit k fun _ e hg => by cases e; cases hg).same rfl rfl

theorem State.Still.reportOnActive (h : s.Still t) (k : Nat) (p : Permit) (m : Mode) : s.Still (t.reportOnActive k p m) := by
  unfold State.reportOnActive
  split
  · refine State.Still.trans ?_ (State.RecordFrame.foldl (fun w v => w.recordFrame_interruptVisit k v) _ _).still
    exact (h.setPermit k (q := some { p with state := .returning }) fun _ e hg => by cases e; cases hg).same rfl rfl
  · exact h

/-- A report brings no permit to Granted: it moves one into bypass, to Returning or to Closed (R121 to R125). -/
theorem State.Still.reportOnPermit (h : s.Still t) (k : Nat) (p : Permit) (m : Mode) : s.Still (t.reportOnPermit k p m) := by
  unfold State.reportOnPermit
  split
  · unfold State.reportOnGranted
    split
    · exact (h.enterBypass k p).retract _ _
    · exact h
  · exact h.reportOnActive k p m
  · exact h.reportOnActive k p m
  · unfold State.reportOnReturning
    split
    · exact h.closeRaising k
    · dsimp only
      split
      · exact (h.enterBypass k p).post _ _
      · exact h.enterBypass k p
    · exact h

theorem State.Still.judgeBypass (h : s.Still t) (c : Nat) (m : Mode) (named : Bool) : s.Still (t.judgeBypass c m named) := by
  unfold State.judgeBypass
  split
  · exact h
  · split
    · split
      · exact h.same rfl rfl
      · exact h
    · exact h
    · exact h.same rfl rfl

theorem State.Still.permitReport (h : s.Still t) (c : Nat) (m : Mode) : s.Still (t.permitReport c m) := by
  unfold State.permitReport
  split
  · exact h.judgeBypass _ _ _
  · exact (h.reportOnPermit _ _ _).judgeBypass _ _ _

/-! ### Orders and the minute tick -/

theorem recallWork_ungranting {p q : Permit} (h : (recallWork p).left = some q) (hg : q.state = .granted) : p.state = .granted := by
  unfold recallWork at h
  split at h
  · assumption
  · cases h; exact hg
  · cases h; exact hg
  · cases h; exact hg

theorem minuteWork_ungranting {p q : Permit} (h : (minuteWork p).left = some q) (hg : q.state = .granted) : p.state = .granted := by
  unfold minuteWork at h
  split at h
  · assumption
  · split at h
    · cases h; cases hg
    · cases h; exact hg
  · cases h; exact hg
  · cases h; exact hg

theorem State.Still.recallAll (h : s.Still t) : s.Still t.recallAll :=
  (h.trans (t.recallSlots_passed.still fun _ _ => recallWork_ungranting)).recompute

theorem State.Still.pulseIfDue (h : s.Still t) (k : Nat) : s.Still (t.pulseIfDue k) := by
  unfold State.pulseIfDue
  split
  · exact h
  · split
    · exact h.setPulse _ _
    · exact h

theorem State.still_tickString (s : State) (k : Nat) : s.Still (s.tickString k) := by
  cases hr : s.string? k with
  | none => rw [State.tickString_free hr]; exact .refl s
  | some r =>
    rw [State.tickString_record hr]
    have h := (((State.Still.refl s).commit k (tickWork s (s.profile? r.profile) r))).pulseIfDue k
    split
    · exact h.recompute
    · exact h

theorem State.still_tickVisit (s : State) (v : Nat) : s.Still (s.tickVisit v) := by
  unfold State.tickVisit
  split
  · exact .refl s
  · split
    · exact .refl s
    · split <;> exact (State.Still.refl s).same rfl rfl

/-- The minute tick grants nothing and reaches neither the port nor a waiting ask (R3, R111). -/
theorem State.Still.tick (h : s.Still t) : s.Still t.tick := by
  have hages : s.Still t.tickCabinets := h.same rfl rfl
  exact ((hages.trans (State.Still.foldl State.still_tickString _ _)).trans
    ((State.tickPermits_passed _).still fun _ _ => minuteWork_ungranting)).trans (State.Still.foldl State.still_tickVisit _ _)

theorem State.Still.expireGrant (h : s.Still t) (k : Nat) : s.Still (t.expireGrant k) := (h.closeRaising k).recompute

theorem State.Still.makeOverdue (h : s.Still t) (k : Nat) (p : Permit) : s.Still (t.makeOverdue k p) :=
  (h.setPermit k (q := some { p with state := .overdue, remaining := 0 }) fun _ e hg => by cases e; cases hg).same rfl rfl

end

end Sys2Proof.Machine

namespace Sys2Proof.Machine

/-! ## Moves of the port, and what they leave of the invariants -/

/-- Every Granted permit stands in a slot of the table. -/
def State.GrantsFit (s : State) : Prop := ∀ k, s.isGranted k = true → k ≤ Config.permitCount

/-- `s` leads to `t`: where port and ask agree they stay so and the port makes one of the moves `mv`; and no grant outlives the
utility (R131). -/
structure State.Leads (s : State) (mv : PortState → PortState → Prop) (t : State) : Prop where
  port : s.PortAgrees → t.PortAgrees ∧ mv s.port.state t.port.state
  grants : s.GrantsFit → s.PortAgrees → s.GrantsNeedUtility → t.GrantsNeedUtility

/-- The port stays, or a waiting ask ends with a reply (R116, R118). -/
def PortState.staysOrReplies (p q : PortState) : Prop := p = q ∨ (p = .working ∧ q = .replyReady)

/-- `s` leads to `t` by an event that ends a waiting ask at most. -/
abbrev State.Runs (s t : State) : Prop := s.Leads PortState.staysOrReplies t

section
variable {s t u : State} {mv : PortState → PortState → Prop}

theorem State.grounds_eq_iff : t.grounds = s.grounds ↔ t.phase = s.phase ∧ t.floor.utility = s.floor.utility ∧
    t.port.state = s.port.state ∧ t.port.reply.isSome = s.port.reply.isSome ∧ t.ask.isSome = s.ask.isSome := by
  simp only [State.grounds, Prod.mk.injEq]

theorem State.PortAgrees.of_grounds (h : s.PortAgrees) (e : t.grounds = s.grounds) : t.PortAgrees := by
  obtain ⟨-, -, hp, hr, ha⟩ := State.grounds_eq_iff.mp e
  exact ⟨by rw [hp, ha]; exact h.working, by rw [hp, hr]; exact h.replyReady⟩

/-- No ask waits in a port that is not Working. -/
theorem State.PortAgrees.no_ask (h : s.PortAgrees) (hp : s.port.state ≠ .working) : s.ask = none :=
  Option.not_isSome_iff_eq_none.mp fun ha => hp (h.working.mpr ha)

theorem State.PortAgrees.no_reply (h : s.PortAgrees) (hp : s.port.state ≠ .replyReady) : s.port.reply = none :=
  Option.not_isSome_iff_eq_none.mp fun hr => hp (h.replyReady.mpr hr)

theorem State.Still.operating (h : s.Still t) : t.operating = s.operating := by
  obtain ⟨hph, -, hp, -, -⟩ := State.grounds_eq_iff.mp h.grounds
  rw [State.operating, State.operating, hph, hp]

theorem State.GrantsNeedUtility.of_still (hs : s.GrantsNeedUtility) (h : s.Still t) : t.GrantsNeedUtility := by
  obtain ⟨-, hu, -, -, ha⟩ := State.grounds_eq_iff.mp h.grounds
  intro ho hl
  obtain ⟨hn, hg⟩ := hs (h.operating ▸ ho) (hu ▸ hl)
  exact ⟨by simpa [hn] using ha, fun k => Bool.eq_false_iff.mpr fun hk => by simpa [hg k] using h.granted k hk⟩

theorem State.GrantsFit.of_still (hs : s.GrantsFit) (h : s.Still t) : t.GrantsFit := fun k hk => hs k (h.granted k hk)

theorem State.Sized.grantsFit (h : s.Sized) : s.GrantsFit := by
  intro k hk
  obtain ⟨p, hp, -⟩ := (s.isGranted_iff k).mp hk
  exact h.permits ▸ (tget_some _ _ _ hp).2

theorem State.Still.leads (h : s.Still t) (hm : ∀ p, mv p p) : s.Leads mv t := by
  obtain ⟨-, -, hp, -, -⟩ := State.grounds_eq_iff.mp h.grounds
  exact ⟨fun ha => ⟨ha.of_grounds h.grounds, hp ▸ hm _⟩, fun _ _ hg => hg.of_still h⟩

theorem State.Still.trans_leads (h : s.Still t) (g : t.Leads mv u) : s.Leads mv u := by
  obtain ⟨-, -, hp, -, -⟩ := State.grounds_eq_iff.mp h.grounds
  exact ⟨fun ha => hp ▸ g.port (ha.of_grounds h.grounds),
    fun hf ha hg => g.grants (hf.of_still h) (ha.of_grounds h.grounds) (hg.of_still h)⟩

theorem State.Leads.still (g : s.Leads mv t) (h : t.Still u) : s.Leads mv u := by
  obtain ⟨-, -, hp, -, -⟩ := State.grounds_eq_iff.mp h.grounds
  exact ⟨fun ha => ⟨(g.port ha).1.of_grounds h.grounds, hp.symm ▸ (g.port ha).2⟩,
    fun hf ha hg => (g.grants hf ha hg).of_still h⟩

theorem State.Leads.mono {mv' : PortState → PortState → Prop} (g : s.Leads mv t) (h : ∀ p q, mv p q → mv' p q) :
    s.Leads mv' t :=
  ⟨fun ha => ⟨(g.port ha).1, h _ _ (g.port ha).2⟩, g.grants⟩

theorem State.Still.runs (h : s.Still t) : s.Runs t := h.leads fun _ => .inl rfl

/-! ### The end of a waiting ask (R116, R118) -/

/-- A waiting ask is answered: its port becomes ReplyReady, and no more is asked of the grants, since the utility is Present while an
ask waits. -/
theorem State.runs_answered (ha : s.ask.isSome = true) (h : t.grounds = (s.phase, s.floor.utility, .replyReady, true, false)) :
    s.Runs t := by
  simp only [State.grounds, Prod.mk.injEq] at h
  obtain ⟨hph, hu, hp, hr, hn⟩ := h
  refine ⟨fun hs => ⟨⟨by simp [hp, hn], by simp [hp, hr]⟩, .inr ⟨hs.working.mpr ha, hp⟩⟩, fun _ hs hg ho hl => ?_⟩
  have hso : s.operating = true :=
    (State.operating_eq s).mpr ⟨hph ▸ ((State.operating_eq t).mp ho).1, by rw [hs.working.mpr ha]; nofun⟩
  rw [(hg hso (hu ▸ hl)).1] at ha
  cases ha

theorem State.Still.endAsk (h : s.Still t) (res : ResultCode) : s.Runs (t.endAsk res) := by
  refine h.trans_leads ?_
  cases ha : t.ask with
  | none => rw [State.endAsk_none _ _ ha]; exact (State.Still.refl t).runs
  | some a => rw [State.endAsk_some _ _ a ha]; exact State.runs_answered (by rw [ha]; rfl) rfl

theorem State.grantAsk_grounds (s : State) (a : Ask) (k : Nat) (g : Group) :
    (s.grantAsk a k g).grounds = (s.phase, s.floor.utility, .replyReady, true, s.ask.isSome) := by
  have hpost := State.permitFrame_post (s.setPermit k (some (grantedPermit a s.floor.config.grantTimeout g))) a.cabinet .grant
  unfold State.grantAsk State.grounds
  dsimp only [State.reply, State.recompute, State.checkpoint]
  rw [hpost.phase, hpost.floor, hpost.ask]
  rfl

theorem State.judgeAsk_grounds (s : State) (a : Ask) :
    (s.judgeAsk a).grounds = (s.phase, s.floor.utility, .replyReady, true, false) := by
  unfold State.judgeAsk
  dsimp only
  split
  · rfl
  · split
    · rfl
    · split
      · rfl
      · split
        · rfl
        · split
          · rfl
          · exact State.grantAsk_grounds _ _ _ _

theorem State.Still.judgeIfSettled (h : s.Still t) : s.Runs t.judgeIfSettled := by
  refine h.trans_leads ?_
  unfold State.judgeIfSettled
  split
  · exact (State.Still.refl t).runs
  · rename_i a ha
    split
    · exact State.runs_answered (by rw [ha]; rfl) (t.judgeAsk_grounds a)
    · exact (State.Still.refl t).runs

theorem State.Still.settleWait (h : s.Still t) (c : Nat) : s.Runs (t.settleWait c) := by
  unfold State.settleWait
  split
  · exact h.runs
  · rename_i a ha
    refine State.Still.judgeIfSettled (h.same ?_ rfl)
    simp only [State.grounds, ha, Option.isSome_some]

theorem State.Still.releaseWait (h : s.Still t) (c : Nat) (f : Flight) : s.Runs (t.releaseWait c f) := by
  unfold State.releaseWait
  split
  · exact h.settleWait c
  · exact h.runs

theorem State.Still.askReport (h : s.Still t) (c : Nat) (m : Mode) (f : Flight) : s.Runs (t.askReport c m f) := by
  unfold State.askReport
  split
  · exact h.endAsk _
  · exact h.releaseWait c f

/-! ### The acceptance of a utility state (R6, R131) -/

/-- An accepted loss closes every Granted permit and ends the waiting ask. -/
theorem State.runs_acceptLost (s : State) : s.Runs (s.acceptUtility .lost) := by
  obtain ⟨v, hv, hp, -⟩ := s.acceptLost_passed
  have hport : v.port = s.port := hp.port
  have hask : v.ask = s.ask := hp.ask
  have hend := (State.Still.refl v).endAsk .utilityLost
  rw [hv]
  refine ⟨fun hs => hport ▸ hend.port ⟨by rw [hport, hask]; exact hs.working, by rw [hport]; exact hs.replyReady⟩,
    fun hf _ _ _ _ => ?_⟩
  rw [State.endAsk_eq]
  refine ⟨rfl, fun k => ?_⟩
  have hk : v.permit? k = if k ≤ Config.permitCount then (if s.isGranted k = true then none else s.permit? k) else s.permit? k :=
    (hp.permits k).trans (by rw [s.lossTaken.closeWork_left k]; rfl)
  refine Bool.eq_false_iff.mpr fun hg => ?_
  obtain ⟨p, hvp, hpg⟩ := (v.isGranted_iff k).mp hg
  have hsk : s.permit? k = some p ∧ s.isGranted k ≠ true := by
    rw [hk] at hvp
    split at hvp
    · split at hvp
      · cases hvp
      · exact ⟨hvp, ‹_›⟩
    · exact ⟨hvp, fun e => absurd (hf k e) ‹_›⟩
  exact hsk.2 ((s.isGranted_iff k).mpr ⟨p, hsk.1, hpg⟩)

/-- The level of UTILITY SENSE is accepted as Present or Lost. -/
theorem State.Still.acceptLevel (h : s.Still t) (high : Bool) : s.Runs (t.acceptUtility (utilityOfLevel high)) := by
  refine h.trans_leads ?_
  cases high with
  | false => exact t.runs_acceptLost
  | true =>
    rw [State.acceptUtility_other t (show utilityOfLevel true ≠ .lost by decide)]
    exact ⟨fun hs => ⟨⟨hs.working, hs.replyReady⟩, .inl rfl⟩, fun _ _ _ _ hl => absurd rfl hl⟩

theorem State.Still.passTime (h : s.Still t) (ms : Nat) : s.Runs (t.passTime ms) := by
  have hcount : s.Still (t.countTime ms) := h.same rfl rfl
  unfold State.passTime
  split
  · rw [State.judgeFilter_eq]
    split
    · exact hcount.acceptLevel _
    · exact hcount.runs
  · exact h.runs
  · exact h.runs

theorem State.Still.writeConfig (h : s.Still t) (c : FloorConfig) : s.Runs (t.writeConfig c) := by
  have hconfigured : s.Still (({ t with floor := { t.floor with config := c } } : State).checkpoint configImage).recompute :=
    h.same rfl rfl
  unfold State.writeConfig State.filterAfterWrite
  split
  · exact hconfigured.acceptLevel _
  · exact hconfigured.runs

/-! ### Orders and polls -/

theorem State.Still.takeUrgent (h : s.Still t) : s.Runs t.takeUrgent := by
  unfold State.takeUrgent
  split
  · exact h.runs
  · rename_i o _
    have hempty : s.Still { t with port := { t.port with urgent := none } } := h.same rfl rfl
    cases o with
    | hold =>
      have hheld : s.Still (({ t with port := { t.port with urgent := none } } : State).setHold true) := h.same rfl rfl
      exact hheld.endAsk _
    | release => exact State.Still.runs (h.same rfl rfl)
    | recallAll => exact hempty.recallAll.runs

theorem State.Still.formPoll (h : s.Still t) : s.Still t.formPoll := by
  unfold State.formPoll
  split
  · exact h
  · split <;> exact h.same rfl rfl

theorem State.Still.closeWindow (h : s.Still t) : s.Still t.closeWindow := h.same rfl rfl

theorem State.Still.failPoll (h : s.Still t) (c : Nat) (x : Cabinet) : s.Runs (t.failPoll c x) := by
  unfold State.failPoll
  dsimp only
  split
  · refine State.Still.settleWait (State.Still.recompute ?_) c
    exact h.same rfl rfl
  · exact State.Still.runs (h.same rfl rfl)

theorem State.Still.pollFails (h : s.Still t) : s.Runs t.pollFails := by
  unfold State.pollFails
  split
  · exact h.runs
  · split
    · exact h.closeWindow.runs
    · split
      · exact h.closeWindow.failPoll _ _
      · exact h.closeWindow.runs

theorem State.Still.takeBusy (h : s.Still t) (c : Nat) (x : Cabinet) (f : Flight) : s.Runs (t.takeBusy c x f) := by
  refine State.Still.releaseWait ?_ c f
  exact h.same rfl rfl

theorem State.Still.takeReport (h : s.Still t) (c : Nat) (x : Cabinet) (f : Flight) (rep : Report) :
    s.Runs (t.takeReport c x f rep) := by
  unfold State.takeReport
  dsimp only
  refine State.Still.askReport (State.Still.recompute (State.Still.permitReport
    (State.Still.trans ?_ (State.recordFrame_intake _ _ _ _ _ _).still) c _)) c _ f
  split <;> exact h.same rfl rfl

theorem State.Still.takeReply (h : s.Still t) (cs : List RxChar) : s.Runs (t.takeReply cs) := by
  unfold State.takeReply
  split
  · exact h.runs
  · split
    · exact h.closeWindow.runs
    · split
      · split
        · exact h.closeWindow.failPoll _ _
        · exact h.closeWindow.takeBusy _ _ _
        · exact h.closeWindow.takeReport _ _ _ _
      · exact h.closeWindow.runs

end

end Sys2Proof.Machine

namespace Sys2Proof.Machine

/-! ## Requests (R178, R179) -/

/-- The block answers at once, after an event that ends a waiting ask at most. -/
def State.AnswersAtOnce (s : State) (r : State × Answer) : Prop :=
  ∃ t res body, r = (t, .now res body) ∧ s.Runs t

section
variable {s t : State}

theorem State.refuse_atOnce (s : State) (res : ResultCode) : s.AnswersAtOnce (refuse res s) :=
  ⟨s, res, [], rfl, (State.Still.refl s).runs⟩

theorem State.Still.done_atOnce (h : s.Still t) (body : List Byte) : s.AnswersAtOnce (done body t) :=
  ⟨t, .done, body, rfl, h.runs⟩

theorem State.done_same_atOnce (hg : t.grounds = s.grounds) (hp : t.permits = s.permits) (body : List Byte) :
    s.AnswersAtOnce (done body t) := ((State.Still.refl s).same hg hp).done_atOnce body

theorem State.Still.storeItem (h : s.Still t) (v n : Nat) (it : Item) : s.Still (t.storeItem v n it) := by
  unfold State.storeItem
  split
  · exact h
  · exact h.same rfl rfl

theorem State.Still.handResult (h : s.Still t) (it : Item) (value : Nat) : s.Still (t.handResult it value) := by
  unfold State.handResult
  split
  · exact h
  · exact h
  · exact (h.workOn _ _).recompute
  · exact (h.workOn _ _).recompute

theorem State.Still.closeVisit (h : s.Still t) (v : Nat) : s.Still (t.closeVisit v) := by
  have hpermits : s.Still ((t.permitsOfVisit v).foldl State.closeVisitPermit t) :=
    h.trans (State.Still.foldl (f := State.closeVisitPermit) (fun w e => (State.Still.refl w).closePermit e.1) _ _)
  have hstrings := hpermits.trans (State.freeStrings_freed _ (t.retiredOf v)).frame.still
  have hitems := hstrings.trans (State.Still.foldl (fun w n => (w.abandonIn_freed (t.retiredOf v) n).frame.still)
    ((numbers Config.visitCount).filter (fun n => n != v)) _)
  exact hitems.same rfl rfl

theorem State.Still.writeProfile (h : s.Still t) (n : Nat) (p : Profile) : s.Still (t.writeProfile n p) := by
  have hset : s.Still ((t.setProfile n (some p)).checkpoint (profileImage n)) := h.same rfl rfl
  refine (hset.trans (State.Still.foldl (fun w k => ?_) _ _)).recompute
  unfold State.profileWriteOn
  split
  · exact .refl w
  · split
    · exact (State.Still.refl w).workOn _ _
    · exact .refl w

end

section
variable (b : List Byte) (u : State)

theorem floorConfigWrite_atOnce : u.AnswersAtOnce (floorConfigWrite b u) :=
  ⟨_, _, _, rfl, (State.Still.refl u).writeConfig _⟩

theorem clockSet_atOnce : u.AnswersAtOnce (clockSet b u) := by
  refine State.done_same_atOnce ?_ ?_ _ <;> rfl

theorem attentionRead_atOnce : u.AnswersAtOnce (attentionRead b u) := by
  refine State.done_same_atOnce ?_ ?_ _ <;> rfl

theorem cabinetSet_atOnce : u.AnswersAtOnce (cabinetSet b u) := by
  unfold cabinetSet
  dsimp only
  split
  · refine State.Still.done_atOnce ?_ _
    unfold State.setEntryOf
    dsimp only
    split <;> exact (State.Still.refl u).same rfl rfl
  · exact u.refuse_atOnce _

theorem cabinetDrop_atOnce : u.AnswersAtOnce (cabinetDrop b u) := by
  unfold cabinetDrop
  dsimp only
  split
  · exact u.refuse_atOnce _
  · split
    · exact u.refuse_atOnce _
    · split
      · exact u.refuse_atOnce _
      · refine State.done_same_atOnce ?_ ?_ _ <;> rfl

theorem cabinetRead_atOnce : u.AnswersAtOnce (cabinetRead b u) := by
  unfold cabinetRead
  dsimp only
  split
  · exact u.refuse_atOnce _
  · refine State.Still.done_atOnce ?_ _
    split
    · exact .refl u
    · exact (State.Still.refl u).same rfl rfl

theorem profileWrite_atOnce : u.AnswersAtOnce (profileWrite b u) := by
  unfold profileWrite
  dsimp only
  split
  · exact ((State.Still.refl u).writeProfile _ _).done_atOnce _
  · exact u.refuse_atOnce _

theorem profileRead_atOnce : u.AnswersAtOnce (profileRead b u) := by
  unfold profileRead
  dsimp only
  split
  · exact (State.Still.refl u).done_atOnce _
  · exact u.refuse_atOnce _

theorem stringCommission_atOnce : u.AnswersAtOnce (stringCommission b u) := by
  unfold stringCommission
  dsimp only
  split
  · exact u.refuse_atOnce _
  · split
    · split
      · exact u.refuse_atOnce _
      · split
        · exact u.refuse_atOnce _
        · split
          · exact u.refuse_atOnce _
          · exact ((State.Still.refl u).commit _ _).recompute.done_atOnce _
    · exact u.refuse_atOnce _

theorem stringRead_atOnce : u.AnswersAtOnce (stringRead b u) := by
  unfold stringRead
  split
  · exact u.refuse_atOnce _
  · exact (State.Still.refl u).done_atOnce _

theorem stringPulse_atOnce : u.AnswersAtOnce (stringPulse b u) := by
  unfold stringPulse
  split
  · exact u.refuse_atOnce _
  · split
    · exact u.refuse_atOnce _
    · exact ((State.Still.refl u).setPulse _ _).done_atOnce _

theorem stringDrop_atOnce : u.AnswersAtOnce (stringDrop b u) := by
  unfold stringDrop
  dsimp only
  split
  · exact u.refuse_atOnce _
  · split
    · exact u.refuse_atOnce _
    · split
      · exact u.refuse_atOnce _
      · split
        · exact u.refuse_atOnce _
        · refine State.done_same_atOnce ?_ ?_ _ <;> rfl

theorem permitRead_atOnce : u.AnswersAtOnce (permitRead b u) := by
  unfold permitRead
  dsimp only
  split
  · exact u.refuse_atOnce _
  · exact (State.Still.refl u).done_atOnce _

theorem permitRecall_atOnce : u.AnswersAtOnce (permitRecall b u) := by
  unfold permitRecall
  dsimp only
  split
  · exact u.refuse_atOnce _
  · split
    · exact ((State.Still.refl u).recallPermit ‹_›).done_atOnce _
    · exact u.refuse_atOnce _

theorem permitCancel_atOnce : u.AnswersAtOnce (permitCancel b u) := by
  unfold permitCancel
  dsimp only
  split
  · exact u.refuse_atOnce _
  · split
    · exact ((State.Still.refl u).closePermit _).recompute.done_atOnce _
    · exact u.refuse_atOnce _

theorem visitOpen_atOnce : u.AnswersAtOnce (visitOpen b u) := by
  unfold visitOpen
  split
  · exact u.refuse_atOnce _
  · refine State.done_same_atOnce ?_ ?_ _ <;> rfl

theorem visitAdd_atOnce : u.AnswersAtOnce (visitAdd b u) := by
  unfold visitAdd
  dsimp only
  split
  · exact u.refuse_atOnce _
  · split
    · exact u.refuse_atOnce _
    · split
      · exact u.refuse_atOnce _
      · split
        · exact u.refuse_atOnce _
        · split
          · exact u.refuse_atOnce _
          · refine State.done_same_atOnce ?_ ?_ _ <;> rfl

theorem visitStart_atOnce : u.AnswersAtOnce (visitStart b u) := by
  unfold visitStart
  dsimp only
  split
  · exact u.refuse_atOnce _
  · split
    · exact u.refuse_atOnce _
    · refine (State.Still.storeItem ?_ _ _ _).done_atOnce _
      split
      · exact ((State.Still.refl u).workOn _ _).recompute
      · exact .refl u

theorem finishReplace_atOnce (v n profileNo value : Nat) (x : Visit) (it : Item) :
    u.AnswersAtOnce (finishReplace v n profileNo value x it u) := by
  unfold finishReplace
  split
  · exact u.refuse_atOnce _
  · split
    · exact u.refuse_atOnce _
    · split
      · exact u.refuse_atOnce _
      · split
        · exact u.refuse_atOnce _
        · split
          · exact u.refuse_atOnce _
          · exact ((((State.Still.refl u).workOn _ _).commit _ _).storeItem _ _ _).recompute.done_atOnce _

theorem visitFinish_atOnce : u.AnswersAtOnce (visitFinish b u) := by
  unfold visitFinish
  dsimp only
  split
  · exact u.refuse_atOnce _
  · split
    · exact u.refuse_atOnce _
    · split
      · exact finishReplace_atOnce u _ _ _ _ _ _
      · exact (((State.Still.refl u).handResult _ _).storeItem _ _ _).done_atOnce _

theorem visitAbandon_atOnce : u.AnswersAtOnce (visitAbandon b u) := by
  unfold visitAbandon
  dsimp only
  split
  · exact u.refuse_atOnce _
  · split
    · exact ((u.recordFrame_releaseTarget _).still.recompute.storeItem _ _ _).done_atOnce _
    · exact u.refuse_atOnce _

theorem visitClose_atOnce : u.AnswersAtOnce (visitClose b u) := by
  unfold visitClose
  dsimp only
  split
  · exact u.refuse_atOnce _
  · split
    · exact u.refuse_atOnce _
    · exact ((State.Still.refl u).closeVisit _).done_atOnce _

theorem visitRead_atOnce : u.AnswersAtOnce (visitRead b u) := by
  unfold visitRead
  dsimp only
  split
  · exact u.refuse_atOnce _
  · exact (State.Still.refl u).done_atOnce _

end

section
variable {s : State} {i : Instr}

/-! ### The rows of R178's table -/

theorem portMayMove_refl (i : Instr) (p : PortState) : portMayMove i p p := .inl rfl

theorem portMayMove_starting {p : PortState} (hi : entersStarting i = true) : portMayMove i p .starting := .inr (.inl ⟨rfl, hi⟩)

theorem portMayMove_judged : portMayMove .firstUtilityJudgement .starting .idle := .inr (.inr (.inl ⟨rfl, rfl, rfl⟩))

theorem portMayMove_answered (hi : (requestFrame i).isSome = true) : portMayMove i .idle .replyReady :=
  .inr (.inr (.inr (.inl ⟨rfl, rfl, hi⟩)))

theorem portMayMove_asked (f : RequestFrame) : portMayMove (.permitAsk f) .idle .working :=
  .inr (.inr (.inr (.inr (.inl ⟨rfl, rfl, f, rfl⟩))))

theorem portMayMove_askEnded (hi : endsAnAsk i = true) : portMayMove i .working .replyReady :=
  .inr (.inr (.inr (.inr (.inr (.inl ⟨rfl, rfl, hi⟩)))))

theorem portMayMove_fetched (rest : List Byte) : portMayMove (.fetch rest) .replyReady .idle :=
  .inr (.inr (.inr (.inr (.inr (.inr (.inr ⟨rfl, rfl, .inl ⟨rest, rfl⟩⟩))))))

theorem portMayMove_reset (rest : List Byte) (p : PortState) : portMayMove (.portReset rest) p (stateAfterPortReset p) := by
  cases p with
  | starting => exact .inl rfl
  | idle => exact .inl rfl
  | working => exact .inr (.inr (.inr (.inr (.inr (.inr (.inl ⟨rfl, rfl, rest, rfl⟩))))))
  | replyReady => exact .inr (.inr (.inr (.inr (.inr (.inr (.inr ⟨rfl, rfl, .inr ⟨rest, rfl⟩⟩))))))

/-! ### What a command may do -/

theorem State.Still.allowed {t : State} (h : s.Still t) (i : Instr) : s.Leads (portMayMove i) t := h.leads (portMayMove_refl i)

theorem State.Leads.allowed {t : State} (h : s.Runs t) (hi : endsAnAsk i = true) : s.Leads (portMayMove i) t :=
  h.mono fun _ _ hm => hm.elim .inl fun ⟨hp, hq⟩ => hp ▸ hq ▸ portMayMove_askEnded hi

/-- A request taken in Idle and answered at once (R178, R179). -/
theorem State.AnswersAtOnce.leads {r : State × Answer} (h : s.AnswersAtOnce r) (hp : s.port.state = .idle) (code : Byte)
    (hi : (requestFrame i).isSome = true) : s.Leads (portMayMove i) (State.answer code r) := by
  obtain ⟨t, res, body, rfl, ht⟩ := h
  have hidle : s.PortAgrees → t.PortAgrees ∧ t.port.state = .idle := by
    intro hs
    obtain ⟨hta, e | ⟨e, -⟩⟩ := ht.port hs
    · exact ⟨hta, e ▸ hp⟩
    · rw [hp] at e; cases e
  refine ⟨fun hs => ?_, fun hf hs hg => ?_⟩
  · obtain ⟨hta, hti⟩ := hidle hs
    have hask : t.ask = none := hta.no_ask (by rw [hti]; nofun)
    exact ⟨⟨by simp [State.answer, hask], by simp [State.answer]⟩, hp ▸ portMayMove_answered hi⟩
  · intro ho hl
    have hto : t.operating = true :=
      (State.operating_eq t).mpr ⟨((State.operating_eq _).mp ho).1, by rw [(hidle hs).2]; nofun⟩
    exact ht.grants hf hs hg hto hl

/-- PERMIT ASK is refused at once, or its ask waits: then the utility is Present (R113, R114). -/
theorem permitAsk_leads (f : RequestFrame) (hp : s.port.state = .idle) (b : List Byte) :
    s.Leads (portMayMove (.permitAsk f)) (State.answer 0x30 (permitAsk b s)) := by
  have hrefused : ∀ res, s.Leads (portMayMove (.permitAsk f)) (State.answer 0x30 (refuse res s)) :=
    fun res => (s.refuse_atOnce res).leads hp _ rfl
  unfold permitAsk
  dsimp only
  split
  · exact hrefused _
  · split
    · exact hrefused _
    · rename_i x _ hr
      have hu : s.floor.utility = .present := by
        by_contra hu
        simp only [State.askRefusal, hu, ne_eq, not_false_eq_true, if_true] at hr
        split_ifs at hr
      refine ⟨fun hs => ⟨⟨by simp [State.answer, State.beginWait], ?_⟩, ?_⟩, fun _ _ _ _ hl => absurd hu hl⟩
      · have hno := hs.no_reply (by rw [hp]; nofun)
        simp [State.answer, State.beginWait, hno]
      · exact hp ▸ portMayMove_asked f

end

end Sys2Proof.Machine

namespace Sys2Proof.Machine

/-! ## Frames (R176 to R181, R189) -/

section
variable {s : State} {i : Instr}

/-- A frame leads where what its type does leads. -/
theorem State.leads_frameEvent {mv : PortState → PortState → Prop} (hm : ∀ p, mv p p) {n : Nat} {tail : State → List Byte}
    {act : State → State} (ha : ∀ u, State.Leads u mv (act u)) : s.Leads mv (s.frameEvent n tail act) := by
  have hoff : s.Still (s.shiftZeros n) := (State.Still.refl s).same rfl rfl
  unfold State.frameEvent
  split
  · rw [State.openFrame_eq]
    have hopened : s.Still (s.withPort s.openedPort) := (State.Still.refl s).same rfl rfl
    refine (hopened.trans_leads (ha _)).still ?_
    exact (State.Still.refl _).same rfl rfl
  · exact hoff.leads hm
  · exact hoff.leads hm

theorem State.still_clearOverrun (s : State) : s.Still s.clearOverrun := by
  unfold State.clearOverrun
  split
  · exact (State.Still.refl s).same rfl rfl
  · exact .refl s

theorem State.allowed_discardRequest (s : State) (i : Instr) : s.Leads (portMayMove i) s.discardRequest := by
  refine State.Still.allowed ?_ i
  exact (State.Still.refl s).same rfl rfl

/-- A reply in Idle to a frame that no block is handed (R179). -/
theorem State.leads_portReply (hp : s.port.state = .idle) (hi : (requestFrame i).isSome = true) (code : Byte) (res : ResultCode) :
    s.Leads (portMayMove i) (s.clearOverrun.reply code res []) := by
  have hreply : s.clearOverrun.AnswersAtOnce (refuse res s.clearOverrun) := s.clearOverrun.refuse_atOnce res
  exact s.still_clearOverrun.trans_leads (hreply.leads (s.clearOverrun_port.trans hp) code hi)

theorem State.leads_takeRequest (hi : (requestFrame i).isSome = true) {code : Byte} {need : Nat} {f : RequestFrame}
    {handle : List Byte → State → State × Answer}
    (hh : ∀ b u, u.port.state = .idle → State.Leads u (portMayMove i) (State.answer code (handle b u))) :
    s.Leads (portMayMove i) (s.takeRequest code need f handle) := by
  refine State.leads_frameEvent (portMayMove_refl i) fun u => ?_
  unfold State.judgeRequest
  split
  · rename_i hp
    dsimp only
    split
    · exact u.still_clearOverrun.trans_leads (hh _ _ (u.clearOverrun_port.trans hp))
    · exact State.leads_portReply hp hi _ _
  · exact u.allowed_discardRequest i
  · exact u.allowed_discardRequest i
  · exact u.allowed_discardRequest i

theorem State.leads_judgeUnknown (hi : (requestFrame i).isSome = true) : s.Leads (portMayMove i) s.judgeUnknown := by
  unfold State.judgeUnknown
  split
  · exact State.leads_portReply ‹_› hi _ _
  · exact s.allowed_discardRequest i
  · exact s.allowed_discardRequest i
  · exact s.allowed_discardRequest i

/-- A FETCH that shifts out the whole reply brings the port to Idle (R181). -/
theorem State.leads_judgeFetch (rest : List Byte) : s.Leads (portMayMove (.fetch rest)) (s.judgeFetch rest.length) := by
  unfold State.judgeFetch
  split
  · rename_i hp _
    split
    · refine ⟨fun hs => ⟨⟨?_, by simp⟩, ?_⟩, fun _ _ hg ho hl => hg ?_ hl⟩
      · simp [hs.no_ask (by rw [hp]; nofun)]
      · exact hp ▸ portMayMove_fetched rest
      · exact (State.operating_eq s).mpr ⟨((State.operating_eq _).mp ho).1, by rw [hp]; nofun⟩
    · exact (State.Still.refl s).allowed _
  · exact (State.Still.refl s).allowed _

/-- PORT RESET loses the reply and a waiting ask, and brings every port but a Starting one to Idle (R117, R189). -/
theorem State.leads_portReset (rest : List Byte) : s.Leads (portMayMove (.portReset rest)) s.portReset := by
  have hask : s.PortAgrees → s.portReset.ask = none := by
    intro hs
    unfold State.portReset
    dsimp only
    split
    · rfl
    · exact hs.no_ask ‹_›
  refine ⟨fun hs => ⟨⟨?_, ?_⟩, portMayMove_reset rest _⟩, fun _ hs hg ho hl => ⟨hask hs, ?_⟩⟩
  · rw [hask hs]
    show stateAfterPortReset s.port.state = _ ↔ _
    cases s.port.state <;> simp [stateAfterPortReset]
  · show stateAfterPortReset s.port.state = _ ↔ (none : Option Reply).isSome = true
    cases s.port.state <;> simp [stateAfterPortReset]
  · obtain ⟨hr, hp⟩ := (State.operating_eq s.portReset).mp ho
    refine (hg ((State.operating_eq s).mpr ⟨hr, fun e => hp ?_⟩) hl).2
    show stateAfterPortReset s.port.state = _
    rw [e]
    rfl

/-! ## Starts (R169 to R175, R190) -/

/-- A command that puts the port at its start values. -/
theorem State.leads_starting {t : State} (hi : entersStarting i = true) (hp : t.port = Port.starting) (ha : t.ask = none) :
    s.Leads (portMayMove i) t := by
  refine ⟨fun _ => ⟨⟨?_, ?_⟩, by rw [hp]; exact portMayMove_starting hi⟩, fun _ _ _ ho => ?_⟩
  · rw [hp, ha]; decide
  · rw [hp]; decide
  · exact absurd (congrArg Port.state hp) ((State.operating_eq t).mp ho).2

theorem State.leads_start (hi : entersStarting i = true) (cause : StartCause) (u : State) :
    s.Leads (portMayMove i) (u.start cause) := by
  obtain ⟨_, hw⟩ := State.start_passed cause u
  exact State.leads_starting hi (hw.port.trans rfl) (hw.ask.trans rfl)

theorem State.restoredPermit_ungranting {p q : Permit} (h : s.restoredPermit p = some q) (hg : q.state = .granted) :
    p.state = .granted := by
  unfold State.restoredPermit at h
  split at h
  · cases h
  · split at h
    · cases h
    · cases h; exact hg

theorem State.still_dropDuplicates (s : State) : s.Still ((numbers Config.permitCount).foldl (State.dropDuplicate s) s) := by
  refine State.Still.foldl (fun v k => ?_) _ s
  unfold State.dropDuplicate
  split
  · exact .refl v
  · split
    · exact ((State.Still.refl v).freePermit k).same rfl rfl
    · exact .refl v

/-- Step 5 of a start grants nothing, and leaves no grant without the utility (R137). -/
theorem State.still_restorePermits (s : State) : s.Still s.restorePermits ∧
    (s.GrantsFit → s.floor.utility ≠ .present → ∀ k, s.restorePermits.isGranted k = false) := by
  have hd := s.still_dropDuplicates
  unfold State.restorePermits
  generalize (numbers Config.permitCount).foldl (State.dropDuplicate s) s = d at *
  have hp := d.restorePermits_passed
  refine ⟨hd.trans (hp.still fun _ _ => State.restoredPermit_ungranting), fun hf hu k => Bool.eq_false_iff.mpr fun hk => ?_⟩
  obtain ⟨q, hq, hg⟩ := (State.isGranted_iff _ k).mp hk
  rw [hp.permits] at hq
  split at hq
  · obtain ⟨p, -, hr⟩ := Option.bind_eq_some_iff.mp hq
    obtain ⟨-, hdu, -⟩ := State.grounds_eq_iff.mp hd.grounds
    exact hu (hdu ▸ (State.restoredPermit_granted hr hg).1)
  · exact absurd (hf.of_still hd k ((d.isGranted_iff k).mpr ⟨q, hq, hg⟩)) ‹_›

/-- The end of a start up to the port's going to Idle: what the first judgement gives of the utility is all that changes, and
without the utility no permit stands Granted (R172, R173). -/
theorem State.still_nearlyStarted (s : State) : s.judgeFirst.Still s.nearlyStarted ∧
    (s.GrantsFit → s.nearlyStarted.floor.utility ≠ .present → ∀ k, s.nearlyStarted.isGranted k = false) := by
  obtain ⟨hr, hn⟩ := s.judgeFirst.still_restorePermits
  have hrest : s.judgeFirst.restorePermits.Still s.nearlyStarted := by
    have hwork := (State.recordFrame_restoreVisits s.judgeFirst.restorePermits).trans (State.recordFrame_closeStoredEvents _)
    unfold State.nearlyStarted
    generalize s.judgeFirst.restorePermits.restoreVisits.closeStoredEvents = e at *
    exact hwork.still.same rfl rfl
  have hall := hr.trans hrest
  obtain ⟨-, hu, -⟩ := State.grounds_eq_iff.mp hall.grounds
  have hj : s.judgeFirst.isGranted = s.isGranted := State.isGranted_congr (by rw [s.judgeFirst_eq])
  refine ⟨hall, fun hf hl k => Bool.eq_false_iff.mpr fun hk => ?_⟩
  exact absurd (hrest.granted k hk) (Bool.eq_false_iff.mp (hn (fun j hj' => hf j (hj ▸ hj')) (hu ▸ hl) k))

theorem State.still_deliverHeldTick (s : State) : s.Still s.deliverHeldTick := by
  have hunheld : s.Still { s with floor := { s.floor with tickHeld := false } } := (State.Still.refl s).same rfl rfl
  unfold State.deliverHeldTick
  split
  · exact hunheld.tick
  · exact .refl s

/-- The first judgement of a starting part ends its start: the port goes to Idle with no ask, no reply and no grant without the
utility, and the tick and the order that waited come after that (R172 to R175). -/
theorem State.leads_finishStartUp (hp : s.port.state = .starting) :
    s.Leads (portMayMove .firstUtilityJudgement) s.finishStartUp := by
  obtain ⟨hstill, hgranted⟩ := s.still_nearlyStarted
  obtain ⟨hjp, hja⟩ := s.judgeFirst_frame
  have hj : s.judgeFirst.isGranted = s.isGranted := State.isGranted_congr (by rw [s.judgeFirst_eq])
  obtain ⟨-, -, -, hreply, hask⟩ := State.grounds_eq_iff.mp hstill.grounds
  have hfit : s.GrantsFit → s.nearlyStarted.GrantsFit := fun hf k hk => hf k (hj ▸ hstill.granted k hk)
  rw [hjp] at hreply
  rw [hja] at hask
  rw [State.finishStartUp_eq]
  generalize s.nearlyStarted = n at *
  have hruns := n.endStartUp.still_deliverHeldTick.takeUrgent
  have hended : s.PortAgrees → n.endStartUp.PortAgrees ∧ n.ask = none := by
    intro hs
    have hnoAsk : n.ask = none := by simpa [hs.no_ask (by rw [hp]; nofun)] using hask
    have hnoReply : n.port.reply = none := by simpa [hs.no_reply (by rw [hp]; nofun)] using hreply
    exact ⟨⟨by simp [State.endStartUp, hnoAsk], by simp [State.endStartUp, hnoReply]⟩, hnoAsk⟩
  refine ⟨fun hs => ?_, fun hf hs _ => ?_⟩
  · obtain ⟨ha, hm⟩ := hruns.port (hended hs).1
    have hidle : n.endStartUp.deliverHeldTick.takeUrgent.port.state = .idle := hm.elim Eq.symm fun e => by cases e.1
    exact ⟨ha, by rw [hp, hidle]; exact portMayMove_judged⟩
  · exact hruns.grants (hfit hf) (hended hs).1 fun _ hl => ⟨(hended hs).2, hgranted hf hl⟩

end

end Sys2Proof.Machine

namespace Sys2Proof.Machine

/-! ## Every command -/

/-- Every command completes with a move of the port that R178 has for it, and keeps port, ask and grants sound. -/
theorem exec_leads (i : Instr) (s : State) : ∃ t, exec i s = .next t ∧ s.Leads (portMayMove i) t := by
  have req : ∀ {j : Instr} {code : Byte} {need : Nat} {f : RequestFrame} {handle : List Byte → State → State × Answer},
      (requestFrame j).isSome = true → (∀ b u, State.AnswersAtOnce u (handle b u)) →
      s.Leads (portMayMove j) (s.takeRequest code need f handle) :=
    fun hj hh => State.leads_takeRequest hj fun b u hp => (hh b u).leads hp _ hj
  have still : ∀ (j : Instr) {t : State}, t.grounds = s.grounds → t.permits = s.permits → s.Leads (portMayMove j) t :=
    fun j _ hg hp => ((State.Still.refl s).same hg hp).allowed j
  have frame : ∀ (j : Instr) {n : Nat} {tail : State → List Byte} {act : State → State},
      (∀ u, (act u).grounds = u.grounds ∧ (act u).permits = u.permits) → s.Leads (portMayMove j) (s.frameEvent n tail act) :=
    fun j _ _ _ ha => State.leads_frameEvent (portMayMove_refl j) fun u =>
      ((State.Still.refl u).same (ha u).1 (ha u).2).allowed j
  cases i with
  | floorRead f => exact ⟨_, rfl, req rfl fun _ u => (State.Still.refl u).done_atOnce _⟩
  | floorConfigWrite f => exact ⟨_, rfl, req rfl floorConfigWrite_atOnce⟩
  | clockSet f => exact ⟨_, rfl, req rfl clockSet_atOnce⟩
  | attentionRead f => exact ⟨_, rfl, req rfl attentionRead_atOnce⟩
  | cabinetSet f => exact ⟨_, rfl, req rfl cabinetSet_atOnce⟩
  | cabinetDrop f => exact ⟨_, rfl, req rfl cabinetDrop_atOnce⟩
  | cabinetRead f => exact ⟨_, rfl, req rfl cabinetRead_atOnce⟩
  | profileWrite f => exact ⟨_, rfl, req rfl profileWrite_atOnce⟩
  | profileRead f => exact ⟨_, rfl, req rfl profileRead_atOnce⟩
  | stringCommission f => exact ⟨_, rfl, req rfl stringCommission_atOnce⟩
  | stringRead f => exact ⟨_, rfl, req rfl stringRead_atOnce⟩
  | stringPulse f => exact ⟨_, rfl, req rfl stringPulse_atOnce⟩
  | stringDrop f => exact ⟨_, rfl, req rfl stringDrop_atOnce⟩
  | permitAsk f => exact ⟨_, rfl, State.leads_takeRequest rfl fun b u hp => permitAsk_leads f hp b⟩
  | permitRead f => exact ⟨_, rfl, req rfl permitRead_atOnce⟩
  | permitRecall f => exact ⟨_, rfl, req rfl permitRecall_atOnce⟩
  | permitCancel f => exact ⟨_, rfl, req rfl permitCancel_atOnce⟩
  | visitOpen f => exact ⟨_, rfl, req rfl visitOpen_atOnce⟩
  | visitAdd f => exact ⟨_, rfl, req rfl visitAdd_atOnce⟩
  | visitStart f => exact ⟨_, rfl, req rfl visitStart_atOnce⟩
  | visitFinish f => exact ⟨_, rfl, req rfl visitFinish_atOnce⟩
  | visitAbandon f => exact ⟨_, rfl, req rfl visitAbandon_atOnce⟩
  | visitClose f => exact ⟨_, rfl, req rfl visitClose_atOnce⟩
  | visitRead f => exact ⟨_, rfl, req rfl visitRead_atOnce⟩
  | unknownRequest code f =>
    exact ⟨_, rfl, State.leads_frameEvent (portMayMove_refl _) fun _ => State.leads_judgeUnknown rfl⟩
  | statusPeek b => exact ⟨_, rfl, frame _ fun _ => ⟨rfl, rfl⟩⟩
  | disregardedFrame b rest => exact ⟨_, rfl, frame _ fun _ => ⟨rfl, rfl⟩⟩
  | fetch rest => exact ⟨_, rfl, State.leads_frameEvent (portMayMove_refl _) fun _ => State.leads_judgeFetch rest⟩
  | urgent order rest =>
    refine ⟨_, rfl, frame _ fun u => ?_⟩
    unfold State.placeOrder
    split <;> exact ⟨rfl, rfl⟩
  | urgentCancel rest =>
    refine ⟨_, rfl, frame _ fun u => ?_⟩
    unfold State.cancelOrder
    split <;> exact ⟨rfl, rfl⟩
  | portReset rest => exact ⟨_, rfl, State.leads_frameEvent (portMayMove_refl _) fun _ => State.leads_portReset rest⟩
  | pollSlot orderFirst =>
    refine ⟨_, rfl, ?_⟩
    split
    · split
      · exact ((State.Still.refl s).takeUrgent.allowed rfl).still (State.Still.refl _).formPoll
      · exact (State.Still.refl s).formPoll.takeUrgent.allowed rfl
    · exact still _ rfl rfl
  | breakSlot =>
    refine ⟨_, rfl, ?_⟩
    split
    · refine State.Leads.allowed (State.Still.takeUrgent ?_) rfl
      exact (State.Still.refl s).same rfl rfl
    · exact still _ rfl rfl
  | idleSlot =>
    refine ⟨_, rfl, ?_⟩
    split
    · refine State.Leads.allowed (State.Still.takeUrgent ?_) rfl
      exact (State.Still.refl s).same rfl rfl
    · exact still _ rfl rfl
  | noReply => exact ⟨_, rfl, (State.Still.refl s).pollFails.allowed rfl⟩
  | noReplyInTime => exact ⟨_, rfl, (State.Still.refl s).pollFails.allowed rfl⟩
  | replyEnd chars => exact ⟨_, rfl, ((State.Still.refl s).takeReply _).allowed rfl⟩
  | askWaitEnd => exact ⟨_, rfl, (State.Still.refl s).judgeIfSettled.allowed rfl⟩
  | askEarlyEnd =>
    refine ⟨_, rfl, ?_⟩
    split
    · exact still _ rfl rfl
    · split
      · exact still _ rfl rfl
      · exact ((State.Still.refl s).endAsk _).allowed rfl
  | minuteTick =>
    refine ⟨_, rfl, ?_⟩
    split
    · split
      · exact (State.Still.refl s).tick.allowed _
      · exact still _ rfl rfl
    · exact still _ rfl rfl
    · exact still _ rfl rfl
  | calendarStep slot =>
    refine ⟨_, rfl, ?_⟩
    split
    · exact still _ rfl rfl
    · split
      · exact ((State.Still.refl s).workOn _ _).recompute.allowed _
      · exact still _ rfl rfl
  | automaticPulse slot =>
    refine ⟨_, rfl, ?_⟩
    split
    · exact still _ rfl rfl
    · split
      · exact still _ rfl rfl
      · split
        · refine (State.Still.setPulse ?_ _ _).allowed _
          exact (State.Still.refl s).same rfl rfl
        · exact still _ rfl rfl
  | grantTimeout slot =>
    refine ⟨_, rfl, ?_⟩
    split
    · exact still _ rfl rfl
    · split
      · exact ((State.Still.refl s).expireGrant _).allowed _
      · exact still _ rfl rfl
  | permitOverdue slot =>
    refine ⟨_, rfl, ?_⟩
    split
    · exact still _ rfl rfl
    · split
      · exact ((State.Still.refl s).makeOverdue _ _).allowed _
      · exact still _ rfl rfl
  | visitOvertime slot =>
    refine ⟨_, rfl, ?_⟩
    split
    · exact still _ rfl rfl
    · split <;> exact still _ rfl rfl
  | utilitySenseEdge high =>
    refine ⟨_, rfl, ?_⟩
    split <;> exact still _ rfl rfl
  | utilityChange => exact ⟨_, rfl, ((State.Still.refl s).passTime _).allowed rfl⟩
  | storeWriteBegin =>
    refine ⟨_, rfl, ?_⟩
    split <;> exact still _ rfl rfl
  | storeWriteEnd o =>
    refine ⟨_, rfl, ?_⟩
    split
    · unfold State.endRunningWrite
      split
      · exact still _ rfl rfl
      · split <;> exact still _ rfl rfl
    · unfold State.endResetWrite
      split <;> exact still _ rfl rfl
    · exact still _ rfl rfl
  | powerOn =>
    refine ⟨_, rfl, ?_⟩
    split <;> exact State.leads_start rfl _ _
  | powerLoss =>
    refine ⟨_, rfl, ?_⟩
    split
    · exact still _ rfl rfl
    · exact State.leads_starting rfl rfl rfl
    · exact State.leads_starting rfl rfl rfl
  | resetAssert o =>
    refine ⟨_, rfl, ?_⟩
    split
    · exact State.leads_starting rfl rfl rfl
    · exact still _ rfl rfl
    · exact still _ rfl rfl
  | resetLine =>
    refine ⟨_, rfl, ?_⟩
    split
    · exact still _ rfl rfl
    · exact State.leads_start rfl _ _
    · exact State.leads_start rfl _ _
  | firstUtilityJudgement =>
    refine ⟨_, rfl, ?_⟩
    split
    · exact State.leads_finishStartUp ‹_›
    · exact still _ rfl rfl
  | floorClockSecond =>
    refine ⟨_, rfl, ?_⟩
    split <;> exact still _ rfl rfl
  | chipSelectAssertion =>
    refine ⟨_, rfl, ?_⟩
    split <;> exact still _ rfl rfl

/-- A step keeps port, ask and grants sound, whatever command it takes. -/
theorem step_leads {s t : State} (h : step s = .next t) : ∃ mv, s.Leads mv t := by
  unfold step at h
  split at h
  · cases h
    exact ⟨_, (State.Still.refl s).passTime 1⟩
  · rename_i c rest _
    obtain ⟨u, hu, hl⟩ := exec_leads c { s with pending := rest }
    cases hu.symm.trans h
    have hrest : s.Still { s with pending := rest } := (State.Still.refl s).same rfl rfl
    exact ⟨_, hrest.trans_leads hl⟩

end Sys2Proof.Machine

section
open Sys2Proof Sys2Proof.Machine

/-- Settles O8: the port becomes Working as an ask is taken and leaves it as the ask ends, and takes or loses its reply as it enters
or leaves ReplyReady. -/
theorem stepKeepsPortAndAskAgreed : Obligations.StepKeepsPortAndAskAgreed := by
  intro s t hs h
  obtain ⟨_, hl⟩ := step_leads h
  exact (hl.port hs).1

/-- Settles O11: a grant comes from a waiting ask alone, an ask is taken with the utility Present alone, and every acceptance of a
loss, as step 5 of a start, closes what stands Granted. -/
theorem stepKeepsGrantsWithUtility : Obligations.StepKeepsGrantsWithUtility := by
  intro s t hz hs hg h
  obtain ⟨_, hl⟩ := step_leads h
  exact hl.grants hz.grantsFit hs hg

/-- Settles O15: each command's effect on the port, command by command. -/
theorem portMovesOnlyAsTabled : Obligations.PortMovesOnlyAsTabled := by
  intro i s t hs h
  obtain ⟨u, hu, hl⟩ := exec_leads i s
  cases hu.symm.trans h
  exact (hl.port hs).2

end

namespace Sys2Proof.Machine

/-! ## PERMIT ASK (R113, R114) -/

section
variable {s : State} {f : RequestFrame} {x : Cabinet}

theorem exec_permitAsk_absent (ht : s.Takes 4 f) (hx : s.cabinet? (field f.body 0 1) = none) :
    exec (.permitAsk f) s = .next { s with port := s.repliedPort f 0x30 .notFound [] } := by
  refine congrArg Host.Outcome.next (State.takeRequest_refused ht fun q => ?_)
  have hxq : (s.withPort q).cabinet? (field f.body 0 1) = none := hx
  unfold permitAsk
  dsimp only
  rw [hxq]

/-- An ask on a Present cabinet is refused with what the intake checks give (R113). -/
theorem exec_permitAsk_refused (ht : s.Takes 4 f) (hx : s.cabinet? (field f.body 0 1) = some x) {res : ResultCode}
    (hr : s.askRefusal (field f.body 0 1) x (visitOfByte (field f.body 3 1)) = some res) :
    exec (.permitAsk f) s = .next { s with port := s.repliedPort f 0x30 res [] } := by
  refine congrArg Host.Outcome.next (State.takeRequest_refused ht fun q => ?_)
  have hxq : (s.withPort q).cabinet? (field f.body 0 1) = some x := hx
  have hrq : (s.withPort q).askRefusal (field f.body 0 1) x (visitOfByte (field f.body 3 1)) = some res := hr
  unfold permitAsk
  dsimp only
  rw [hxq]
  dsimp only
  rw [hrq]

/-- An ask that passes the intake checks waits (R114). -/
theorem exec_permitAsk_waits (ht : s.Takes 4 f) (hx : s.cabinet? (field f.body 0 1) = some x)
    (hr : s.askRefusal (field f.body 0 1) x (visitOfByte (field f.body 3 1)) = none) :
    exec (.permitAsk f) s = .next { s.beginWait (field f.body 0 1) x (clampNat 10 s.floor.config.maxPermit (field f.body 1 2))
      (visitOfByte (field f.body 3 1)) with port := { s.takenPort f with state := .working } } := by
  refine congrArg Host.Outcome.next (State.takeRequest_waits ht fun q => ?_)
  have hxq : (s.withPort q).cabinet? (field f.body 0 1) = some x := hx
  have hrq : (s.withPort q).askRefusal (field f.body 0 1) x (visitOfByte (field f.body 3 1)) = none := hr
  unfold permitAsk
  dsimp only
  rw [hxq]
  dsimp only
  rw [hrq]
  rfl

/-- The wait set: the cabinets of the group that are Online or Silent (R114). -/
theorem State.waitSetFor_eq (s : State) (g : Nat) : s.waitSetFor g = ((entries s.cabinets).filter (fun e =>
    e.2.group == g && (e.2.link == .online || e.2.link == .silent))).map (fun e => e.1) := by
  unfold State.waitSetFor State.members
  rw [List.filter_filter]
  simp only [Bool.and_comm]

/-- Checks 2 to 4 of R113. -/
theorem State.askRefusal_wrongState {c : Nat} (v : Option Nat)
    (h : (s.permitOf c).isSome = true ∨ x.link ≠ .online ∨ (x.mode ≠ .inverter ∧ x.mode ≠ .staticBypass)) :
    s.askRefusal c x v = some .wrongState := by
  unfold State.askRefusal
  by_cases hp : (s.permitOf c).isSome = true
  · exact if_pos hp
  · rw [if_neg hp, if_pos (h.resolve_left hp)]

/-- Checks 5 to 8 of R113, on a cabinet that an ask may name. -/
theorem State.askRefusal_eligible {c : Nat} (v : Option Nat) (hp : s.permitOf c = none) (hl : x.link = .online)
    (hm : x.mode = .inverter ∨ x.mode = .staticBypass) : s.askRefusal c x v =
      if s.floor.hold = true then some .hold
      else if s.floor.utility ≠ .present then some .utilityLost
      else if (lowestFree s.permits).isNone = true then some .noRoom
      else if s.visitOpenOrNone v = false then some .notFound
      else none := by
  have hin : ¬(x.link ≠ .online ∨ (x.mode ≠ .inverter ∧ x.mode ≠ .staticBypass)) := by
    rintro (h | ⟨h1, h2⟩)
    · exact h hl
    · exact hm.elim h1 h2
  unfold State.askRefusal
  rw [hp, if_neg (by simp), if_neg hin]

end

end Sys2Proof.Machine

section
open Sys2Proof Sys2Proof.Machine

/-- Settles O30: with every check passed the ask begins its wait. -/
theorem permitAskBeginsItsWait : Obligations.PermitAskBeginsItsWait := by
  rintro f s c x v ht rfl rfl hx hp hl hm hh hu hfree hv
  have hopen : s.visitOpenOrNone (visitOfByte (field f.body 3 1)) = true := by
    unfold visitOfByte State.visitOpenOrNone
    split
    · rfl
    · exact hv _ ‹_›
  have hpass : s.askRefusal (field f.body 0 1) x (visitOfByte (field f.body 3 1)) = none := by
    rw [State.askRefusal_eligible _ hp hl hm, if_neg (by simp [hh]), if_neg (by simp [hu]),
      if_neg (by simpa using Option.isSome_iff_ne_none.mp hfree), if_neg (by simp [hopen])]
  rw [exec_permitAsk_waits ht hx hpass, State.beginWait, State.waitSetFor_eq]
  rfl

/-- Settles O31: the checks of R113 one after another. -/
theorem permitAskRefusedInOrder : Obligations.PermitAskRefusedInOrder := by
  rintro f s c ht rfl
  refine ⟨exec_permitAsk_absent ht, fun x hx h => exec_permitAsk_refused ht hx (State.askRefusal_wrongState _ h),
    fun x hx hp hl hm => ?_⟩
  have hchecks := s.askRefusal_eligible (visitOfByte (field f.body 3 1)) hp hl hm
  refine ⟨fun hh => ?_, fun hh hu => ?_, fun hh hu hfull => ?_, fun hh hu hfree hn hv => ?_⟩
  · exact exec_permitAsk_refused ht hx (hchecks.trans (if_pos hh))
  · rw [if_neg (by simp [hh]), if_pos hu] at hchecks
    exact exec_permitAsk_refused ht hx hchecks
  · rw [if_neg (by simp [hh]), if_neg (by simp [hu]), hfull] at hchecks
    exact exec_permitAsk_refused ht hx hchecks
  · have hclosed : s.visitOpenOrNone (visitOfByte (field f.body 3 1)) = false := by
      rw [visitOfByte, if_neg hn]
      simp [State.visitOpenOrNone, hv]
    rw [if_neg (by simp [hh]), if_neg (by simp [hu]), if_neg (by simpa using Option.isSome_iff_ne_none.mp hfree),
      if_pos hclosed] at hchecks
    exact exec_permitAsk_refused ht hx hchecks

end

namespace Sys2Proof.Machine

/-! ## VISIT OPEN and VISIT ADD (R142 to R144) -/

section
variable {s : State}

theorem State.duplicateItem_iff (s : State) (k : ItemKind) (n : Nat) : s.duplicateItem k n = true ↔
    ∃ w y it, s.visit? w = some y ∧ it ∈ y.items ∧ it.kind = k ∧ it.target = n ∧ it.state ≠ .done ∧ it.state ≠ .abandoned := by
  simp only [State.duplicateItem, List.any_eq_true, Prod.exists, Bool.and_eq_true, beq_iff_eq, mem_entries, Item.live_iff]
  constructor
  · rintro ⟨w, y, hy, it, hit, ⟨⟨hd, ha⟩, hk⟩, hn⟩
    exact ⟨w, y, it, hy, hit, hk, hn, hd, ha⟩
  · rintro ⟨w, y, it, hy, hit, hk, hn, hd, ha⟩
    exact ⟨w, y, hy, it, hit, ⟨⟨hd, ha⟩, hk⟩, hn⟩

/-- A target that stands, attached where it is a record, passes checks 3 and 4 of R143. -/
theorem State.targetRefusal_none {k : ItemKind} {n : Nat}
    (h : if k = .inspectCabinet then (s.cabinet? n).isSome = true else ∃ r c, s.string? n = some r ∧ r.cabinet = some c) :
    s.targetRefusal k n = none := by
  unfold State.targetRefusal
  by_cases hk : k = .inspectCabinet
  · rw [if_pos hk] at h ⊢
    exact if_pos h
  · rw [if_neg hk] at h ⊢
    obtain ⟨r, c, hr, hc⟩ := h
    simp only [hr, StringRecord.attached, hc, Option.isSome_some, if_true]

theorem visitOpen_full (b : List Byte) (h : lowestFree s.visits = none) : visitOpen b s = refuse .noRoom s := by
  unfold visitOpen
  rw [h]

theorem visitOpen_free {v : Nat} (b : List Byte) (h : lowestFree s.visits = some v) : visitOpen b s =
    done (s.visitBody v (newVisit (field b 0 4) s.floor.config.maxVisit s.floor.clock))
      ((s.setVisit v (some (newVisit (field b 0 4) s.floor.config.maxVisit s.floor.clock))).checkpoint (visitImage v)) := by
  unfold visitOpen
  rw [h]
  rfl

/-- VISIT ADD past the checks of visit, kind and target: checks 5 and 6 of R143, then the new item of R144. -/
theorem visitAdd_targeted {b : List Byte} {k : ItemKind} {x : Visit} (hx : s.visit? (field b 0 1) = some x)
    (hk : itemKindOfCode (field b 1 1) = some k) (ht : s.targetRefusal k (field b 2 1) = none) : visitAdd b s =
      if 12 ≤ x.items.length then refuse .noRoom s
      else if s.duplicateItem k (field b 2 1) = true then refuse .duplicate s
      else done (be1 (x.items.length + 1) ++ itemBody (newItem k (field b 2 1)))
        ((s.setVisit (field b 0 1) (some { x with items := x.items ++ [newItem k (field b 2 1)] })).checkpoint
          (visitImage (field b 0 1))) := by
  simp only [visitAdd, hx, hk, ht]
  rfl

end

end Sys2Proof.Machine

section
open Sys2Proof Sys2Proof.Machine

/-- Settles O33: VISIT OPEN turns on the lowest free slot, VISIT ADD on the room of the visit and on a live item that agrees with
the new one. -/
theorem visitOpenAndAdd : Obligations.VisitOpenAndAdd := by
  refine ⟨fun f s ht => ⟨fun hfull => ?_, ?_⟩, ?_⟩
  · exact congrArg Host.Outcome.next (State.takeRequest_refused ht fun p => visitOpen_full (s := s.withPort p) _ hfull)
  · rintro v _ hfree rfl
    exact congrArg Host.Outcome.next (State.takeRequest_now
      (t := (s.setVisit v (some (newVisit (field f.body 0 4) s.floor.config.maxVisit s.floor.clock))).checkpoint (visitImage v))
      ht fun p => visitOpen_free (s := s.withPort p) _ hfree)
  · rintro f s _ _ k x ht rfl hx hk rfl htarget
    have hadd := fun p => visitAdd_targeted (s := s.withPort p) hx hk (State.targetRefusal_none (s := s.withPort p) htarget)
    have hdup := fun p => (s.withPort p).duplicateItem_iff k (field f.body 2 1)
    refine ⟨fun hfull => ?_, fun hroom hlive => ?_, fun hroom hspent => ?_⟩
    · exact congrArg Host.Outcome.next (State.takeRequest_refused ht fun p => (hadd p).trans (if_pos hfull))
    · refine congrArg Host.Outcome.next (State.takeRequest_refused ht fun p => (hadd p).trans ?_)
      rw [if_neg (Nat.not_le.mpr hroom), if_pos ((hdup p).mpr hlive)]
    · refine congrArg Host.Outcome.next (State.takeRequest_now
        (t := (s.setVisit (field f.body 0 1) (some { x with items := x.items ++ [newItem k (field f.body 2 1)] })).checkpoint
          (visitImage (field f.body 0 1))) ht fun p => (hadd p).trans ?_)
      rw [if_neg (Nat.not_le.mpr hroom), if_neg]
      · rfl
      intro hd
      obtain ⟨w, y, it, hy, hit, hik, hin, hnd, hna⟩ := (hdup p).mp hd
      exact (hspent w y it hy hit hik hin).elim hnd hna

end

namespace Sys2Proof.Machine

/-! ## What a command can do to the record store (R161 to R170) -/

/-- One change of the record store: an image is queued, the oldest entry's write begins, the write in flight ends, the queue is
lost, or a start forms the store anew from its images. -/
inductive Store.Change : Store → Store → Prop where
  | queued (σ : Store) (id : ImageId) : Store.Change σ { σ with queue := enqueue id σ.queue }
  | begun {σ : Store} {id : ImageId} {rest : List ImageId} (h : σ.queue = id :: rest) (c : Content) :
      Store.Change σ { σ with
        queue := rest, writer := some { id := id, number := σ.nextNumber, content := c }, nextNumber := σ.nextNumber + 1 }
  | ended {σ : Store} {w : ImageWrite} (h : σ.writer = some w) (good : Bool) :
      Store.Change σ { σ with images := putImage σ.images w.id.number good w.number w.content, writer := none }
  | lost (σ : Store) (o : WriteOutcome) : Store.Change σ { σ with queue := [], completion := o }
  | started (σ : Store) : Store.Change σ
      { images := σ.images, queue := badImages σ.images, writer := none, nextNumber := resumedCount σ.images, completion := .matched }

/-- The store of `t` comes from the store of `s` by a chain of changes. -/
def State.StoreRun (s t : State) : Prop := Relation.ReflTransGen Store.Change s.store t.store

section
variable {s t u : State}

theorem State.StoreRun.refl (s : State) : s.StoreRun s := Relation.ReflTransGen.refl

theorem State.StoreRun.trans (h : s.StoreRun t) (g : t.StoreRun u) : s.StoreRun u := Relation.ReflTransGen.trans h g

theorem State.StoreRun.change (h : s.StoreRun t) (c : Store.Change t.store u.store) : s.StoreRun u := Relation.ReflTransGen.tail h c

/-- What does not touch the store. -/
theorem State.StoreRun.same (h : s.StoreRun t) (e : u.store = t.store) : s.StoreRun u := by
  unfold State.StoreRun
  rw [e]
  exact h

/-- What queues one image and leaves the rest of the store. -/
theorem State.StoreRun.saved (h : s.StoreRun t) (id : ImageId) (e : u.store = (t.checkpoint id).store) : s.StoreRun u :=
  (h.change (u := t.checkpoint id) (.queued t.store id)).same e

theorem State.StoreRun.foldl {α : Type} {f : State → α → State} (hf : ∀ v a, State.StoreRun v (f v a)) (l : List α) (s : State) :
    s.StoreRun (l.foldl f s) := by
  induction l generalizing s with
  | nil => exact .refl s
  | cons a l ih => exact (hf s a).trans (ih _)

/-- A pass that goes on from a chain. -/
theorem State.StoreRun.pass (h : s.StoreRun t) {α : Type} {f : State → α → State} (hf : ∀ v a, State.StoreRun v (f v a))
    (l : List α) : s.StoreRun (l.foldl f t) := h.trans (.foldl hf l t)

/-! ### Records, notices and permits -/

theorem State.StoreRun.checkpoint (h : s.StoreRun t) (id : ImageId) : s.StoreRun (t.checkpoint id) := h.saved id rfl

theorem State.StoreRun.recompute (h : s.StoreRun t) : s.StoreRun t.recompute := h.same rfl

theorem State.StoreRun.commit (h : s.StoreRun t) (k : Nat) (w : Work) : s.StoreRun (t.commit k w) := by
  have hset : s.StoreRun (if w.changed then (t.setString k (some w.r)).attend (raiseStringChanged k)
      else t.setString k (some w.r)) := by
    split <;> exact h.same rfl
  unfold State.commit
  dsimp only
  split
  · exact hset.checkpoint _
  · exact hset

theorem State.StoreRun.workOn (h : s.StoreRun t) (k : Nat) (f : Option Profile → Work → Work) : s.StoreRun (t.workOn k f) := by
  unfold State.workOn
  split
  · exact h
  · exact h.commit _ _

theorem State.StoreRun.post (h : s.StoreRun t) (c : Nat) (n : Notice) : s.StoreRun (t.post c n) := by
  unfold State.post
  split
  · exact h
  · exact h.same rfl

theorem State.StoreRun.retract (h : s.StoreRun t) (c : Nat) (n : Notice) : s.StoreRun (t.retract c n) := by
  unfold State.retract
  split
  · exact h
  · exact h.same rfl

theorem State.StoreRun.setPulse (h : s.StoreRun t) (c pos : Nat) : s.StoreRun (t.setPulse c pos) := by
  unfold State.setPulse
  split
  · exact h
  · exact h.same rfl

theorem State.StoreRun.freePermit (h : s.StoreRun t) (k : Nat) : s.StoreRun (t.freePermit k) := h.saved (permitImage k) rfl

theorem State.StoreRun.closePermit (h : s.StoreRun t) (k : Nat) : s.StoreRun (t.closePermit k) := by
  unfold State.closePermit
  split
  · exact h
  · split
    · exact (h.post _ _).freePermit k
    · exact h.freePermit k

theorem State.StoreRun.closeRaising (h : s.StoreRun t) (k : Nat) : s.StoreRun (t.closeRaising k) := (h.closePermit k).same rfl

theorem State.StoreRun.expireGrant (h : s.StoreRun t) (k : Nat) : s.StoreRun (t.expireGrant k) := (h.closeRaising k).recompute

theorem State.StoreRun.recallPermit (h : s.StoreRun t) (k : Nat) (p : Permit) : s.StoreRun (t.recallPermit k p) :=
  (h.post p.cabinet .recall).saved (permitImage k) rfl

theorem State.StoreRun.makeOverdue (h : s.StoreRun t) (k : Nat) (p : Permit) : s.StoreRun (t.makeOverdue k p) :=
  h.saved (permitImage k) rfl

theorem State.StoreRun.makeOvertime (h : s.StoreRun t) (v : Nat) (x : Visit) : s.StoreRun (t.makeOvertime v x) :=
  h.saved (visitImage v) rfl

theorem State.StoreRun.storeItem (h : s.StoreRun t) (v n : Nat) (it : Item) : s.StoreRun (t.storeItem v n it) := by
  unfold State.storeItem
  split
  · exact h
  · exact h.saved (visitImage v) rfl

theorem State.StoreRun.releaseTarget (h : s.StoreRun t) (it : Item) : s.StoreRun (t.releaseTarget it) := by
  unfold State.releaseTarget
  split
  · exact h.workOn _ _
  · exact h

/-! ### The ask, the utility and the urgent orders (R6, R116, R118, R131, R184) -/

theorem State.StoreRun.endAsk (h : s.StoreRun t) (res : ResultCode) : s.StoreRun (t.endAsk res) := by
  unfold State.endAsk
  split
  · exact h
  · exact h.same rfl

theorem State.StoreRun.grantAsk (h : s.StoreRun t) (a : Ask) (k : Nat) (g : Group) : s.StoreRun (t.grantAsk a k g) := by
  have hset : s.StoreRun (t.setPermit k (some (grantedPermit a t.floor.config.grantTimeout g))) := h.same rfl
  exact (hset.post a.cabinet .grant).saved (permitImage k) rfl

theorem State.StoreRun.judgeAsk (h : s.StoreRun t) (a : Ask) : s.StoreRun (t.judgeAsk a) := by
  have hended : s.StoreRun { t with ask := none } := h.same rfl
  unfold State.judgeAsk
  dsimp only
  split
  · exact hended.same rfl
  · split
    · exact hended.same rfl
    · split
      · exact hended.same rfl
      · split
        · exact hended.same rfl
        · split
          · exact hended.same rfl
          · exact hended.grantAsk _ _ _

theorem State.StoreRun.judgeIfSettled (h : s.StoreRun t) : s.StoreRun t.judgeIfSettled := by
  unfold State.judgeIfSettled
  split
  · exact h
  · split
    · exact h.judgeAsk _
    · exact h

theorem State.StoreRun.settleWait (h : s.StoreRun t) (c : Nat) : s.StoreRun (t.settleWait c) := by
  unfold State.settleWait
  split
  · exact h
  · refine State.StoreRun.judgeIfSettled ?_
    exact h.same rfl

theorem State.StoreRun.closeAllGranted (h : s.StoreRun t) : s.StoreRun t.closeAllGranted := by
  refine h.pass (fun v k => ?_) _
  unfold State.closeIfGranted
  split
  · exact (State.StoreRun.refl v).closeRaising k
  · exact .refl v

theorem State.StoreRun.acceptUtility (h : s.StoreRun t) (w : UtilityState) : s.StoreRun (t.acceptUtility w) := by
  have hraised : s.StoreRun (({ t with floor := { t.floor with utility := w } } : State).attend (raiseUtilityChange w)) := h.same rfl
  unfold State.acceptUtility
  dsimp only
  split
  · exact hraised.closeAllGranted.recompute.endAsk _
  · exact hraised

theorem State.StoreRun.passTime (h : s.StoreRun t) (ms : Nat) : s.StoreRun (t.passTime ms) := by
  have hcount : s.StoreRun (t.countTime ms) := h.same rfl
  unfold State.passTime
  split
  · rw [State.judgeFilter_eq]
    split
    · exact hcount.acceptUtility _
    · exact hcount
  · exact h
  · exact h

theorem State.StoreRun.writeConfig (h : s.StoreRun t) (c : FloorConfig) : s.StoreRun (t.writeConfig c) := by
  have hconfigured : s.StoreRun (({ t with floor := { t.floor with config := c } } : State).checkpoint configImage).recompute :=
    h.saved configImage rfl
  unfold State.writeConfig State.filterAfterWrite
  split
  · exact hconfigured.acceptUtility _
  · exact hconfigured

theorem State.StoreRun.recallAll (h : s.StoreRun t) : s.StoreRun t.recallAll := by
  refine State.StoreRun.recompute (h.pass (fun v k => ?_) _)
  unfold State.recallSlot
  split
  · exact .refl v
  · split
    · exact (State.StoreRun.refl v).closeRaising k
    · exact (State.StoreRun.refl v).recallPermit k _
    · exact (State.StoreRun.refl v).recallPermit k _
    · exact .refl v

theorem State.StoreRun.takeUrgent (h : s.StoreRun t) : s.StoreRun t.takeUrgent := by
  unfold State.takeUrgent
  split
  · exact h
  · rename_i o _
    have hempty : s.StoreRun { t with port := { t.port with urgent := none } } := h.same rfl
    cases o with
    | hold =>
      have hheld : s.StoreRun (({ t with port := { t.port with urgent := none } } : State).setHold true) := h.same rfl
      exact hheld.endAsk _
    | release => exact h.same rfl
    | recallAll => exact hempty.recallAll

/-! ### The cabinet link and its reports (R28 to R36, R121 to R125, R153) -/

theorem State.StoreRun.formPoll (h : s.StoreRun t) : s.StoreRun t.formPoll := by
  unfold State.formPoll
  split
  · exact h
  · split <;> exact h.same rfl

theorem State.StoreRun.closeWindow (h : s.StoreRun t) : s.StoreRun t.closeWindow := h.same rfl

theorem State.StoreRun.failPoll (h : s.StoreRun t) (c : Nat) (x : Cabinet) : s.StoreRun (t.failPoll c x) := by
  unfold State.failPoll
  dsimp only
  split
  · refine State.StoreRun.settleWait (State.StoreRun.recompute ?_) c
    exact h.same rfl
  · exact h.same rfl

theorem State.StoreRun.pollFails (h : s.StoreRun t) : s.StoreRun t.pollFails := by
  unfold State.pollFails
  split
  · exact h
  · split
    · exact h.closeWindow
    · split
      · exact h.closeWindow.failPoll _ _
      · exact h.closeWindow

theorem State.StoreRun.releaseWait (h : s.StoreRun t) (c : Nat) (f : Flight) : s.StoreRun (t.releaseWait c f) := by
  unfold State.releaseWait
  split
  · exact h.settleWait c
  · exact h

theorem State.StoreRun.askReport (h : s.StoreRun t) (c : Nat) (m : Mode) (f : Flight) : s.StoreRun (t.askReport c m f) := by
  unfold State.askReport
  split
  · exact h.endAsk _
  · exact h.releaseWait c f

theorem State.StoreRun.intake (h : s.StoreRun t) (c : Nat) (old new : Mode) (isNew : Bool) (rep : Report) :
    s.StoreRun (t.intake c old new isNew rep) := by
  refine h.pass (fun v pos => ?_) _
  unfold State.intakeAt
  split
  · exact .refl v
  · exact (State.StoreRun.refl v).workOn _ _

theorem State.StoreRun.interruptHolders (h : s.StoreRun t) (k : Nat) : s.StoreRun (t.interruptHolders k) := by
  refine h.pass (fun v n => ?_) _
  unfold State.interruptVisit
  split
  · exact .refl v
  · rename_i x _
    split
    · have hreleased : v.StoreRun (v.releaseTargets k x.items) := by
        refine State.StoreRun.foldl (fun w it => ?_) _ v
        split
        · exact (State.StoreRun.refl w).releaseTarget it
        · exact .refl w
      exact hreleased.saved (visitImage n) rfl
    · exact .refl v

theorem State.StoreRun.enterBypass (h : s.StoreRun t) (k : Nat) (p : Permit) : s.StoreRun (t.enterBypass k p) := by
  unfold State.enterBypass
  split <;> exact h.saved (permitImage k) rfl

theorem State.StoreRun.reportOnActive (h : s.StoreRun t) (k : Nat) (p : Permit) (m : Mode) :
    s.StoreRun (t.reportOnActive k p m) := by
  unfold State.reportOnActive
  split
  · refine State.StoreRun.interruptHolders ?_ k
    exact h.saved (permitImage k) rfl
  · exact h

theorem State.StoreRun.reportOnPermit (h : s.StoreRun t) (k : Nat) (p : Permit) (m : Mode) :
    s.StoreRun (t.reportOnPermit k p m) := by
  unfold State.reportOnPermit
  split
  · unfold State.reportOnGranted
    split
    · exact (h.enterBypass k p).retract _ _
    · exact h
  · exact h.reportOnActive k p m
  · exact h.reportOnActive k p m
  · unfold State.reportOnReturning
    split
    · exact h.closeRaising k
    · dsimp only
      split
      · exact (h.enterBypass k p).post _ _
      · exact h.enterBypass k p
    · exact h

theorem State.StoreRun.judgeBypass (h : s.StoreRun t) (c : Nat) (m : Mode) (named : Bool) :
    s.StoreRun (t.judgeBypass c m named) := by
  unfold State.judgeBypass
  split
  · exact h
  · split
    · split
      · exact h.same rfl
      · exact h
    · exact h
    · exact h.same rfl

theorem State.StoreRun.permitReport (h : s.StoreRun t) (c : Nat) (m : Mode) : s.StoreRun (t.permitReport c m) := by
  unfold State.permitReport
  split
  · exact h.judgeBypass _ _ _
  · exact (h.reportOnPermit _ _ _).judgeBypass _ _ _

theorem State.StoreRun.takeReport (h : s.StoreRun t) (c : Nat) (x : Cabinet) (f : Flight) (rep : Report) :
    s.StoreRun (t.takeReport c x f rep) := by
  unfold State.takeReport
  dsimp only
  refine ((State.StoreRun.intake ?_ _ _ _ _ _).permitReport c _).recompute.askReport c _ f
  split <;> exact h.same rfl

theorem State.StoreRun.takeReply (h : s.StoreRun t) (cs : List RxChar) : s.StoreRun (t.takeReply cs) := by
  unfold State.takeReply
  split
  · exact h
  · split
    · exact h.closeWindow
    · split
      · split
        · exact h.closeWindow.failPoll _ _
        · refine State.StoreRun.releaseWait ?_ _ _
          exact h.same rfl
        · exact h.closeWindow.takeReport _ _ _ _
      · exact h.closeWindow

/-! ### The minute tick (R3) -/

theorem State.StoreRun.tickString (h : s.StoreRun t) (k : Nat) : s.StoreRun (t.tickString k) := by
  cases hr : t.string? k with
  | none => rw [State.tickString_free hr]; exact h
  | some r =>
    rw [State.tickString_record hr]
    have hpulsed : s.StoreRun ((t.commit k (tickWork t (t.profile? r.profile) r)).pulseIfDue k) := by
      have hcommitted := h.commit k (tickWork t (t.profile? r.profile) r)
      unfold State.pulseIfDue
      split
      · exact hcommitted
      · split
        · exact hcommitted.setPulse _ _
        · exact hcommitted
    split
    · exact hpulsed.recompute
    · exact hpulsed

theorem State.StoreRun.tickPermit (h : s.StoreRun t) (k : Nat) : s.StoreRun (t.tickPermit k) := by
  unfold State.tickPermit
  split
  · exact h
  · split
    · split
      · exact h.expireGrant k
      · exact h.same rfl
    · split
      · exact h.makeOverdue k _
      · exact h.same rfl
    · exact h
    · exact h.same rfl

theorem State.StoreRun.tickVisit (h : s.StoreRun t) (v : Nat) : s.StoreRun (t.tickVisit v) := by
  unfold State.tickVisit
  split
  · exact h
  · split
    · exact h
    · split
      · exact h.makeOvertime v _
      · exact h.same rfl

theorem State.StoreRun.tick (h : s.StoreRun t) : s.StoreRun t.tick := by
  have hages : s.StoreRun t.tickCabinets := h.same rfl
  exact ((hages.pass (fun v k => (State.StoreRun.refl v).tickString k) _).pass
    (fun v k => (State.StoreRun.refl v).tickPermit k) _).pass (fun v k => (State.StoreRun.refl v).tickVisit k) _

end

end Sys2Proof.Machine

namespace Sys2Proof.Machine

/-! ## Requests and the store (R163) -/

section
variable {s t : State}

theorem State.StoreRun.handResult (h : s.StoreRun t) (it : Item) (value : Nat) : s.StoreRun (t.handResult it value) := by
  unfold State.handResult
  split
  · exact h
  · exact h
  · exact (h.workOn _ _).recompute
  · exact (h.workOn _ _).recompute

theorem State.StoreRun.writeProfile (h : s.StoreRun t) (n : Nat) (p : Profile) : s.StoreRun (t.writeProfile n p) := by
  have hset : s.StoreRun ((t.setProfile n (some p)).checkpoint (profileImage n)) := h.saved (profileImage n) rfl
  refine (hset.pass (fun v k => ?_) _).recompute
  unfold State.profileWriteOn
  split
  · exact .refl v
  · split
    · exact (State.StoreRun.refl v).workOn _ _
    · exact .refl v

/-- A close queues the images of the permits, of the freed records, of the visits that lose items, and of the visit (R157). -/
theorem State.StoreRun.closeVisit (h : s.StoreRun t) (v : Nat) : s.StoreRun (t.closeVisit v) := by
  have hpermits := h.pass (f := State.closeVisitPermit) (fun w e => (State.StoreRun.refl w).closePermit e.1) (t.permitsOfVisit v)
  have hstrings := hpermits.pass (f := fun w k => w.freeString k)
    (fun w k => (State.StoreRun.refl w).saved (stringImage k) rfl) (t.retiredOf v)
  have hitems := hstrings.pass (f := State.abandonIn (t.retiredOf v)) (fun w n => ?_)
    ((numbers Config.visitCount).filter (fun n => n != v))
  · exact hitems.saved (visitImage v) rfl
  · unfold State.abandonIn
    split
    · exact .refl w
    · split
      · exact .refl w
      · exact (State.StoreRun.refl w).saved (visitImage n) rfl

end

section
variable (b : List Byte) (u : State)

theorem cabinetSet_storeRun : u.StoreRun (cabinetSet b u).1 := by
  unfold cabinetSet
  dsimp only
  split
  · show u.StoreRun (u.setEntryOf _ _ _)
    unfold State.setEntryOf
    dsimp only
    split
    · exact (State.StoreRun.refl u).saved (cabinetImage _) rfl
    · exact (State.StoreRun.refl u).same rfl
  · exact .refl u

theorem cabinetDrop_storeRun : u.StoreRun (cabinetDrop b u).1 := by
  unfold cabinetDrop
  dsimp only
  split
  · exact .refl u
  · split
    · exact .refl u
    · split
      · exact .refl u
      · exact (State.StoreRun.refl u).saved (cabinetImage _) rfl

theorem cabinetRead_storeRun : u.StoreRun (cabinetRead b u).1 := by
  unfold cabinetRead
  dsimp only
  split
  · exact .refl u
  · show u.StoreRun (if _ then u else _)
    split
    · exact .refl u
    · exact (State.StoreRun.refl u).same rfl

theorem profileWrite_storeRun : u.StoreRun (profileWrite b u).1 := by
  unfold profileWrite
  dsimp only
  split
  · exact (State.StoreRun.refl u).writeProfile _ _
  · exact .refl u

theorem profileRead_storeRun : u.StoreRun (profileRead b u).1 := by
  unfold profileRead
  dsimp only
  split <;> exact .refl u

theorem stringCommission_storeRun : u.StoreRun (stringCommission b u).1 := by
  unfold stringCommission
  dsimp only
  split
  · exact .refl u
  · split
    · split
      · exact .refl u
      · split
        · exact .refl u
        · split
          · exact .refl u
          · exact ((State.StoreRun.refl u).commit _ _).recompute
    · exact .refl u

theorem stringRead_storeRun : u.StoreRun (stringRead b u).1 := by
  unfold stringRead
  split <;> exact .refl u

theorem stringPulse_storeRun : u.StoreRun (stringPulse b u).1 := by
  unfold stringPulse
  split
  · exact .refl u
  · split
    · exact .refl u
    · exact (State.StoreRun.refl u).setPulse _ _

theorem stringDrop_storeRun : u.StoreRun (stringDrop b u).1 := by
  unfold stringDrop
  dsimp only
  split
  · exact .refl u
  · split
    · exact .refl u
    · split
      · exact .refl u
      · split
        · exact .refl u
        · exact (State.StoreRun.refl u).saved (stringImage _) rfl

theorem permitAsk_storeRun : u.StoreRun (permitAsk b u).1 := by
  unfold permitAsk
  dsimp only
  split
  · exact .refl u
  · split
    · exact .refl u
    · exact (State.StoreRun.refl u).same rfl

theorem permitRead_storeRun : u.StoreRun (permitRead b u).1 := by
  unfold permitRead
  dsimp only
  split <;> exact .refl u

theorem permitRecall_storeRun : u.StoreRun (permitRecall b u).1 := by
  unfold permitRecall
  dsimp only
  split
  · exact .refl u
  · split
    · exact (State.StoreRun.refl u).recallPermit _ _
    · exact .refl u

theorem permitCancel_storeRun : u.StoreRun (permitCancel b u).1 := by
  unfold permitCancel
  dsimp only
  split
  · exact .refl u
  · split
    · exact ((State.StoreRun.refl u).closePermit _).recompute
    · exact .refl u

theorem visitOpen_storeRun : u.StoreRun (visitOpen b u).1 := by
  unfold visitOpen
  split
  · exact .refl u
  · exact (State.StoreRun.refl u).saved (visitImage _) rfl

theorem visitAdd_storeRun : u.StoreRun (visitAdd b u).1 := by
  unfold visitAdd
  dsimp only
  split
  · exact .refl u
  · split
    · exact .refl u
    · split
      · exact .refl u
      · split
        · exact .refl u
        · split
          · exact .refl u
          · exact (State.StoreRun.refl u).saved (visitImage _) rfl

theorem visitStart_storeRun : u.StoreRun (visitStart b u).1 := by
  unfold visitStart
  dsimp only
  split
  · exact .refl u
  · split
    · exact .refl u
    · refine State.StoreRun.storeItem ?_ _ _ _
      split
      · exact ((State.StoreRun.refl u).workOn _ _).recompute
      · exact .refl u

theorem finishReplace_storeRun (v n profileNo value : Nat) (x : Visit) (it : Item) :
    u.StoreRun (finishReplace v n profileNo value x it u).1 := by
  unfold finishReplace
  split
  · exact .refl u
  · split
    · exact .refl u
    · split
      · exact .refl u
      · split
        · exact .refl u
        · split
          · exact .refl u
          · exact ((((State.StoreRun.refl u).workOn _ _).commit _ _).storeItem _ _ _).recompute

theorem visitFinish_storeRun : u.StoreRun (visitFinish b u).1 := by
  unfold visitFinish
  dsimp only
  split
  · exact .refl u
  · split
    · exact .refl u
    · split
      · exact finishReplace_storeRun u _ _ _ _ _ _
      · exact ((State.StoreRun.refl u).handResult _ _).storeItem _ _ _

theorem visitAbandon_storeRun : u.StoreRun (visitAbandon b u).1 := by
  unfold visitAbandon
  dsimp only
  split
  · exact .refl u
  · split
    · exact (((State.StoreRun.refl u).releaseTarget _).recompute).storeItem _ _ _
    · exact .refl u

theorem visitClose_storeRun : u.StoreRun (visitClose b u).1 := by
  unfold visitClose
  dsimp only
  split
  · exact .refl u
  · split
    · exact .refl u
    · exact (State.StoreRun.refl u).closeVisit _

theorem visitRead_storeRun : u.StoreRun (visitRead b u).1 := by
  unfold visitRead
  dsimp only
  split <;> exact .refl u

end

/-! ## Frames and the store (R176 to R181) -/

section
variable (s : State)

theorem State.clearOverrun_store : s.clearOverrun.store = s.store := by
  unfold State.clearOverrun
  split <;> rfl

theorem State.storeRun_frameEvent (n : Nat) (tail : State → List Byte) {act : State → State}
    (ha : ∀ u, State.StoreRun u (act u)) : s.StoreRun (s.frameEvent n tail act) := by
  unfold State.frameEvent
  split
  · rw [State.openFrame_eq]
    have hopened : s.StoreRun (s.withPort s.openedPort) := (State.StoreRun.refl s).same rfl
    exact (hopened.trans (ha _)).same rfl
  · exact (State.StoreRun.refl s).same rfl
  · exact (State.StoreRun.refl s).same rfl

/-- A request changes the store as its block does. -/
theorem State.storeRun_takeRequest (code : Byte) (need : Nat) (f : RequestFrame) {handle : List Byte → State → State × Answer}
    (hh : ∀ b u, State.StoreRun u (handle b u).1) : s.StoreRun (s.takeRequest code need f handle) := by
  refine s.storeRun_frameEvent _ _ fun u => ?_
  have hcleared : u.StoreRun u.clearOverrun := (State.StoreRun.refl u).same u.clearOverrun_store
  unfold State.judgeRequest
  split
  · dsimp only
    split
    · have hhandled := hcleared.trans (hh f.body _)
      unfold State.answer
      split
      · exact hhandled.same rfl
      · exact hhandled.same rfl
    · exact hcleared.same rfl
  · exact (State.StoreRun.refl u).same rfl
  · exact (State.StoreRun.refl u).same rfl
  · exact (State.StoreRun.refl u).same rfl

theorem State.judgeUnknown_store : s.judgeUnknown.store = s.store := by
  unfold State.judgeUnknown
  split
  · exact s.clearOverrun_store
  · rfl
  · rfl
  · rfl

theorem State.judgeFetch_store (clocked : Nat) : (s.judgeFetch clocked).store = s.store := by
  unfold State.judgeFetch
  split
  · split <;> rfl
  · rfl

theorem State.placeOrder_store (order : Byte) : (s.placeOrder order).store = s.store := by
  unfold State.placeOrder
  split <;> rfl

theorem State.cancelOrder_store : s.cancelOrder.store = s.store := by
  unfold State.cancelOrder
  split <;> rfl

end

end Sys2Proof.Machine

namespace Sys2Proof.Machine

/-! ## Writes, losses and starts (R164 to R175) -/

section
variable {s t : State}

theorem State.StoreRun.beginWrite (h : s.StoreRun t) {id : ImageId} {rest : List ImageId} (hq : t.store.queue = id :: rest) :
    s.StoreRun (t.beginWrite id rest) := h.change (.begun hq (t.contentOf id))

theorem State.StoreRun.finishWrite (h : s.StoreRun t) {w : ImageWrite} (hw : t.store.writer = some w) (o : WriteOutcome) :
    s.StoreRun (t.finishWrite w o) := h.change (.ended hw (writeLeavesGood o))

theorem State.StoreRun.endRunningWrite (h : s.StoreRun t) (o : WriteOutcome) : s.StoreRun (t.endRunningWrite o) := by
  unfold State.endRunningWrite
  split
  · exact h
  · rename_i w hw
    split
    · exact h.finishWrite hw _
    · exact (h.finishWrite hw _).saved w.id rfl

theorem State.StoreRun.endResetWrite (h : s.StoreRun t) (o : WriteOutcome) : s.StoreRun (t.endResetWrite o) := by
  unfold State.endResetWrite
  split
  · exact h
  · exact h.finishWrite ‹_› _

/-- A loss of power spoils the write in flight and loses the queue (R167). -/
theorem State.StoreRun.losePower (h : s.StoreRun t) : s.StoreRun t.losePower := by
  have hspoiled : s.StoreRun { t with store := { t.store with images := t.imagesAfterLoss, writer := none } } := by
    unfold State.imagesAfterLoss
    split
    · rename_i hw
      exact h.same (by rw [← hw])
    · exact h.change (.ended ‹_› false)
  exact hspoiled.change (.lost _ .matched)

theorem State.StoreRun.enterReset (h : s.StoreRun t) (o : WriteOutcome) : s.StoreRun (t.enterReset o) :=
  h.change (.lost t.store o)

/-- A start forms the store from its images, and the string check queues the images of the records that it changes (R170, R171). -/
theorem State.StoreRun.start (h : s.StoreRun t) (cause : StartCause) : s.StoreRun (t.start cause) := by
  have hloaded : s.StoreRun (t.load cause) := h.change (.started t.store)
  exact hloaded.pass (f := State.checkString (t.load cause)) (fun v k => (State.StoreRun.refl v).workOn k _) _

theorem State.StoreRun.dropPermit (h : s.StoreRun t) (k : Nat) : s.StoreRun (t.dropPermit k) := (h.freePermit k).same rfl

theorem State.StoreRun.loseVisit (h : s.StoreRun t) (k : Nat) : s.StoreRun (t.loseVisit k) := by
  unfold State.loseVisit
  split
  · exact h
  · split
    · exact h.saved (permitImage k) rfl
    · exact h

theorem State.StoreRun.restorePermits (h : s.StoreRun t) : s.StoreRun t.restorePermits := by
  refine (h.pass (f := State.dropDuplicate t) (fun v k => ?_) _).pass (fun v k => ?_) _
  · unfold State.dropDuplicate
    split
    · exact .refl v
    · split
      · exact (State.StoreRun.refl v).dropPermit k
      · exact .refl v
  · unfold State.restorePermit
    split
    · exact .refl v
    · rename_i p _
      split
      · exact (State.StoreRun.refl v).dropPermit k
      · split
        · split
          · have hset : v.StoreRun (v.setPermit k (some { p with timeout := some v.floor.config.grantTimeout })) :=
              (State.StoreRun.refl v).same rfl
            exact (hset.post p.cabinet .grant).loseVisit k
          · exact (State.StoreRun.refl v).closeRaising k
        · exact (State.StoreRun.refl v).loseVisit k

theorem State.StoreRun.restoreVisit (h : s.StoreRun t) (v : Nat) : s.StoreRun (t.restoreVisit v) := by
  unfold State.restoreVisit
  split
  · exact h
  · rename_i x _
    dsimp only
    have hstored : s.StoreRun (if x.items.map (t.restoredItem v) = x.items then t else
        (t.setVisit v (some { x with items := x.items.map (t.restoredItem v) })).checkpoint (visitImage v)) := by
      split
      · exact h
      · exact h.saved (visitImage v) rfl
    refine State.StoreRun.pass ?_ (f := State.holdTargetOf v) (fun w it => ?_) _
    · split
      · exact hstored.same rfl
      · exact hstored
    · unfold State.holdTargetOf
      split
      · exact (State.StoreRun.refl w).workOn _ _
      · exact .refl w

theorem State.StoreRun.restoreVisits (h : s.StoreRun t) : s.StoreRun t.restoreVisits := by
  refine (h.pass (fun v n => (State.StoreRun.refl v).restoreVisit n) _).pass (fun v k => ?_) _
  unfold State.settleString
  split
  · exact .refl v
  · split
    · exact (State.StoreRun.refl v).workOn _ _
    · split
      · exact (State.StoreRun.refl v).workOn _ _
      · exact .refl v

theorem State.StoreRun.deliverHeldTick (h : s.StoreRun t) : s.StoreRun t.deliverHeldTick := by
  unfold State.deliverHeldTick
  split
  · refine State.StoreRun.tick ?_
    exact h.same rfl
  · exact h

theorem State.StoreRun.finishStartUp (h : s.StoreRun t) : s.StoreRun t.finishStartUp := by
  have hjudged : s.StoreRun t.judgeFirst := by
    unfold State.judgeFirst
    dsimp only
    split <;> exact h.same rfl
  have hclosed : s.StoreRun t.judgeFirst.restorePermits.restoreVisits.closeStoredEvents :=
    hjudged.restorePermits.restoreVisits.pass (f := State.closeStored) (fun v k => (State.StoreRun.refl v).workOn k _) _
  have hended : s.StoreRun t.nearlyStarted.endStartUp := by
    unfold State.nearlyStarted
    generalize t.judgeFirst.restorePermits.restoreVisits.closeStoredEvents = v at *
    exact hclosed.same rfl
  rw [State.finishStartUp_eq]
  exact hended.deliverHeldTick.takeUrgent

end

end Sys2Proof.Machine

namespace Sys2Proof.Machine

/-! ## Every command and the store -/

/-- Every command completes with a chain of changes of the store. -/
theorem exec_storeRun (i : Instr) (s : State) : ∃ t, exec i s = .next t ∧ s.StoreRun t := by
  have here : s.StoreRun s := .refl s
  have request : ∀ {code : Byte} {need : Nat} {f : RequestFrame} {handle : List Byte → State → State × Answer},
      (∀ b u, State.StoreRun u (handle b u).1) → s.StoreRun (s.takeRequest code need f handle) :=
    fun hh => s.storeRun_takeRequest _ _ _ hh
  have frame : ∀ {n : Nat} {tail : State → List Byte} {act : State → State},
      (∀ u, (act u).store = u.store) → s.StoreRun (s.frameEvent n tail act) :=
    fun ha => s.storeRun_frameEvent _ _ fun u => (State.StoreRun.refl u).same (ha u)
  cases i with
  | floorRead f => exact ⟨_, rfl, request fun _ u => .refl u⟩
  | floorConfigWrite f => exact ⟨_, rfl, request fun _ u => (State.StoreRun.refl u).writeConfig _⟩
  | clockSet f => exact ⟨_, rfl, request fun _ u => (State.StoreRun.refl u).same rfl⟩
  | attentionRead f => exact ⟨_, rfl, request fun _ u => (State.StoreRun.refl u).same rfl⟩
  | cabinetSet f => exact ⟨_, rfl, request cabinetSet_storeRun⟩
  | cabinetDrop f => exact ⟨_, rfl, request cabinetDrop_storeRun⟩
  | cabinetRead f => exact ⟨_, rfl, request cabinetRead_storeRun⟩
  | profileWrite f => exact ⟨_, rfl, request profileWrite_storeRun⟩
  | profileRead f => exact ⟨_, rfl, request profileRead_storeRun⟩
  | stringCommission f => exact ⟨_, rfl, request stringCommission_storeRun⟩
  | stringRead f => exact ⟨_, rfl, request stringRead_storeRun⟩
  | stringPulse f => exact ⟨_, rfl, request stringPulse_storeRun⟩
  | stringDrop f => exact ⟨_, rfl, request stringDrop_storeRun⟩
  | permitAsk f => exact ⟨_, rfl, request permitAsk_storeRun⟩
  | permitRead f => exact ⟨_, rfl, request permitRead_storeRun⟩
  | permitRecall f => exact ⟨_, rfl, request permitRecall_storeRun⟩
  | permitCancel f => exact ⟨_, rfl, request permitCancel_storeRun⟩
  | visitOpen f => exact ⟨_, rfl, request visitOpen_storeRun⟩
  | visitAdd f => exact ⟨_, rfl, request visitAdd_storeRun⟩
  | visitStart f => exact ⟨_, rfl, request visitStart_storeRun⟩
  | visitFinish f => exact ⟨_, rfl, request visitFinish_storeRun⟩
  | visitAbandon f => exact ⟨_, rfl, request visitAbandon_storeRun⟩
  | visitClose f => exact ⟨_, rfl, request visitClose_storeRun⟩
  | visitRead f => exact ⟨_, rfl, request visitRead_storeRun⟩
  | unknownRequest code f => exact ⟨_, rfl, frame State.judgeUnknown_store⟩
  | statusPeek b => exact ⟨_, rfl, frame fun _ => rfl⟩
  | disregardedFrame b rest => exact ⟨_, rfl, frame fun _ => rfl⟩
  | fetch rest => exact ⟨_, rfl, frame fun u => u.judgeFetch_store _⟩
  | urgent order rest => exact ⟨_, rfl, frame fun u => u.placeOrder_store _⟩
  | urgentCancel rest => exact ⟨_, rfl, frame State.cancelOrder_store⟩
  | portReset rest => exact ⟨_, rfl, frame fun _ => rfl⟩
  | pollSlot orderFirst =>
    refine ⟨_, rfl, ?_⟩
    split
    · split
      · exact here.takeUrgent.formPoll
      · exact here.formPoll.takeUrgent
    · exact here
  | breakSlot =>
    refine ⟨_, rfl, ?_⟩
    split
    · refine State.StoreRun.takeUrgent ?_
      exact here.same rfl
    · exact here
  | idleSlot =>
    refine ⟨_, rfl, ?_⟩
    split
    · refine State.StoreRun.takeUrgent ?_
      exact here.same rfl
    · exact here
  | noReply => exact ⟨_, rfl, here.pollFails⟩
  | noReplyInTime => exact ⟨_, rfl, here.pollFails⟩
  | replyEnd chars => exact ⟨_, rfl, here.takeReply _⟩
  | askWaitEnd => exact ⟨_, rfl, here.judgeIfSettled⟩
  | askEarlyEnd =>
    refine ⟨_, rfl, ?_⟩
    split
    · exact here
    · split
      · exact here
      · exact here.endAsk _
  | minuteTick =>
    refine ⟨_, rfl, ?_⟩
    split
    · split
      · exact here.tick
      · exact here.same rfl
    · exact here
    · exact here
  | calendarStep slot =>
    refine ⟨_, rfl, ?_⟩
    split
    · exact here
    · split
      · exact (here.workOn _ _).recompute
      · exact here
  | automaticPulse slot =>
    refine ⟨_, rfl, ?_⟩
    split
    · exact here
    · split
      · exact here
      · split
        · refine State.StoreRun.setPulse ?_ _ _
          exact here.same rfl
        · exact here
  | grantTimeout slot =>
    refine ⟨_, rfl, ?_⟩
    split
    · exact here
    · split
      · exact here.expireGrant _
      · exact here
  | permitOverdue slot =>
    refine ⟨_, rfl, ?_⟩
    split
    · exact here
    · split
      · exact here.makeOverdue _ _
      · exact here
  | visitOvertime slot =>
    refine ⟨_, rfl, ?_⟩
    split
    · exact here
    · split
      · exact here.makeOvertime _ _
      · exact here
  | utilitySenseEdge high =>
    refine ⟨_, rfl, ?_⟩
    split <;> exact here.same rfl
  | utilityChange => exact ⟨_, rfl, here.passTime _⟩
  | storeWriteBegin =>
    refine ⟨_, rfl, ?_⟩
    split
    · exact here.beginWrite ‹_›
    · exact here
  | storeWriteEnd o =>
    refine ⟨_, rfl, ?_⟩
    split
    · exact here.endRunningWrite o
    · exact here.endResetWrite o
    · exact here
  | powerOn =>
    refine ⟨_, rfl, ?_⟩
    split
    · exact here.start _
    · exact here.losePower.start _
    · exact here.losePower.start _
  | powerLoss =>
    refine ⟨_, rfl, ?_⟩
    split
    · exact here
    · exact here.losePower
    · exact here.losePower
  | resetAssert o =>
    refine ⟨_, rfl, ?_⟩
    split
    · exact here.enterReset o
    · exact here
    · exact here
  | resetLine =>
    refine ⟨_, rfl, ?_⟩
    split
    · exact here
    · exact (here.endResetWrite _).start _
    · exact ((here.enterReset .matched).endResetWrite _).start _
  | firstUtilityJudgement =>
    refine ⟨_, rfl, ?_⟩
    split
    · exact here.finishStartUp
    · exact here
  | floorClockSecond =>
    refine ⟨_, rfl, ?_⟩
    split <;> exact here.same rfl
  | chipSelectAssertion =>
    refine ⟨_, rfl, ?_⟩
    split <;> exact here.same rfl

/-- What a step can do to the store. -/
theorem step_storeRun {s t : State} (h : step s = .next t) : s.StoreRun t := by
  unfold step at h
  split at h
  · cases h
    exact (State.StoreRun.refl s).passTime 1
  · rename_i c rest _
    obtain ⟨u, hu, hrun⟩ := exec_storeRun c { s with pending := rest }
    cases hu.symm.trans h
    have hrest : s.StoreRun { s with pending := rest } := (State.StoreRun.refl s).same rfl
    exact hrest.trans hrun

/-- What every change of the store keeps is kept by a step. -/
theorem step_keeps_store {P : Store → Prop} (hP : ∀ σ τ, Store.Change σ τ → P σ → P τ) {s t : State} (h : step s = .next t)
    (hs : P s.store) : P t.store := by
  have hrun := step_storeRun h
  unfold State.StoreRun at hrun
  generalize t.store = τ at hrun
  induction hrun with
  | refl => exact hs
  | tail _ hc ih => exact hP _ _ hc ih

end Sys2Proof.Machine

namespace Sys2Proof.Machine

/-! ## The queue (R163) -/

theorem badFrom_nodup {α : Type} (kind : ImageKind) (k : Nat) (t : List (Image (Option α))) : (badFrom kind k t).Nodup := by
  induction t generalizing k with
  | nil => exact List.nodup_nil
  | cons i t ih =>
    unfold badFrom
    split
    · exact ih (k + 1)
    · refine List.nodup_cons.mpr ⟨fun hm => ?_, ih (k + 1)⟩
      obtain ⟨-, -, hle, -⟩ := mem_badFrom hm
      exact absurd hle (Nat.not_succ_le_self k)

/-- The list names images of the given kinds alone, and none twice. -/
structure DistinctOf (kinds : List ImageKind) (l : List ImageId) : Prop where
  nodup : l.Nodup
  kinds : ∀ id ∈ l, id.kind ∈ kinds

/-- The bad images of another kind follow those of the kinds before them. -/
theorem DistinctOf.append_badFrom {α : Type} {kinds : List ImageKind} {l : List ImageId} (h : DistinctOf kinds l)
    {kind : ImageKind} (hk : kind ∉ kinds) (t : List (Image (Option α))) : DistinctOf (kind :: kinds) (l ++ badFrom kind 1 t) := by
  refine ⟨List.nodup_append'.mpr ⟨h.nodup, badFrom_nodup kind 1 t, fun id hid hbad => hk ?_⟩, fun id hid => ?_⟩
  · exact (mem_badFrom hbad).1 ▸ h.kinds id hid
  · rcases List.mem_append.mp hid with hid | hbad
    · exact List.mem_cons_of_mem kind (h.kinds id hid)
    · exact (mem_badFrom hbad).1 ▸ List.mem_cons_self

/-- A start queues each bad image once (R170). -/
theorem badImages_nodup (im : Images) : (badImages im).Nodup := by
  have hconfig : DistinctOf [.config] (if im.config.good = true then [] else [configImage]) := by
    split
    · exact ⟨List.nodup_nil, nofun⟩
    · exact ⟨List.nodup_singleton _, fun id hid => List.mem_singleton.mp hid ▸ List.mem_cons_self⟩
  exact (((((hconfig.append_badFrom (by decide) im.profiles).append_badFrom (by decide) im.cabinets).append_badFrom (by decide)
    im.strings).append_badFrom (by decide) im.permits).append_badFrom (by decide) im.visits).nodup

theorem Store.Change.queue_nodup {σ τ : Store} (h : Store.Change σ τ) (hs : σ.queue.Nodup) : τ.queue.Nodup := by
  cases h with
  | queued id => exact enqueue_nodup id _ hs
  | begun hq c =>
    rw [hq] at hs
    exact (List.nodup_cons.mp hs).2
  | ended hw good => exact hs
  | lost o => exact List.nodup_nil
  | started => exact badImages_nodup _

/-! ## The write count (R162) -/

theorem mem_goodNumbers {α : Type} {t : List (Image α)} {n : Nat} :
    n ∈ goodNumbers t ↔ ∃ i ∈ t, i.good = true ∧ i.number = n := by
  simp only [goodNumbers, List.mem_map, List.mem_filter, and_assoc]

theorem mem_goodNumbers_setImageAt {α : Type} {t : List (Image (Option α))} {k n number : Nat} {good : Bool} {x : Option α}
    (h : n ∈ goodNumbers (setImageAt t k { good := good, number := number, content := x })) : n ∈ goodNumbers t ∨ n = number := by
  obtain ⟨i, hi, hg, rfl⟩ := mem_goodNumbers.mp h
  cases k with
  | zero => exact .inl h
  | succ k =>
    rcases List.mem_or_eq_of_mem_set hi with hi | rfl
    · exact .inl (mem_goodNumbers.mpr ⟨i, hi, hg, rfl⟩)
    · exact .inr rfl

/-- A write brings no number among those of the good images but its own. -/
theorem mem_allGoodNumbers_putImage {im : Images} {k n number : Nat} {good : Bool} {c : Content}
    (h : n ∈ allGoodNumbers (putImage im k good number c)) : n ∈ allGoodNumbers im ∨ n = number := by
  cases c with
  | config x =>
    have hone : n ∈ goodNumbers [({ good := good, number := number, content := x } : Image FloorConfig)] → n = number := by
      intro hn
      obtain ⟨i, hi, -, rfl⟩ := mem_goodNumbers.mp hn
      rw [List.mem_singleton.mp hi]
    simp only [allGoodNumbers, putImage, List.mem_append] at h ⊢
    tauto
  | profile x | cabinet x | string x | permit x | visit x =>
    simp only [allGoodNumbers, putImage, List.mem_append] at h ⊢
    grind [mem_goodNumbers_setImageAt]

/-- The write count is ahead of every good image and of the write in flight. -/
structure Store.Ahead (σ : Store) : Prop where
  images : ∀ n ∈ allGoodNumbers σ.images, n < σ.nextNumber
  writer : ∀ w, σ.writer = some w → w.number < σ.nextNumber

theorem State.countAhead_iff (s : State) : s.CountAhead ↔ s.store.Ahead :=
  ⟨fun h => ⟨h.images, h.writer⟩, fun h => ⟨h.images, h.writer⟩⟩

theorem Store.Change.ahead {σ τ : Store} (h : Store.Change σ τ) (hs : σ.Ahead) : τ.Ahead := by
  cases h with
  | queued id => exact ⟨hs.images, hs.writer⟩
  | begun hq c =>
    refine ⟨fun n hn => Nat.lt_succ_of_lt (hs.images n hn), fun w hw => ?_⟩
    cases hw
    exact Nat.lt_succ_self _
  | ended hw good =>
    refine ⟨fun n hn => ?_, fun _ hnone => (by cases hnone)⟩
    rcases mem_allGoodNumbers_putImage hn with hn | rfl
    · exact hs.images n hn
    · exact hs.writer _ hw
  | lost o => exact ⟨hs.images, hs.writer⟩
  | started => exact ⟨fun n hn => lt_resumedCount hn, fun _ hnone => (by cases hnone)⟩

end Sys2Proof.Machine

section
open Sys2Proof Sys2Proof.Machine

/-- Settles O6: an image is queued only where it is not yet, a write takes one away, and a start queues each bad image once. -/
theorem stepKeepsTheQueueDistinct : Obligations.StepKeepsTheQueueDistinct :=
  fun _ _ hs h => step_keeps_store (P := fun σ => σ.queue.Nodup) (fun _ _ c => c.queue_nodup) h hs

/-- Settles O7: a write takes the next number and counts on, an image takes the number of its write, and a start counts on from the
largest number of a good image. -/
theorem stepKeepsTheCountAhead : Obligations.StepKeepsTheCountAhead :=
  fun s t hs h => t.countAhead_iff.mpr (step_keeps_store (fun _ _ c => c.ahead) h (s.countAhead_iff.mp hs))

end

namespace Sys2Proof.Machine

/-! ## STORE WRITE BEGIN and STORE WRITE END (R164 to R166, R168) -/

section
variable {s : State}

theorem exec_storeWriteBegin (hr : s.phase = .running) (hw : s.store.writer = none) {id : ImageId} {rest : List ImageId}
    (hq : s.store.queue = id :: rest) : exec .storeWriteBegin s = .next (s.beginWrite id rest) := by
  show execStoreWriteBegin s = _
  simp only [execStoreWriteBegin, hr, hw, hq]

theorem exec_storeWriteEnd_running (hr : s.phase = .running) (o : WriteOutcome) :
    exec (.storeWriteEnd o) s = .next (s.endRunningWrite o) := by
  show execStoreWriteEnd o s = _
  simp only [execStoreWriteEnd, hr]

theorem exec_storeWriteEnd_inReset (hr : s.phase = .inReset) (o : WriteOutcome) :
    exec (.storeWriteEnd o) s = .next (s.endResetWrite o) := by
  show execStoreWriteEnd o s = _
  simp only [execStoreWriteEnd, hr]

/-- With the writer idle no write ends, whatever the phase (log 2). -/
theorem exec_storeWriteEnd_idle (hw : s.store.writer = none) (o : WriteOutcome) : exec (.storeWriteEnd o) s = .next s := by
  cases hp : s.phase with
  | unpowered =>
    show execStoreWriteEnd o s = _
    simp only [execStoreWriteEnd, hp]
  | inReset => rw [exec_storeWriteEnd_inReset hp, State.endResetWrite_idle o s hw]
  | running => rw [exec_storeWriteEnd_running hp, State.endRunningWrite_idle o s hw]

theorem writeLeavesGood_eq (o : WriteOutcome) : writeLeavesGood o = decide (o ≠ .differs false) := by
  cases o with
  | matched => rfl
  | differs good => cases good <;> rfl

end

/-! ## Reading an image back (R164) -/

theorem imageAt_setImageAt_same {α : Type} {t : List (Image (Option α))} {n : Nat} (v : Image (Option α)) (h1 : 1 ≤ n)
    (h2 : n ≤ t.length) : imageAt (setImageAt t n v) n = some v := by
  obtain ⟨k, rfl⟩ : ∃ k, n = k + 1 := ⟨n - 1, by omega⟩
  exact List.getElem?_set_self h2

theorem imageAt_setImageAt_ne {α : Type} (t : List (Image (Option α))) {n j : Nat} (v : Image (Option α)) (h : j ≠ n) :
    imageAt (setImageAt t n v) j = imageAt t j := by
  cases n with
  | zero => rfl
  | succ n =>
    cases j with
    | zero => rfl
    | succ j => exact List.getElem?_set_ne (fun e => h (congrArg (· + 1) e.symm))

/-- A write of an image in a table of `count` changes that image alone. -/
theorem imageAt_setImageAt {α : Type} {t : List (Image (Option α))} {count : Nat} (ht : t.length = count) (n : Nat)
    (v : Image (Option α)) : (1 ≤ n → n ≤ count → imageAt (setImageAt t n v) n = some v) ∧
      (∀ j, j ≠ n → imageAt (setImageAt t n v) j = imageAt t j) :=
  ⟨fun h1 h2 => imageAt_setImageAt_same v h1 (ht ▸ h2), fun _ hj => imageAt_setImageAt_ne t v hj⟩

end Sys2Proof.Machine

section
open Sys2Proof Sys2Proof.Machine

/-- Settles O56: the begin and the ends of a write, phase by phase, and what the image of each kind takes and leaves. -/
theorem storeWritesInOrder : Obligations.StoreWritesInOrder := by
  refine ⟨fun s id rest hr hw hq => exec_storeWriteBegin hr hw hq, fun s o w hr hw => ?_,
    fun s o hw => exec_storeWriteEnd_idle hw o, fun s w hr hw => ?_, fun s w good hr hw => ?_, fun _ _ => rfl,
    fun s => ⟨rfl, fun _ => rfl, fun _ => rfl, fun _ => rfl, fun _ => rfl, fun _ => rfl⟩, fun im n number good hz => ?_⟩
  · rw [exec_storeWriteEnd_inReset hr, State.endResetWrite_writing o s w hw, ← writeLeavesGood_eq]
    rfl
  · rw [exec_storeWriteEnd_running hr, State.endRunningWrite_writing _ s w hw]
    rfl
  · rw [exec_storeWriteEnd_running hr, State.endRunningWrite_writing _ s w hw]
    rfl
  · refine ⟨fun _ => rfl, ?_, ?_, ?_, ?_, ?_⟩
    · rintro c _ rfl
      exact ⟨rfl, imageAt_setImageAt hz.profiles n _⟩
    · rintro c _ rfl
      exact ⟨rfl, imageAt_setImageAt hz.cabinets n _⟩
    · rintro c _ rfl
      exact ⟨rfl, imageAt_setImageAt hz.strings n _⟩
    · rintro c _ rfl
      exact ⟨rfl, imageAt_setImageAt hz.permits n _⟩
    · rintro c _ rfl
      exact ⟨rfl, imageAt_setImageAt hz.visits n _⟩

end

namespace Sys2Proof.Machine

/-! ## The bytes of a frame (R176, R191, R192) -/

theorem tailFrame_requestTail {f : RequestFrame} (h : f.wellFormed = true) : tailFrame (requestTail f) = f := by
  obtain ⟨len, body⟩ := f
  cases len with
  | some l => rfl
  | none =>
    cases body with
    | nil => rfl
    | cons b t => cases h

theorem requestTail_tailFrame (bs : List Byte) : requestTail (tailFrame bs) = bs := by cases bs <;> rfl

theorem tailFrame_wellFormed (bs : List Byte) : (tailFrame bs).wellFormed = true := by cases bs <;> rfl

/-- A request of the catalogue has a frame, and the code of its row names it (R192). -/
theorem requestOfCode_of_row {i : Instr} {c : Byte} {n : Nat} (hr : requestRow i = some (c, n)) :
    ∃ f, requestFrame i = some f ∧ requestOfCode c f = some i := by
  cases i <;> cases hr <;> exact ⟨_, rfl, rfl⟩

/-- One entry of the code table: a command whose row has the code that the entry compares with. -/
theorem row_of_code_entry {c k : Byte} {n : Nat} {f : RequestFrame} {i j : Instr} {later : Option Instr}
    (hr : requestRow j = some (k, n)) (hf : requestFrame j = some f)
    (hlater : later = some i → (∃ n, requestRow i = some (c, n)) ∧ requestFrame i = some f)
    (h : (if c = k then some j else later) = some i) :
    (∃ n, requestRow i = some (c, n)) ∧ requestFrame i = some f := by
  split at h
  · next hc =>
    cases h
    exact ⟨⟨n, hc ▸ hr⟩, hf⟩
  · exact hlater h

/-- A code that names a request is the code of that request's row, entry by entry of the table (R192). -/
theorem row_of_requestOfCode {c : Byte} {f : RequestFrame} {i : Instr} :
    requestOfCode c f = some i → (∃ n, requestRow i = some (c, n)) ∧ requestFrame i = some f := by
  iterate 24 refine row_of_code_entry rfl rfl ?_
  nofun

theorem encodeFrame_of_row {i : Instr} {c : Byte} {n : Nat} {f : RequestFrame} (hr : requestRow i = some (c, n))
    (hf : requestFrame i = some f) : encodeFrame i = some (frameRequest :: c :: requestTail f) := by
  simp only [encodeFrame, hr, hf]

theorem wellFormed_of_row {i : Instr} {c : Byte} {n : Nat} {f : RequestFrame} (hr : requestRow i = some (c, n))
    (hf : requestFrame i = some f) : i.wellFormed = f.wellFormed := by
  simp only [Instr.wellFormed, hr, hf]

theorem encodeFrame_of_no_row {i : Instr} (hr : requestRow i = none) : encodeFrame i = encodeOtherFrame i := by
  simp only [encodeFrame, hr]

theorem wellFormed_of_no_row {i : Instr} (hr : requestRow i = none) : i.wellFormed = otherWellFormed i := by
  simp only [Instr.wellFormed, hr]

/-- A REQUEST frame is the request its code names, or an unknown one (R179). -/
theorem decodeFrame_request (c : Byte) (bs : List Byte) : decodeFrame (frameRequest :: c :: bs) =
    some ((requestOfCode c (tailFrame bs)).getD (.unknownRequest c (tailFrame bs))) := by
  rw [decodeFrame, if_pos rfl]
  cases requestOfCode c (tailFrame bs) <;> rfl

theorem namesFrameType_eq_false {b : Byte} : namesFrameType b = false ↔
    b ≠ frameRequest ∧ b ≠ frameFetch ∧ b ≠ frameUrgent ∧ b ≠ frameUrgentCancel ∧ b ≠ framePortReset := by
  simp [namesFrameType, and_assoc]

/-- Reading the bytes of a well-formed command that is no request of the catalogue. -/
theorem decodeFrame_of_other {i : Instr} {bs : List Byte} (hw : otherWellFormed i = true)
    (he : encodeOtherFrame i = some bs) : decodeFrame bs = some i := by
  cases i with
  | unknownRequest c f =>
    obtain ⟨hc, hf⟩ : requestOfCode c f = none ∧ f.wellFormed = true := by
      simpa only [otherWellFormed, Bool.and_eq_true, Option.isNone_iff_eq_none] using hw
    cases he
    rw [decodeFrame_request, tailFrame_requestTail hf, hc]
    rfl
  | disregardedFrame b rest =>
    cases he
    cases rest with
    | nil => simp [otherWellFormed] at hw
    | cons x t =>
      have hb : namesFrameType b = false := by simpa [otherWellFormed] using hw
      obtain ⟨h1, h2, h3, h4, h5⟩ := namesFrameType_eq_false.mp hb
      rw [decodeFrame, if_neg h1, if_neg h2, if_neg h3, if_neg h4, if_neg h5]
  | statusPeek b => cases he; rfl
  | urgent o rest => cases he; rfl
  | fetch rest => cases he; cases rest with | nil => cases hw | cons x t => rfl
  | urgentCancel rest => cases he; cases rest with | nil => cases hw | cons x t => rfl
  | portReset rest => cases he; cases rest with | nil => cases hw | cons x t => rfl
  | _ => cases he

theorem decodeFrame_encodeFrame {i : Instr} {bs : List Byte} (hw : i.wellFormed = true) (he : encodeFrame i = some bs) :
    decodeFrame bs = some i := by
  cases hr : requestRow i with
  | some e =>
    obtain ⟨f, hf, hc⟩ := requestOfCode_of_row (c := e.1) (n := e.2) hr
    rw [wellFormed_of_row hr hf] at hw
    rw [encodeFrame_of_row hr hf] at he
    cases he
    rw [decodeFrame_request, tailFrame_requestTail hw, hc]
    rfl
  | none => exact decodeFrame_of_other (wellFormed_of_no_row hr ▸ hw) (encodeFrame_of_no_row hr ▸ he)

/-- What a REQUEST frame decodes to has the frame's bytes and is well formed. -/
theorem encodeFrame_decodeFrame_request (c : Byte) (bs : List Byte) {i : Instr}
    (h : decodeFrame (frameRequest :: c :: bs) = some i) :
    encodeFrame i = some (frameRequest :: c :: bs) ∧ i.wellFormed = true := by
  rw [decodeFrame_request] at h
  cases hc : requestOfCode c (tailFrame bs) with
  | some j =>
    rw [hc] at h
    cases h
    obtain ⟨⟨n, hr⟩, hf⟩ := row_of_requestOfCode hc
    refine ⟨?_, (wellFormed_of_row hr hf).trans (tailFrame_wellFormed bs)⟩
    exact (encodeFrame_of_row hr hf).trans (by rw [requestTail_tailFrame])
  | none =>
    rw [hc] at h
    cases h
    refine ⟨?_, ?_⟩
    · show some (frameRequest :: c :: requestTail (tailFrame bs)) = _
      rw [requestTail_tailFrame]
    · show ((requestOfCode c (tailFrame bs)).isNone && (tailFrame bs).wellFormed) = true
      rw [hc, tailFrame_wellFormed]
      rfl

theorem encodeFrame_decodeFrame {i : Instr} {bs : List Byte} (h : decodeFrame bs = some i) :
    encodeFrame i = some bs ∧ i.wellFormed = true := by
  match bs with
  | [] => cases h
  | [b] => cases h; exact ⟨rfl, rfl⟩
  | b :: x :: rest =>
    by_cases h1 : b = frameRequest
    · subst h1
      exact encodeFrame_decodeFrame_request x rest h
    · rw [decodeFrame, if_neg h1] at h
      split_ifs at h with h2 h3 h4 h5 <;> cases h
      · exact ⟨by rw [h2]; rfl, rfl⟩
      · exact ⟨by rw [h3]; rfl, rfl⟩
      · exact ⟨by rw [h4]; rfl, rfl⟩
      · exact ⟨by rw [h5]; rfl, rfl⟩
      · refine ⟨rfl, ?_⟩
        rw [wellFormed_of_no_row rfl, otherWellFormed, namesFrameType_eq_false.mpr ⟨h1, h2, h3, h4, h5⟩]
        rfl

theorem decodeFrame_isSome {bs : List Byte} (h : bs ≠ []) : (decodeFrame bs).isSome = true := by
  match bs with
  | [] => exact absurd rfl h
  | [_] => rfl
  | b :: x :: rest =>
    by_cases h1 : b = frameRequest
    · subst h1
      rw [decodeFrame_request]
      rfl
    · rw [decodeFrame, if_neg h1]
      split_ifs <;> rfl

/-! ## The bytes of a field (R191) -/

theorem beNat_concat (bs : List Byte) (b : Byte) : beNat (bs ++ [b]) = 256 * beNat bs + b.toNat := by
  simp only [beNat, List.foldl_append, List.foldl_cons, List.foldl_nil, Nat.mul_comm]

/-- One byte more of a field is its least significant byte. -/
theorem field_succ {b : List Byte} {off n : Nat} {x : Byte} (h : b[off + n]? = some x) :
    field b off (n + 1) = 256 * field b off n + x.toNat := by
  simp only [field, List.take_add_one, List.getElem?_drop, h, Option.toList_some, beNat_concat]

theorem field_one {b : List Byte} {i : Nat} {w : Byte} (h : b[i]? = some w) : field b i 1 = w.toNat := by
  rw [field_succ (n := 0) h]
  simp [field, beNat]

end Sys2Proof.Machine

section
open Sys2Proof Sys2Proof.Machine

/-- Settles O3: encoding and decoding, each the other's inverse, and a field read off byte by byte. -/
theorem framesReadBack : Obligations.FramesReadBack := by
  refine ⟨fun i bs => decodeFrame_encodeFrame, fun i bs => encodeFrame_decodeFrame, fun bs => decodeFrame_isSome,
    rfl, rfl, rfl, rfl, rfl, rfl, rfl, rfl, rfl, rfl, fun b i w x y z hw => ?_⟩
  refine ⟨field_one hw, fun hx => ?_⟩
  have h2 : field b i 2 = 256 * w.toNat + x.toNat := by rw [field_succ hx, field_one hw]
  refine ⟨h2, fun hy hz => ?_⟩
  rw [field_succ hz, field_succ hy, h2]
  omega

end

namespace Sys2Proof.Machine

/-! ## FETCH (R181) -/

/-- In ReplyReady a FETCH is judged by the length of the reply. -/
theorem State.judgeFetch_ready {s : State} {r : Reply} (hs : s.port.state = .replyReady) (hr : s.port.reply = some r)
    (clocked : Nat) : s.judgeFetch clocked = if 3 + r.body.length ≤ clocked then
      { s with port := { s.port with reply := none, state := .idle } } else s := by
  have hl : (replyBytes r).length = 3 + r.body.length := by simp only [replyBytes, List.length_cons]; omega
  simp only [State.judgeFetch, hs, hr, hl]

theorem State.fetchBytes_ready {s : State} {r : Reply} (hs : s.port.state = .replyReady) (hr : s.port.reply = some r) :
    s.fetchBytes = r.code :: r.result :: BitVec.ofNat 8 r.body.length :: r.body := by
  simp only [State.fetchBytes, hs, hr, replyBytes]

/-- Outside ReplyReady a FETCH shifts out the marker and takes nothing. -/
theorem State.fetch_notReady {s : State} (hs : s.port.state ≠ .replyReady) :
    s.fetchBytes = [0xFF] ∧ ∀ clocked, s.judgeFetch clocked = s := by
  unfold State.fetchBytes State.judgeFetch
  cases hp : s.port.state with
  | replyReady => exact absurd hp hs
  | idle => exact ⟨rfl, fun _ => rfl⟩
  | working => exact ⟨rfl, fun _ => rfl⟩
  | starting => exact ⟨rfl, fun _ => rfl⟩

/-! ## URGENT (R183) -/

/-- The order bytes of R191. -/
theorem orderOfByte_eq_some {b : Byte} {o : Order} :
    orderOfByte b = some o ↔ (b = 1 ∧ o = .hold) ∨ (b = 2 ∧ o = .release) ∨ (b = 3 ∧ o = .recallAll) := by
  unfold orderOfByte
  constructor
  · intro h
    split_ifs at h with h1 h2 h3 <;> cases h
    · exact .inl ⟨h1, rfl⟩
    · exact .inr (.inl ⟨h2, rfl⟩)
    · exact .inr (.inr ⟨h3, rfl⟩)
  · rintro (⟨rfl, rfl⟩ | ⟨rfl, rfl⟩ | ⟨rfl, rfl⟩) <;> rfl

theorem orderOfByte_eq_none {b : Byte} (h1 : b ≠ 1) (h2 : b ≠ 2) (h3 : b ≠ 3) : orderOfByte b = none := by
  simp only [orderOfByte, if_neg h1, if_neg h2, if_neg h3]

end Sys2Proof.Machine

section
open Sys2Proof Sys2Proof.Machine

/-- Settles O40: the judgement of a FETCH, in ReplyReady by the length of the reply and outside it. -/
theorem fetchGivesTheReply : Obligations.FetchGivesTheReply := by
  refine ⟨fun rest r s h hs hr => ?_, fun rest s h hs => ?_⟩
  · have hready : (s.withPort s.openedPort).port.state = .replyReady := hs
    have hreply : (s.withPort s.openedPort).port.reply = some r := hr
    refine congrArg Host.Outcome.next ((State.frameEvent_running _ _ _ _ h).trans ?_)
    rw [State.fetchBytes_ready hready hreply, State.judgeFetch_ready hready hreply]
    split <;> rfl
  · obtain ⟨hbytes, hkept⟩ := State.fetch_notReady (s := s.withPort s.openedPort) hs
    refine congrArg Host.Outcome.next ((State.frameEvent_running _ _ _ _ h).trans ?_)
    rw [hbytes, hkept]
    rfl

/-- Settles O41: what an order byte names, and the flag of the occupied slot in the status byte. -/
theorem urgentPlacesItsOrder : Obligations.UrgentPlacesItsOrder := by
  refine fun b rest s h => ⟨fun o ho => ?_, fun h1 h2 h3 => ?_⟩
  · refine ⟨_, congrArg Host.Outcome.next ((State.frameEvent_running _ _ _ _ h).trans ?_),
      (State.statusByte_bits _).2.2.2.1, rfl⟩
    rw [State.placeOrder, orderOfByte_eq_some.mpr ho]
    rfl
  · refine congrArg Host.Outcome.next ((State.frameEvent_running _ _ _ _ h).trans ?_)
    rw [State.placeOrder, orderOfByte_eq_none h1 h2 h3]
    rfl

end

namespace Sys2Proof.Machine

/-! ## REQUEST frames the port turns away (R179, R180) -/

theorem State.judgeRequest_busy {s : State} (hs : s.port.state ≠ .idle) (code : Byte) (need : Nat) (f : RequestFrame)
    (handle : List Byte → State → State × Answer) : s.judgeRequest code need f handle = s.discardRequest := by
  unfold State.judgeRequest
  cases hp : s.port.state with
  | idle => exact absurd hp hs
  | starting => rfl
  | working => rfl
  | replyReady => rfl

theorem State.judgeUnknown_busy {s : State} (hs : s.port.state ≠ .idle) : s.judgeUnknown = s.discardRequest := by
  unfold State.judgeUnknown
  cases hp : s.port.state with
  | idle => exact absurd hp hs
  | starting => rfl
  | working => rfl
  | replyReady => rfl

theorem State.judgeRequest_badLength {s : State} {need : Nat} {f : RequestFrame} (hs : s.port.state = .idle)
    (hl : goodLength need f = false) (code : Byte) (handle : List Byte → State → State × Answer) :
    s.judgeRequest code need f handle = s.clearOverrun.reply code .badLength [] := by
  simp [State.judgeRequest, hs, hl]

theorem State.judgeUnknown_idle {s : State} (hs : s.port.state = .idle) :
    s.judgeUnknown = s.clearOverrun.reply 0x00 .unknownRequest [] := by
  simp only [State.judgeUnknown, hs]

/-- A REQUEST frame that the port itself refuses in Idle leaves the refusal and nothing else. -/
theorem State.frameEvent_refused {s : State} {f : RequestFrame} {act : State → State} {code : Byte} {res : ResultCode}
    (h : s.phase = .running)
    (ha : act (s.withPort s.openedPort) = (s.withPort s.openedPort).clearOverrun.reply code res []) :
    s.frameEvent (requestLength f) (fun _ => []) act = { s with port := s.repliedPort f code res [] } := by
  rw [State.frameEvent_running _ _ _ _ h, ha, State.clearOverrun_opened]
  rfl

/-- A request of the catalogue is taken with the code and the length of its row (R192). -/
theorem exec_takeRequest {i : Instr} {c : Byte} {n : Nat} {f : RequestFrame} (hr : requestRow i = some (c, n))
    (hf : requestFrame i = some f) (s : State) : ∃ handle, exec i s = .next (s.takeRequest c n f handle) := by
  cases i <;> cases hr <;> cases hf <;> exact ⟨_, rfl⟩

/-- A REQUEST is a request of the catalogue or one whose code names none (R179). -/
theorem request_cases {i : Instr} {f : RequestFrame} (hf : requestFrame i = some f) :
    (∃ c n, requestRow i = some (c, n)) ∨ ∃ code, i = .unknownRequest code f := by
  cases hr : requestRow i with
  | some e => exact .inl ⟨e.1, e.2, rfl⟩
  | none =>
    cases i <;> cases hr <;> cases hf
    exact .inr ⟨_, rfl⟩

/-- A REQUEST, known or not, is one frame of its length, and it is discarded by a port that is not Idle. -/
theorem exec_request {i : Instr} {f : RequestFrame} (hf : requestFrame i = some f) (s : State) :
    ∃ act, exec i s = .next (s.frameEvent (requestLength f) (fun _ => []) act) ∧
      ∀ u : State, u.port.state ≠ .idle → act u = u.discardRequest := by
  rcases request_cases hf with ⟨c, n, hr⟩ | ⟨code, rfl⟩
  · obtain ⟨handle, he⟩ := exec_takeRequest hr hf s
    exact ⟨_, he, fun _ hu => State.judgeRequest_busy hu c n f handle⟩
  · exact ⟨_, rfl, fun _ => State.judgeUnknown_busy⟩

end Sys2Proof.Machine

section
open Sys2Proof Sys2Proof.Machine

/-- Settles O16: the discard outside Idle, and the two refusals that the port gives itself. -/
theorem requestsRefusedByThePort : Obligations.RequestsRefusedByThePort := by
  refine ⟨fun i f s hf h hs => ?_, fun i code need f s hr hf h hs hl => ?_, fun code f s h hs => ?_⟩
  · obtain ⟨act, he, hact⟩ := exec_request hf s
    rw [he, State.frameEvent_running _ _ _ _ h, hact (s.withPort s.openedPort) hs]
    rfl
  · obtain ⟨handle, he⟩ := exec_takeRequest hr hf s
    rw [he]
    exact congrArg Host.Outcome.next
      (State.frameEvent_refused h (State.judgeRequest_badLength (s := s.withPort s.openedPort) hs hl code handle))
  · exact congrArg Host.Outcome.next
      (State.frameEvent_refused h (State.judgeUnknown_idle (s := s.withPort s.openedPort) hs))

end

namespace Sys2Proof.Machine

/-! ## The causes that are present (R186, R187) -/

/-- For each cause of R186, in its order, whether it is present. -/
def causeFlags (a : Attention) : List Bool :=
  [a.utilityChange.isSome, decide (a.marginShort ≠ 0), decide (a.unauthorisedBypass ≠ 0), decide (a.permitOverdue ≠ 0),
    decide (a.permitChanged ≠ 0), decide (a.cabinetLost ≠ 0), decide (a.cabinetBack ≠ 0), decide (a.visitItemInterrupted ≠ 0),
    decide (a.visitOvertime ≠ 0), decide (a.stringStateChanged ≠ 0), a.storeFault, a.start.isSome]

theorem bne_zero_eq_decide {w : Nat} (m : BitVec w) : (m != 0) = decide (m ≠ 0) := by
  rw [decide_not]
  rfl

/-- Bit n − 1 stands for cause n. -/
theorem presentCauses_getLsbD {a : Attention} {i : Nat} {b : Bool} (h : (causeFlags a)[i]? = some b) :
    (presentCauses a).getLsbD i = b := by
  have hbit : (presentCauses a).getLsbD i = (causeFlags a).getD i false := by
    simp only [presentCauses, BitVec.getLsbD_ofBoolListLE, causeFlags, bne_zero_eq_decide]
  rw [hbit, List.getD_eq_getElem?_getD, h, Option.getD_some]

/-- Where the bits of all twelve causes agree, so do their flags. -/
theorem causeFlags_eq_replicate {a : Attention} {v : Bool} (h : ∀ i < 12, (presentCauses a).getLsbD i = v) :
    causeFlags a = List.replicate 12 v := by
  refine List.eq_replicate_iff.mpr ⟨rfl, fun b hb => ?_⟩
  obtain ⟨i, hi, rfl⟩ := List.getElem_of_mem hb
  rw [← presentCauses_getLsbD (List.getElem?_eq_getElem hi)]
  exact h i hi

theorem presentCauses_empty : presentCauses Attention.empty = 0 := by decide

/-! ## ATTENTION READ (R188) -/

/-- The bytes of a map, the lowest numbers first, as figures (R192). -/
theorem mapBytes_eq {w : Nat} (n : Nat) (m : BitVec w) :
    mapBytes n m = (List.range n).map (fun i => BitVec.ofNat 8 (m.toNat / 256 ^ i)) := by
  refine List.map_congr_left fun i _ => BitVec.eq_of_toNat_eq ?_
  rw [BitVec.extractLsb'_toNat, BitVec.toNat_ofNat, Nat.shiftRight_eq_div_pow, Nat.pow_mul]

theorem mapBytes_length {w : Nat} (n : Nat) (m : BitVec w) : (mapBytes n m).length = n := by
  rw [mapBytes, List.length_map, List.length_range]

/-- A map that marks a number has its entry. -/
theorem mapEntry_present {w : Nat} {m : BitVec w} (h : m ≠ 0) {cause n : Nat} :
    mapEntry cause n m = [be1 cause ++ mapBytes n m] := if_neg h

/-- The reply has an entry for no cause when none is present. -/
theorem attentionEntries_none {a : Attention} (h : presentCauses a = 0) : attentionEntries a = [] := by
  have hf : causeFlags a = List.replicate 12 false := causeFlags_eq_replicate fun i _ => by
    rw [h]
    exact BitVec.getLsbD_zero
  obtain ⟨u, m, ub, po, pc, cl, cb, vi, vo, ss, sf, st⟩ := a
  obtain ⟨rfl, rfl, rfl, rfl, rfl, rfl, rfl, rfl, rfl, rfl, rfl, rfl⟩ : u = none ∧ m = 0 ∧ ub = 0 ∧ po = 0 ∧
      pc = 0 ∧ cl = 0 ∧ cb = 0 ∧ vi = 0 ∧ vo = 0 ∧ ss = 0 ∧ sf = false ∧ st = none := by
    simpa [causeFlags, List.replicate] using hf
  rfl

/-- With all twelve causes present the body has its count byte and 37 bytes of entries. -/
theorem attentionEntries_full {a : Attention} (h : presentCauses a = 0xFFF) :
    (attentionEntries a).length = 12 ∧ (attentionEntries a).flatten.length = 37 := by
  have hf : causeFlags a = List.replicate 12 true := causeFlags_eq_replicate fun i hi => by
    rw [h]
    interval_cases i <;> rfl
  obtain ⟨u, m, ub, po, pc, cl, cb, vi, vo, ss, sf, st⟩ := a
  obtain ⟨⟨x, rfl⟩, hm, hub, hpo, hpc, hcl, hcb, hvi, hvo, hss, rfl, ⟨c, n⟩, rfl⟩ : (∃ x, u = some x) ∧ m ≠ 0 ∧ ub ≠ 0 ∧
      po ≠ 0 ∧ pc ≠ 0 ∧ cl ≠ 0 ∧ cb ≠ 0 ∧ vi ≠ 0 ∧ vo ≠ 0 ∧ ss ≠ 0 ∧ sf = true ∧ ∃ y, st = some y := by
    simpa [causeFlags, List.replicate, Option.isSome_iff_exists] using hf
  simp [attentionEntries, mapEntry_present hm, mapEntry_present hub, mapEntry_present hpo, mapEntry_present hpc,
    mapEntry_present hcl, mapEntry_present hcb, mapEntry_present hvi, mapEntry_present hvo, mapEntry_present hss, be1,
    mapBytes_length]

end Sys2Proof.Machine

section
open Sys2Proof Sys2Proof.Machine

/-- Settles O21: the entries cause by cause, the two extreme sets, and the bits of causes and marks. -/
theorem attentionReadClearsTheSet : Obligations.AttentionReadClearsTheSet := by
  refine ⟨fun f s a es h ha he => ?_, fun a i b => presentCauses_getLsbD, fun w n i h1 hn => ?_⟩
  · have hes : es = attentionEntries a := by
      rw [he]
      rcases hu : a.utilityChange with _ | u <;> rcases hst : a.start with _ | ⟨cause, n⟩ <;>
        simp [attentionEntries, hu, hst, mapEntry, mapBytes_eq, be1, List.range_succ]
    subst hes ha
    refine ⟨_, congrArg Host.Outcome.next (State.takeRequest_now (t := { s with attention := Attention.empty }) h fun _ => rfl),
      presentCauses_empty, ?_, rfl, attentionEntries_none, fun hfull => ?_⟩
    · simp [State.attn, presentCauses_empty]
    · obtain ⟨hlen, hbytes⟩ := attentionEntries_full hfull
      exact ⟨hlen, by rw [hbytes]⟩
  · constructor
    · intro hi
      simpa [markOf_getLsbD n (BitVec.lt_of_getLsbD hi)] using hi
    · rintro rfl
      simp [markOf_getLsbD _ (show i < w from hn)]

end

namespace Sys2Proof.Machine

/-! ## What leaves the queue of waiting commands as it was

The operations of the blocks change their own records; a blanking and a start copy the queue. Only `step` takes from it. -/

theorem State.foldl_pending {α : Type} {f : State → α → State} (hf : ∀ t a, (f t a).pending = t.pending) (l : List α)
    (s : State) : (l.foldl f s).pending = s.pending := by
  induction l generalizing s with
  | nil => rfl
  | cons a l ih => exact (ih (f s a)).trans (hf s a)

theorem State.PermitFrame.pending {s t : State} (h : s.PermitFrame t) : t.pending = s.pending :=
  (congrArg State.pending h.rest :)

theorem State.RecordFrame.pending {s t : State} (h : s.RecordFrame t) : t.pending = s.pending := (congrArg State.pending h :)

theorem State.PermitsPassed.pending {s t : State} {n : Nat} {out : Permit → PermitWork} (h : s.PermitsPassed t n out) :
    t.pending = s.pending := (congrArg State.pending h.rest :)

theorem State.Worked.pending {s t : State} {out : Nat → StringRecord → Work} (h : s.Worked t out) : t.pending = s.pending :=
  (congrArg State.pending h.frame :)

section
variable (s : State)

/-! ### Records, notices and permits -/

@[simp] theorem State.commit_pending (k : Nat) (w : Work) : (s.commit k w).pending = s.pending := by
  rw [State.commit_eq]

@[simp] theorem State.workOn_pending (k : Nat) (f : Option Profile → Work → Work) : (s.workOn k f).pending = s.pending :=
  (s.recordFrame_workOn k f).pending

@[simp] theorem State.post_pending (c : Nat) (n : Notice) : (s.post c n).pending = s.pending := (s.permitFrame_post c n).pending

@[simp] theorem State.retract_pending (c : Nat) (n : Notice) : (s.retract c n).pending = s.pending := by
  unfold State.retract
  split <;> rfl

@[simp] theorem State.setPulse_pending (c pos : Nat) : (s.setPulse c pos).pending = s.pending := by
  unfold State.setPulse
  split <;> rfl

@[simp] theorem State.closePermit_pending (k : Nat) : (s.closePermit k).pending = s.pending :=
  ((State.PermitFrame.refl s).closePermit k).pending

@[simp] theorem State.closeRaising_pending (k : Nat) : (s.closeRaising k).pending = s.pending := s.closePermit_pending k

@[simp] theorem State.recallPermit_pending (k : Nat) (p : Permit) : (s.recallPermit k p).pending = s.pending :=
  s.post_pending _ _

@[simp] theorem State.releaseTarget_pending (it : Item) : (s.releaseTarget it).pending = s.pending :=
  (s.recordFrame_releaseTarget it).pending

@[simp] theorem State.storeItem_pending (v n : Nat) (it : Item) : (s.storeItem v n it).pending = s.pending := by
  unfold State.storeItem
  split <;> rfl

/-! ### The ask, the utility and the urgent orders (R6, R116, R118, R131, R184) -/

@[simp] theorem State.endAsk_pending (res : ResultCode) : (s.endAsk res).pending = s.pending := by
  rw [State.endAsk_eq]

@[simp] theorem State.grantAsk_pending (a : Ask) (k : Nat) (g : Group) : (s.grantAsk a k g).pending = s.pending :=
  State.post_pending _ _ _

@[simp] theorem State.judgeAsk_pending (a : Ask) : (s.judgeAsk a).pending = s.pending := by
  unfold State.judgeAsk
  dsimp only
  repeat' split
  all_goals simp

@[simp] theorem State.judgeIfSettled_pending : s.judgeIfSettled.pending = s.pending := by
  unfold State.judgeIfSettled
  split
  · rfl
  · split
    · exact s.judgeAsk_pending _
    · rfl

@[simp] theorem State.settleWait_pending (c : Nat) : (s.settleWait c).pending = s.pending := by
  unfold State.settleWait
  split
  · rfl
  · exact State.judgeIfSettled_pending _

@[simp] theorem State.acceptUtility_pending (u : UtilityState) : (s.acceptUtility u).pending = s.pending := by
  by_cases hu : u = .lost
  · subst hu
    obtain ⟨v, hv, hp, -⟩ := s.acceptLost_passed
    rw [hv, State.endAsk_pending]
    exact hp.pending
  · rw [State.acceptUtility_other s hu]

@[simp] theorem State.passTime_pending (ms : Nat) : (s.passTime ms).pending = s.pending := by
  unfold State.passTime
  split
  · rw [State.judgeFilter_eq]
    split
    · exact State.acceptUtility_pending _ _
    · rfl
  · rfl
  · rfl

@[simp] theorem State.writeConfig_pending (c : FloorConfig) : (s.writeConfig c).pending = s.pending := by
  unfold State.writeConfig State.filterAfterWrite
  split
  · exact State.acceptUtility_pending _ _
  · rfl

@[simp] theorem State.recallAll_pending : s.recallAll.pending = s.pending := by
  rw [State.recallAll, State.recompute_pending]
  exact s.recallSlots_passed.pending

@[simp] theorem State.takeUrgent_pending : s.takeUrgent.pending = s.pending := by
  unfold State.takeUrgent
  split
  · rfl
  · rename_i o _
    cases o with
    | hold => exact State.endAsk_pending _ _
    | release => rfl
    | recallAll => exact State.recallAll_pending _

/-! ### The cabinet link and its reports (R28 to R36, R121 to R125, R153) -/

@[simp] theorem State.formPoll_pending : s.formPoll.pending = s.pending := by
  unfold State.formPoll
  split
  · rfl
  · split <;> rfl

@[simp] theorem State.failPoll_pending (c : Nat) (x : Cabinet) : (s.failPoll c x).pending = s.pending := by
  unfold State.failPoll
  dsimp only
  split
  · exact State.settleWait_pending _ _
  · rfl

@[simp] theorem State.pollFails_pending : s.pollFails.pending = s.pending := by
  unfold State.pollFails
  split
  · rfl
  · split
    · rfl
    · split
      · exact State.failPoll_pending _ _ _
      · rfl

@[simp] theorem State.releaseWait_pending (c : Nat) (f : Flight) : (s.releaseWait c f).pending = s.pending := by
  unfold State.releaseWait
  split
  · exact s.settleWait_pending c
  · rfl

@[simp] theorem State.askReport_pending (c : Nat) (m : Mode) (f : Flight) : (s.askReport c m f).pending = s.pending := by
  unfold State.askReport
  split
  · exact s.endAsk_pending _
  · exact s.releaseWait_pending c f

@[simp] theorem State.interruptHolders_pending (k : Nat) : (s.interruptHolders k).pending = s.pending :=
  State.foldl_pending (fun t v => (t.recordFrame_interruptVisit k v).pending) _ s

@[simp] theorem State.enterBypass_pending (k : Nat) (p : Permit) : (s.enterBypass k p).pending = s.pending := by
  unfold State.enterBypass
  split <;> rfl

@[simp] theorem State.reportOnActive_pending (k : Nat) (p : Permit) (m : Mode) : (s.reportOnActive k p m).pending = s.pending := by
  unfold State.reportOnActive
  split
  · exact State.interruptHolders_pending _ _
  · rfl

@[simp] theorem State.reportOnReturning_pending (k : Nat) (p : Permit) (m : Mode) :
    (s.reportOnReturning k p m).pending = s.pending := by
  unfold State.reportOnReturning
  split
  · exact s.closeRaising_pending k
  · dsimp only
    split <;> simp
  · rfl

@[simp] theorem State.reportOnPermit_pending (k : Nat) (p : Permit) (m : Mode) : (s.reportOnPermit k p m).pending = s.pending := by
  unfold State.reportOnPermit
  split
  · unfold State.reportOnGranted
    split <;> simp
  · exact s.reportOnActive_pending k p m
  · exact s.reportOnActive_pending k p m
  · exact s.reportOnReturning_pending k p m

@[simp] theorem State.judgeBypass_pending (c : Nat) (m : Mode) (named : Bool) : (s.judgeBypass c m named).pending = s.pending := by
  unfold State.judgeBypass
  split
  · rfl
  · split
    · split <;> rfl
    · rfl
    · rfl

@[simp] theorem State.permitReport_pending (c : Nat) (m : Mode) : (s.permitReport c m).pending = s.pending := by
  unfold State.permitReport
  split <;> simp

@[simp] theorem State.takeReport_pending (c : Nat) (x : Cabinet) (f : Flight) (rep : Report) :
    (s.takeReport c x f rep).pending = s.pending := by
  unfold State.takeReport
  dsimp only
  rw [State.askReport_pending, State.recompute_pending, State.permitReport_pending, (State.recordFrame_intake _ _ _ _ _ _).pending]
  split <;> rfl

@[simp] theorem State.takeReply_pending (cs : List RxChar) : (s.takeReply cs).pending = s.pending := by
  unfold State.takeReply
  split
  · rfl
  · split
    · rfl
    · split
      · split
        · exact State.failPoll_pending _ _ _
        · exact State.releaseWait_pending _ _ _
        · exact State.takeReport_pending _ _ _ _ _
      · rfl

/-! ### The minute tick (R3) -/

@[simp] theorem State.pulseIfDue_pending (k : Nat) : (s.pulseIfDue k).pending = s.pending := by
  unfold State.pulseIfDue
  split
  · rfl
  · split
    · exact s.setPulse_pending _ _
    · rfl

theorem State.tickString_pending (k : Nat) : (s.tickString k).pending = s.pending := by
  cases hr : s.string? k with
  | none => rw [State.tickString_free hr]
  | some r =>
    rw [State.tickString_record hr]
    split <;> simp

theorem State.tickVisit_pending (v : Nat) : (s.tickVisit v).pending = s.pending := by
  unfold State.tickVisit
  repeat' split
  all_goals rfl

@[simp] theorem State.tick_pending : s.tick.pending = s.pending := by
  unfold State.tick
  dsimp only
  rw [State.foldl_pending State.tickVisit_pending, (State.tickPermits_passed _).pending, State.foldl_pending State.tickString_pending]
  rfl

/-! ### The requests (R179) -/

@[simp] theorem State.setEntryOf_pending (c group rated : Nat) : (s.setEntryOf c group rated).pending = s.pending := by
  unfold State.setEntryOf
  dsimp only
  split <;> rfl

theorem State.profileWriteOn_pending (n : Nat) (p : Profile) (k : Nat) : (State.profileWriteOn n p s k).pending = s.pending := by
  unfold State.profileWriteOn
  split
  · rfl
  · split
    · exact s.workOn_pending _ _
    · rfl

@[simp] theorem State.writeProfile_pending (n : Nat) (p : Profile) : (s.writeProfile n p).pending = s.pending := by
  rw [State.writeProfile, State.recompute_pending, State.foldl_pending (State.profileWriteOn_pending · n p), State.checkpoint_pending,
    State.setProfile_pending]

@[simp] theorem State.handResult_pending (it : Item) (value : Nat) : (s.handResult it value).pending = s.pending := by
  unfold State.handResult
  split <;> simp

@[simp] theorem State.closeVisit_pending (v : Nat) : (s.closeVisit v).pending = s.pending := by
  unfold State.closeVisit
  dsimp only
  rw [State.recompute_pending, State.checkpoint_pending, State.setVisit_pending,
    State.foldl_pending (fun t w => (t.abandonIn_freed (s.retiredOf v) w).frame.pending),
    (State.freeStrings_freed _ _).frame.pending]
  exact State.foldl_pending (f := State.closeVisitPermit) (fun t e => t.closePermit_pending e.1) _ s

end

section
variable (b : List Byte) (u : State)

@[simp] theorem refuse_pending (res : ResultCode) : (refuse res u).1.pending = u.pending := rfl

@[simp] theorem done_pending : (done b u).1.pending = u.pending := rfl

theorem cabinetSet_pending : (cabinetSet b u).1.pending = u.pending := by
  unfold cabinetSet
  dsimp only
  split <;> simp

theorem cabinetDrop_pending : (cabinetDrop b u).1.pending = u.pending := by
  unfold cabinetDrop
  dsimp only
  repeat' split
  all_goals rfl

theorem cabinetRead_pending : (cabinetRead b u).1.pending = u.pending := by
  unfold cabinetRead
  dsimp only
  split
  · rfl
  · rw [done_pending]
    split <;> rfl

theorem profileWrite_pending : (profileWrite b u).1.pending = u.pending := by
  unfold profileWrite
  dsimp only
  split <;> simp

theorem profileRead_pending : (profileRead b u).1.pending = u.pending := by
  unfold profileRead
  dsimp only
  split <;> rfl

theorem stringCommission_pending : (stringCommission b u).1.pending = u.pending := by
  unfold stringCommission
  dsimp only
  repeat' split
  all_goals simp [State.commission]

theorem stringRead_pending : (stringRead b u).1.pending = u.pending := by
  unfold stringRead
  split <;> rfl

theorem stringPulse_pending : (stringPulse b u).1.pending = u.pending := by
  unfold stringPulse
  split
  · rfl
  · split <;> simp

theorem stringDrop_pending : (stringDrop b u).1.pending = u.pending := by
  unfold stringDrop
  dsimp only
  repeat' split
  all_goals rfl

theorem permitAsk_pending : (permitAsk b u).1.pending = u.pending := by
  unfold permitAsk
  dsimp only
  split
  · rfl
  · split <;> rfl

theorem permitRead_pending : (permitRead b u).1.pending = u.pending := by
  unfold permitRead
  dsimp only
  split <;> rfl

theorem permitRecall_pending : (permitRecall b u).1.pending = u.pending := by
  unfold permitRecall
  dsimp only
  split
  · rfl
  · split <;> simp

theorem permitCancel_pending : (permitCancel b u).1.pending = u.pending := by
  unfold permitCancel
  dsimp only
  split
  · rfl
  · split <;> simp

theorem visitOpen_pending : (visitOpen b u).1.pending = u.pending := by
  unfold visitOpen
  split <;> rfl

theorem visitAdd_pending : (visitAdd b u).1.pending = u.pending := by
  unfold visitAdd
  dsimp only
  repeat' split
  all_goals rfl

theorem visitStart_pending : (visitStart b u).1.pending = u.pending := by
  unfold visitStart
  dsimp only
  split
  · rfl
  · split
    · rfl
    · rw [done_pending, State.storeItem_pending]
      split <;> simp

theorem finishReplace_pending (v n profileNo value : Nat) (x : Visit) (it : Item) :
    (finishReplace v n profileNo value x it u).1.pending = u.pending := by
  unfold finishReplace
  dsimp only
  repeat' split
  all_goals simp [State.commission]

theorem visitFinish_pending : (visitFinish b u).1.pending = u.pending := by
  unfold visitFinish
  dsimp only
  split
  · rfl
  · split
    · rfl
    · split
      · exact finishReplace_pending _ _ _ _ _ _ _
      · simp

theorem visitAbandon_pending : (visitAbandon b u).1.pending = u.pending := by
  unfold visitAbandon
  dsimp only
  split
  · rfl
  · split <;> simp

theorem visitClose_pending : (visitClose b u).1.pending = u.pending := by
  unfold visitClose
  dsimp only
  split
  · rfl
  · split <;> simp

theorem visitRead_pending : (visitRead b u).1.pending = u.pending := by
  unfold visitRead
  dsimp only
  split <;> rfl

end

/-! ### Frames (R176, R179) -/

@[simp] theorem State.clearOverrun_pending (s : State) : s.clearOverrun.pending = s.pending := by
  unfold State.clearOverrun
  split <;> rfl

@[simp] theorem State.answer_pending (code : Byte) (r : State × Answer) : (State.answer code r).pending = r.1.pending := by
  unfold State.answer
  split <;> rfl

/-- A frame changes the port and what its type does, so it leaves the queue where its type does (R176). -/
theorem State.frameEvent_pending (s : State) (n : Nat) (tail : State → List Byte) {act : State → State}
    (ha : ∀ u, (act u).pending = u.pending) : (s.frameEvent n tail act).pending = s.pending := by
  unfold State.frameEvent
  split
  · rw [State.openFrame_eq]
    exact ha _
  · rfl
  · rfl

theorem State.takeRequest_pending (s : State) (code : Byte) (need : Nat) (f : RequestFrame)
    {handle : List Byte → State → State × Answer} (hh : ∀ b u, (handle b u).1.pending = u.pending) :
    (s.takeRequest code need f handle).pending = s.pending := by
  refine s.frameEvent_pending _ _ fun u => ?_
  unfold State.judgeRequest
  split
  · dsimp only
    split
    · rw [State.answer_pending, hh, State.clearOverrun_pending]
    · rw [State.reply_pending, State.clearOverrun_pending]
  · rfl
  · rfl
  · rfl

section
variable (s : State)

theorem State.judgeUnknown_pending : s.judgeUnknown.pending = s.pending := by
  unfold State.judgeUnknown
  split
  · rw [State.reply_pending, State.clearOverrun_pending]
  · rfl
  · rfl
  · rfl

theorem State.judgeFetch_pending (clocked : Nat) : (s.judgeFetch clocked).pending = s.pending := by
  unfold State.judgeFetch
  split
  · split <;> rfl
  · rfl

theorem State.placeOrder_pending (b : Byte) : (s.placeOrder b).pending = s.pending := by
  unfold State.placeOrder
  split <;> rfl

theorem State.cancelOrder_pending : s.cancelOrder.pending = s.pending := by
  unfold State.cancelOrder
  split <;> rfl

/-! ### The store, power and the starts (R164 to R175) -/

@[simp] theorem State.endRunningWrite_pending (o : WriteOutcome) : (s.endRunningWrite o).pending = s.pending := by
  unfold State.endRunningWrite
  split
  · rfl
  · split <;> rfl

@[simp] theorem State.endResetWrite_pending (o : WriteOutcome) : (s.endResetWrite o).pending = s.pending := by
  unfold State.endResetWrite
  split <;> rfl

/-- A start forms the working memory anew, but not the queue of commands. -/
@[simp] theorem State.start_pending (cause : StartCause) : (s.start cause).pending = s.pending := by
  obtain ⟨out, h⟩ := s.start_passed cause
  exact h.pending

theorem State.dropDuplicate_pending (l : State) (k : Nat) : (State.dropDuplicate l s k).pending = s.pending := by
  unfold State.dropDuplicate
  split
  · rfl
  · split <;> rfl

@[simp] theorem State.restorePermits_pending : s.restorePermits.pending = s.pending := by
  unfold State.restorePermits
  rw [(State.restorePermits_passed _).pending]
  exact State.foldl_pending (fun t k => t.dropDuplicate_pending s k) _ s

@[simp] theorem State.firstBreak_pending : s.firstBreak.pending = s.pending := rfl

@[simp] theorem State.endStartUp_pending : s.endStartUp.pending = s.pending := rfl

@[simp] theorem State.deliverHeldTick_pending : s.deliverHeldTick.pending = s.pending := by
  unfold State.deliverHeldTick
  split
  · exact State.tick_pending _
  · rfl

@[simp] theorem State.finishStartUp_pending : s.finishStartUp.pending = s.pending := by
  have hjudged : s.judgeFirst.pending = s.pending := by rw [State.judgeFirst_eq]
  rw [State.finishStartUp_eq, State.takeUrgent_pending, State.deliverHeldTick_pending, State.endStartUp_pending, State.nearlyStarted,
    State.recompute_pending, State.firstBreak_pending, (State.recordFrame_closeStoredEvents _).pending,
    (State.recordFrame_restoreVisits _).pending, State.restorePermits_pending, hjudged]

end

/-! ### Every command -/

/-- Every command answers a next state, with the queue it was given (log 2). -/
theorem exec_keeps_pending (i : Instr) (s : State) : ∃ t, exec i s = .next t ∧ t.pending = s.pending := by
  have request : ∀ {code : Byte} {need : Nat} {f : RequestFrame} {handle : List Byte → State → State × Answer},
      (∀ b u, (handle b u).1.pending = u.pending) → (s.takeRequest code need f handle).pending = s.pending :=
    fun hh => s.takeRequest_pending _ _ _ hh
  cases i with
  | floorRead f => exact ⟨_, rfl, request fun _ _ => rfl⟩
  | floorConfigWrite f => exact ⟨_, rfl, request fun _ u => u.writeConfig_pending _⟩
  | clockSet f => exact ⟨_, rfl, request fun _ _ => rfl⟩
  | attentionRead f => exact ⟨_, rfl, request fun _ _ => rfl⟩
  | cabinetSet f => exact ⟨_, rfl, request cabinetSet_pending⟩
  | cabinetDrop f => exact ⟨_, rfl, request cabinetDrop_pending⟩
  | cabinetRead f => exact ⟨_, rfl, request cabinetRead_pending⟩
  | profileWrite f => exact ⟨_, rfl, request profileWrite_pending⟩
  | profileRead f => exact ⟨_, rfl, request profileRead_pending⟩
  | stringCommission f => exact ⟨_, rfl, request stringCommission_pending⟩
  | stringRead f => exact ⟨_, rfl, request stringRead_pending⟩
  | stringPulse f => exact ⟨_, rfl, request stringPulse_pending⟩
  | stringDrop f => exact ⟨_, rfl, request stringDrop_pending⟩
  | permitAsk f => exact ⟨_, rfl, request permitAsk_pending⟩
  | permitRead f => exact ⟨_, rfl, request permitRead_pending⟩
  | permitRecall f => exact ⟨_, rfl, request permitRecall_pending⟩
  | permitCancel f => exact ⟨_, rfl, request permitCancel_pending⟩
  | visitOpen f => exact ⟨_, rfl, request visitOpen_pending⟩
  | visitAdd f => exact ⟨_, rfl, request visitAdd_pending⟩
  | visitStart f => exact ⟨_, rfl, request visitStart_pending⟩
  | visitFinish f => exact ⟨_, rfl, request visitFinish_pending⟩
  | visitAbandon f => exact ⟨_, rfl, request visitAbandon_pending⟩
  | visitClose f => exact ⟨_, rfl, request visitClose_pending⟩
  | visitRead f => exact ⟨_, rfl, request visitRead_pending⟩
  | unknownRequest code f => exact ⟨_, rfl, s.frameEvent_pending _ _ State.judgeUnknown_pending⟩
  | statusPeek b => exact ⟨_, rfl, s.frameEvent_pending _ _ fun _ => rfl⟩
  | disregardedFrame b rest => exact ⟨_, rfl, s.frameEvent_pending _ _ fun _ => rfl⟩
  | fetch rest => exact ⟨_, rfl, s.frameEvent_pending _ _ fun u => u.judgeFetch_pending _⟩
  | urgent order rest => exact ⟨_, rfl, s.frameEvent_pending _ _ fun u => u.placeOrder_pending _⟩
  | urgentCancel rest => exact ⟨_, rfl, s.frameEvent_pending _ _ State.cancelOrder_pending⟩
  | portReset rest => exact ⟨_, rfl, s.frameEvent_pending _ _ fun _ => rfl⟩
  | pollSlot orderFirst =>
    refine ⟨_, rfl, ?_⟩
    split
    · split <;> simp
    · rfl
  | breakSlot =>
    refine ⟨_, rfl, ?_⟩
    split <;> simp
  | idleSlot =>
    refine ⟨_, rfl, ?_⟩
    split <;> simp
  | noReply => exact ⟨_, rfl, s.pollFails_pending⟩
  | noReplyInTime => exact ⟨_, rfl, s.pollFails_pending⟩
  | replyEnd chars => exact ⟨_, rfl, s.takeReply_pending _⟩
  | askWaitEnd => exact ⟨_, rfl, s.judgeIfSettled_pending⟩
  | askEarlyEnd =>
    refine ⟨_, rfl, ?_⟩
    split
    · rfl
    · split <;> simp
  | minuteTick =>
    refine ⟨_, rfl, ?_⟩
    split
    · split <;> simp
    · rfl
    · rfl
  | calendarStep slot =>
    refine ⟨_, rfl, ?_⟩
    split
    · rfl
    · split <;> simp
  | automaticPulse slot =>
    refine ⟨_, rfl, ?_⟩
    split
    · rfl
    · split
      · rfl
      · split <;> simp
  | grantTimeout slot =>
    refine ⟨_, rfl, ?_⟩
    split
    · rfl
    · split <;> simp [State.expireGrant]
  | permitOverdue slot =>
    refine ⟨_, rfl, ?_⟩
    split
    · rfl
    · split <;> rfl
  | visitOvertime slot =>
    refine ⟨_, rfl, ?_⟩
    split
    · rfl
    · split <;> rfl
  | utilitySenseEdge high =>
    refine ⟨_, rfl, ?_⟩
    split <;> rfl
  | utilityChange => exact ⟨_, rfl, s.passTime_pending _⟩
  | storeWriteBegin =>
    refine ⟨_, rfl, ?_⟩
    split <;> rfl
  | storeWriteEnd o =>
    refine ⟨_, rfl, ?_⟩
    split <;> simp
  | powerOn =>
    refine ⟨_, rfl, ?_⟩
    split
    · exact s.start_pending _
    · exact s.losePower.start_pending _
    · exact s.losePower.start_pending _
  | powerLoss =>
    refine ⟨_, rfl, ?_⟩
    split <;> rfl
  | resetAssert o =>
    refine ⟨_, rfl, ?_⟩
    split <;> rfl
  | resetLine =>
    refine ⟨_, rfl, ?_⟩
    split <;> simp [State.completeWrite]
  | firstUtilityJudgement =>
    refine ⟨_, rfl, ?_⟩
    split <;> simp
  | floorClockSecond =>
    refine ⟨_, rfl, ?_⟩
    split <;> rfl
  | chipSelectAssertion =>
    refine ⟨_, rfl, ?_⟩
    split <;> rfl

end Sys2Proof.Machine

section
open Sys2Proof Sys2Proof.Machine

/-- Settles O2: by cases on the command, each arm of `exec` answers next with operations that leave the queue as it was. -/
theorem everyCommandCompletes : Obligations.EveryCommandCompletes := exec_keeps_pending

end
